-- ==== Sys2Proof/Word.lean ====
section
/-! DEFINITION. The words the 620 counts in: bytes, meter and sequence words, hall times (R1, R4). -/

namespace Sys2Proof

/-- A byte of a frame, of a camera message or of the configuration image. -/
abbrev Byte := BitVec 8

/-- A 16-bit figure of a layout. -/
abbrev Word16 := BitVec 16

/-- A sequence number (R53), or a mask with one bit for each address (R192). -/
abbrev Word32 := BitVec 32

/-- The integer part of hall time: microseconds modulo 2^48 (R1, R4). -/
abbrev Time := BitVec 48

/-- The fraction of hall time, in units of 2^-24 microseconds (R1). -/
abbrev Fraction := BitVec 24

/-- A set of heads: bit h stands for head h (R140, R199). -/
abbrev HeadSet := BitVec 8

end Sys2Proof
end

