-- ==== Sys2Proof/Syntax.lean ====
section
/-! DEFINITION. The commands of the 620: one constructor of `Instr` for each row of spec/opcode_table.json. The table names
no operands; each command carries what the rule of its row says comes from outside the part. Codes that a frame may carry
out of range (R200) are kept as the bytes received. -/

namespace Sys2Proof

/-- The level of the hall line in one local microsecond (R159). -/
inductive LineLevel where
  | recessive
  | dominant
  deriving DecidableEq, Repr

/-- What the part samples on its pins in one local microsecond: the hall line (R159), the two result lines (R111), the data
from the serial memory (R188), and the drive ready and meter inputs of each head (R76); true, or a bit of 1, is high. -/
structure PinSamples where
  line : LineLevel
  resultA : Bool
  resultB : Bool
  memory : Bool
  ready : HeadSet
  meter : HeadSet
  deriving DecidableEq, Repr

/-- A camera port (R100). -/
inductive Port where
  | a
  | b
  deriving DecidableEq, Repr

/-- A debounced input and the pin level it goes to (R31, R48, R76, R120); true is high. The two switch channels stand
together, since both may change at one local microsecond (R34). -/
inductive RawInput where
  | switch (swa swb : Bool)
  | door (high : Bool)
  | key (high : Bool)
  | infeed (high : Bool)
  | pitch (high : Bool)
  | confirm (high : Bool)
  | driveFault (head : Nat) (high : Bool)
  deriving DecidableEq, Repr

/-- The inputs whose debounced change back acts on nothing (R48, R120). -/
inductive QuietInput where
  | infeed
  | pitch
  | confirm
  deriving DecidableEq, Repr

/-- What the receiver has at the end of a frame (R161). -/
inductive Collected where
  /-- Reception broke off: a stop bit read dominant, over 9 µs dominant, or over 62 bytes; `onDominant` says that the frame ended
  on a dominant line. -/
  | broken (onDominant : Bool)
  /-- The frame ended in 11 µs recessive with these bytes, DEST to the last CRC byte. -/
  | ended (bytes : List Byte)
  deriving DecidableEq, Repr

/-- The four cabinet values of a CAB or a BCN, as received (R30). -/
structure CabinetCodes where
  switch : Byte
  door : Byte
  key : Byte
  permission : Byte
  deriving DecidableEq, Repr

/-- The payload of a BCN (R201). A receiving 620 does not use the last four fields (R202). -/
structure BcnBody where
  stamp : Time
  quality : Byte
  cabinet : CabinetCodes
  intervalMs : Word16
  lock : Byte
  gateFault : Byte
  fill : Byte
  deriving DecidableEq, Repr

/-- The payload of an HND (R201). -/
structure HndBody where
  sequence : Word32
  capture : Time
  fill : Byte
  meter : Word16
  verdicts : Byte
  failA : Byte
  failB : Byte
  reasons : Byte
  flags : Byte
  quality : Byte
  deriving DecidableEq, Repr

/-- The commands, in the order of spec/opcode_table.json. -/
inductive Instr where
  /-- POWER_ON_RESET (R187): the supply is below its valid level at this instant. -/
  | powerOnReset
  /-- RESET_PIN (R187): a low sample on RST_N. -/
  | resetPin
  /-- RESET_RELEASE (R186, R187): the power-on hold ends, or RST_N is sampled; `rstHigh` is the level of RST_N. -/
  | resetRelease (rstHigh : Bool)
  /-- IMAGE_REJECTED (R189): a check fails; `image` is what the memory holds, from address 0. -/
  | imageRejected (image : List Byte)
  /-- END_OF_LOADING (R195): the image passes; `image` is what the memory holds. -/
  | endOfLoading (image : List Byte)
  /-- END_OF_JOINING (R196). -/
  | endOfJoining
  /-- LOCAL_MICROSECOND (R2): one local microsecond, with what the pins read in it. -/
  | localMicrosecond (pins : PinSamples)
  /-- ROUND_END (R11). -/
  | roundEnd
  /-- START_MARK (R9, R159, R161). -/
  | startMark
  /-- CHECK_ERROR (R162). -/
  | checkError (failure : Collected)
  /-- FRAME_DISCARDED (R162): a whole frame, by its four parts. -/
  | frameDiscarded (dest src kind : Byte) (payload : List Byte)
  /-- BCN (R10). -/
  | bcn (dest src : Byte) (body : BcnBody)
  /-- CAB (R30). -/
  | cab (dest src : Byte) (values : CabinetCodes)
  /-- HND (R61). -/
  | hnd (dest src : Byte) (body : HndBody)
  /-- CRP (R171). -/
  | crp (dest src : Byte) (payload : List Byte)
  /-- EVT (R171). -/
  | evt (dest src : Byte) (payload : List Byte)
  /-- ARP (R171). -/
  | arp (dest src : Byte) (payload : List Byte)
  /-- ANS (R171). -/
  | ans (dest src : Byte) (payload : List Byte)
  /-- ARQ (R142): level code, span byte, duration in seconds (R201). -/
  | arq (dest src level span : Byte) (seconds : Word16)
  /-- ARL (R148). -/
  | arl (dest src number : Byte)
  /-- JOG (R151). -/
  | jog (dest src head count : Byte)
  /-- LCK (R139). -/
  | lck (dest src : Byte)
  /-- QRY (R180). -/
  | qry (dest src table start count clear : Byte)
  /-- TRANSMIT_START (R163). -/
  | transmitStart
  /-- FRAME_SENT (R163): the last CRC byte is read back correctly. -/
  | frameSent
  /-- COLLISION (R165): a byte, or the start mark, is read back differently. -/
  | collision
  /-- RAW_INPUT_CHANGE (R32). -/
  | rawInputChange (input : RawInput)
  /-- SWITCH_CHANNEL_CHANGE (R34). -/
  | switchChannelChange
  /-- DISCREPANCY (R35). -/
  | discrepancy
  /-- RESTORE_TIMER_EXPIRY (R44). -/
  | restoreTimerExpiry
  /-- DOOR_CHANGE (R37). -/
  | doorChange
  /-- KEY_CHANGE (R138). -/
  | keyChange
  /-- CAPTURE (R50). -/
  | capture
  /-- PITCH (R49). -/
  | pitch
  /-- ARRIVAL_LOST (R64): the entry at this position of the Arrival List, 0 the oldest. -/
  | arrivalLost (position : Nat)
  /-- DECIDE (R68). -/
  | decide
  /-- DOSE_START (R84). -/
  | doseStart (head : Nat)
  /-- LOW_PHASE_END (R85). -/
  | lowPhaseEnd (head : Nat)
  /-- PULSE_EMITTED (R85). -/
  | pulseEmitted (head : Nat)
  /-- DRIVE_READY_CHANGE (R86): the level the input now samples. -/
  | driveReadyChange (head : Nat) (high : Bool)
  /-- METER_PULSE (R92). -/
  | meterPulse (head : Nat)
  /-- DOSE_TIMEOUT (R88). -/
  | doseTimeout (head : Nat)
  /-- RESUME_LIMIT (R90). -/
  | resumeLimit (head : Nat)
  /-- SETTLE_END (R91). -/
  | settleEnd (head : Nat)
  /-- DRIVE_FAULT_ACTIVE (R78). -/
  | driveFaultActive (head : Nat)
  /-- DRIVE_FAULT_INACTIVE (R77). -/
  | driveFaultInactive (head : Nat)
  /-- GRANT_EXPIRY (R150): the grant with this number. -/
  | grantExpiry (number : Nat)
  /-- TRIGGER_TIME (R104), with the busy input as it samples at this local microsecond. -/
  | triggerTime (port : Port) (busy : Bool)
  /-- TRIGGER_PULSE_END (R105). -/
  | triggerPulseEnd (port : Port)
  /-- GUARD_END (R105). -/
  | guardEnd (port : Port)
  /-- STROBE_DUE (R109). -/
  | strobeDue (port : Port)
  /-- STROBE_END (R110). -/
  | strobeEnd (port : Port)
  /-- STROBE_OFF_EXPIRY (R109). -/
  | strobeOffExpiry (port : Port)
  /-- RESULT_MESSAGE (R114, R115): the byte that completes in CHECK. -/
  | resultMessage (port : Port) (byte : Byte)
  /-- FRAMING_ERROR (R112). -/
  | framingError (port : Port)
  /-- INTER_BYTE_TIMEOUT (R113). -/
  | interByteTimeout (port : Port)
  /-- FIRING_START (R124). -/
  | firingStart
  /-- FIRING_END (R126). -/
  | firingEnd
  /-- CONFIRM_EDGE (R125). -/
  | confirmEdge
  /-- CONFIRM_WINDOW_END (R126). -/
  | confirmWindowEnd
  /-- RESULT_BYTE (R112). -/
  | resultByte (port : Port) (byte : Byte)
  /-- DEBOUNCE_TIMER_EXPIRY (R32). -/
  | debounceTimerExpiry (input : QuietInput)
  deriving DecidableEq, Repr

end Sys2Proof
end

