-- ==== Sys2Proof/Config.lean ====
section
/-! DEFINITION. What is fixed for the part (capacities and built-in figures of the manual) and the configuration record
that a station learns once, at the end of LOADING (R192, R204). The manual leaves no value free, so there is no opaque constant. -/

namespace Sys2Proof

/-- Capacity of the Tracking Queue (R54). -/
def Config.trackingCapacity : Nat := 64
/-- Capacity of the Arrival List (R60). -/
def Config.arrivalCapacity : Nat := 32
/-- Capacity of the Gate List (R121). -/
def Config.gateCapacity : Nat := 16
/-- Capacity of each pending-trigger list (R107). -/
def Config.pendingCapacity : Nat := 16
/-- Capacity of the Grant Table (R141). -/
def Config.grantCapacity : Nat := 4
/-- Capacity of the General Queue (R168). -/
def Config.queueCapacity : Nat := 16
/-- Head controllers of the part, fitted or not (R76). -/
def Config.headControllers : Nat := 8
/-- Fixed debounce of the drive fault inputs, in local microseconds (R76). -/
def Config.driveFaultDebounce : Nat := 1000
/-- Guard after a trigger pulse, in local microseconds (R105). -/
def Config.guardTime : Nat := 10
/-- The idle gap before a frame, in local microseconds (R163). -/
def Config.gap : Nat := 12
/-- Recessive microseconds that end a frame (R159). -/
def Config.frameEnd : Nat := 11
/-- The longest a line may stay dominant within a frame, in local microseconds (R161). -/
def Config.longestDominant : Nat := 9
/-- Attempts after which a candidate is given up (R166). -/
def Config.maxAttempts : Nat := 8
/-- The length of the configuration image, in bytes (R204). -/
def Config.imageBytes : Nat := 134
/-- The power-on hold, in local microseconds (R187). -/
def Config.powerOnHold : Nat := 10000

namespace Machine

/-- The items of one camera port (R118). Times are in microseconds. -/
structure CameraConfig where
  enabled : Bool
  baud : Nat
  triggerDelay : Nat
  triggerWidth : Nat
  strobeDelay : Nat
  strobeDuration : Nat
  strobeOff : Nat
  deriving DecidableEq, Repr

/-- The items of the Hall Clock, the Peer Table and the Cabinet Monitor (R24, R47). Debounces count 0.1 ms. -/
structure HallConfig where
  /-- The station address, 1..30 (R191). -/
  address : Nat
  intervalMs : Nat
  lineDelay : Nat
  countedMask : Word32
  dependentMask : Word32
  absentLimit : Nat
  switchDebounce : Nat
  doorDebounce : Nat
  keyDebounce : Nat
  discrepancyMs : Nat
  restoreMs : Nat
  deriving DecidableEq, Repr

/-- The items of the Tracking Unit and the Reject Gate (R75, R134). Debounces count 0.1 ms. -/
structure TrackConfig where
  /-- Heads fitted F, 0..8. -/
  heads : Nat
  infeedDebounce : Nat
  pitchDebounce : Nat
  upstream : Nat
  downstream : Nat
  report : Nat
  transferMs : Nat
  windowMs : Nat
  rejectDelayMs : Nat
  decideMarginMs : Nat
  rejectUnknown : Bool
  reportAll : Bool
  gateFitted : Bool
  gatePulseMs : Nat
  confirmWindowMs : Nat
  confirmDebounce : Nat
  deriving DecidableEq, Repr

/-- The dose parameters (R81). Pulse times are in microseconds. -/
structure DoseConfig where
  /-- Drive pulses T of one dose. -/
  pulses : Nat
  highTime : Nat
  lowTime : Nat
  /-- Meter factor K. -/
  meterFactor : Nat
  tolerance : Nat
  fillDelayMs : Nat
  timeoutMs : Nat
  settleMs : Nat
  resumeMs : Nat
  /-- The expected count E = floor(T × K / 256), computed once at the end of LOADING (R93). -/
  expected : Nat
  deriving DecidableEq, Repr

/-- The lock mode (R135). -/
inductive LockMode where
  | free
  | keyed
  | fixed
  | held
  deriving DecidableEq, Repr

/-- The configuration record: the checked and clamped value of every field (R192, R193). -/
structure ConfigRecord where
  hall : HallConfig
  track : TrackConfig
  dosing : DoseConfig
  cameraA : CameraConfig
  cameraB : CameraConfig
  /-- Pattern period P of port B, 1..16 (R102). -/
  patternPeriod : Nat
  patternMask : Word16
  accessMode : LockMode
  intrusionLocks : Bool
  maxGrantS : Nat
  /-- The class of each source 0..23, after R193 (R177). -/
  classes : List Nat
  deriving DecidableEq, Repr

/-- What the accessors read while the record is empty: every figure 0. Only in RESET, LOADING and FAULTED is the record
empty, and there no command reads it. DESIGN CHOICE: log 27. -/
def ConfigRecord.empty : ConfigRecord :=
  { hall := ⟨0, 0, 0, 0, 0, 0, 0, 0, 0, 0, 0⟩
    track := ⟨0, 0, 0, 0, 0, 0, 0, 0, 0, 0, false, false, false, 0, 0, 0⟩
    dosing := ⟨0, 0, 0, 0, 0, 0, 0, 0, 0, 0⟩
    cameraA := ⟨false, 0, 0, 0, 0, 0, 0⟩
    cameraB := ⟨false, 0, 0, 0, 0, 0, 0⟩
    patternPeriod := 0, patternMask := 0, accessMode := .free, intrusionLocks := false, maxGrantS := 0, classes := [] }

end Machine
end Sys2Proof
end

