-- ==== Sys2Proof/Machine/State.lean ====
section
/-! DEFINITION. The state of the 620, block by block, as plain data, and its value right after a power-on reset. -/

namespace Sys2Proof.Machine

/-- A duration in local microseconds (R5): `none` stopped, `some n` running with n elapsed. -/
abbrev Timer := Option Nat

/-- The station states (R186). -/
inductive Station where
  | reset
  | loading
  | faulted
  | joining
  | running
  deriving DecidableEq, Repr

/-- The time quality of the Hall Clock, and the quality a peer announces (R16). -/
inductive Quality where
  | free
  | acquire
  | synced
  | holdover
  deriving DecidableEq, Repr

/-- The switch state (R34). -/
inductive SwitchState where
  | off
  | on
  | transit
  | fault
  deriving DecidableEq, Repr

/-- The presence of a Peer Table entry (R25). -/
inductive Presence where
  | unknown
  | present
  | absent
  | ownEntry
  deriving DecidableEq, Repr

/-- A debouncer (R32). `raw` is the state that the raw input reads by R31, R48, R76 or R120; `state` is the debounced state;
the timer runs while the two differ. True is ON, CLOSED, COVERED, MARK, SENSED, or a fault. -/
structure Debouncer where
  raw : Bool
  state : Bool
  timer : Timer
  /-- The debounced state has changed in this local microsecond, so it does not change again in it (R48). -/
  moved : Bool
  deriving DecidableEq, Repr

/-- A debouncer at its start value (R33, R48, R76, R120) with the raw input reading `raw`. -/
def Debouncer.start (raw : Bool) : Debouncer := ⟨raw, false, none, false⟩

/-- What a peer last said of its cabinet (R25, R30): switch state, door CLOSED, key ON, run permission. -/
structure CabinetReport where
  switch : SwitchState
  door : Bool
  key : Bool
  permission : Bool
  deriving DecidableEq, Repr

/-- The Start-up Loader and the two lamp pins (R186 to R188, R197). -/
structure Loader where
  station : Station
  record : Option ConfigRecord
  clampRecord : List Nat
  joining : Timer
  /-- The serial memory select is driven low. -/
  memSelected : Bool
  /-- Local microseconds since the read of the image began. -/
  readTimer : Timer
  /-- The bits sampled from the serial memory since the command and address were sent, in their order. -/
  sampled : List Bool
  /-- The power-on hold. -/
  hold : Timer
  /-- RST_N reads low. -/
  rstLow : Bool
  faultLamp : Bool
  runLamp : Bool
  deriving DecidableEq, Repr

/-- The Hall Clock (R1 to R24), with the count of local microseconds in which ready times are read (R164, log 14). -/
structure HallClock where
  time : Time
  frac : Fraction
  trim : Int
  slew : Int
  quality : Quality
  goodRounds : Nat
  emptyRounds : Nat
  nextDue : Option Time
  localTime : Nat
  deriving DecidableEq, Repr

/-- A Peer Table entry (R25). -/
structure Peer where
  presence : Presence
  silence : Nat
  heard : Bool
  offset : Option Int
  quality : Option Quality
  inRound : Bool
  report : Option CabinetReport
  counted : Bool
  dependent : Bool
  deriving DecidableEq, Repr

/-- An entry after either reset (R26). -/
def Peer.atReset : Peer := ⟨.unknown, 0, false, none, none, false, none, false, false⟩

/-- The Cabinet Monitor (R31 to R46). -/
structure Cabinet where
  swA : Debouncer
  swB : Debouncer
  door : Debouncer
  key : Debouncer
  switch : SwitchState
  discrepancy : Timer
  permission : Bool
  restore : Timer
  deriving DecidableEq, Repr

/-- The fill results of this station's own heads (R52). -/
inductive FillResult where
  | pending
  | ok
  | short
  | over
  | dry
  | busy
  | skipped
  | noRun
  | held
  | stalled
  | driveFault
  | late
  deriving DecidableEq, Repr

/-- A fill result with its meter count 0..65535 (R52). -/
structure Fill where
  result : FillResult
  meter : Nat
  deriving DecidableEq, Repr

/-- A fill carried by an HND: its code as received, never 0, and its meter count (R60, R200). -/
structure CarriedFill where
  code : Byte
  meter : Word16
  deriving DecidableEq, Repr

/-- A camera verdict (R52). -/
inductive Verdict where
  | absent
  | pending
  | pass
  | fail (code : Byte)
  | missed
  | noVerdict
  | notTaken
  deriving DecidableEq, Repr

/-- A verdict carried by an HND: its four-bit code as received, and its fail code (R60, R199, R200). -/
structure CarriedVerdict where
  code : BitVec 4
  failCode : Byte
  deriving DecidableEq, Repr

/-- The reasons set of a record (R52, R70). -/
structure Reasons where
  fill : Bool
  skipped : Bool
  verdictA : Bool
  verdictB : Bool
  noVerdict : Bool
  unlit : Bool
  unknownOrigin : Bool
  upstream : Bool
  deriving DecidableEq, Repr

/-- No reason. -/
def Reasons.none : Reasons := ⟨false, false, false, false, false, false, false, false⟩

/-- The origin of a record (R52). -/
inductive Origin where
  | localOrigin
  | handed (address : Nat) (sequence : Word32)
  deriving DecidableEq, Repr

/-- A record of the Tracking Queue (R52). -/
structure Record where
  sequence : Word32
  capture : Time
  origin : Origin
  upstreamFill : Option CarriedFill
  upstreamReject : Bool
  head : Option Nat
  fill : Option Fill
  verdictA : Verdict
  verdictB : Verdict
  unlitA : Bool
  unlitB : Bool
  reasons : Reasons
  trusted : Bool
  deriving DecidableEq, Repr

/-- An entry of the Arrival List (R60). -/
structure Arrival where
  address : Nat
  sequence : Word32
  capture : Time
  fill : Option CarriedFill
  verdictA : CarriedVerdict
  verdictB : CarriedVerdict
  reasons : Byte
  rejectPending : Bool
  expected : Time
  windowStart : Time
  windowEnd : Time
  trusted : Bool
  deriving DecidableEq, Repr

/-- The Tracking Unit (R48 to R74). -/
structure Tracking where
  infeed : Debouncer
  pitch : Debouncer
  pocket : Option Nat
  nextSequence : Word32
  records : List Record
  arrivals : List Arrival
  deriving DecidableEq, Repr

/-- The production state of a head (R77). -/
inductive Production where
  | inProduction
  | draining
  | out
  | faulted
  deriving DecidableEq, Repr

/-- The dose state of a head (R82). -/
inductive DoseState where
  | idle
  | waitStart
  | run
  | suspended
  | settle
  deriving DecidableEq, Repr

/-- The dose in hand (R82), with the settle timer of R91. -/
structure DoseInHand where
  sequence : Word32
  startTime : Time
  emitted : Nat
  meter : Nat
  doseTimer : Timer
  resumeTimer : Timer
  settleTimer : Timer
  deriving DecidableEq, Repr

/-- A running jog (R96), with the holder that its JOG_DONE goes to (R152). -/
structure JogInHand where
  target : Nat
  emitted : Nat
  meter : Nat
  holder : Nat
  deriving DecidableEq, Repr

/-- The pulse train (R85, R86): stopped, paused for drive ready, or in a phase with its elapsed local microseconds. -/
inductive Train where
  | stopped
  | paused
  | low (elapsed : Nat)
  | high (elapsed : Nat)
  deriving DecidableEq, Repr

/-- A Head Controller and its outputs (R76 to R97). -/
structure Head where
  fault : Debouncer
  /-- The drive ready level that the pulse train follows (R86). -/
  ready : Bool
  /-- The drive ready input as last sampled; where it differs from `ready`, the change is not yet taken (R76). -/
  readySample : Bool
  /-- The meter input as last sampled (R76). -/
  meterSample : Bool
  /-- The last meter sample is high following a low one, and this meter pulse is not yet taken (R76). -/
  meterRose : Bool
  production : Production
  dose : DoseState
  hand : Option DoseInHand
  jog : Option JogInHand
  train : Train
  pulseOut : Bool
  enableOut : Bool
  deriving DecidableEq, Repr

/-- A head after either reset (R79), with its three input levels. -/
def Head.atReset (faultRaw ready meter : Bool) : Head :=
  ⟨Debouncer.start faultRaw, ready, ready, meter, false, .inProduction, .idle, none, none, .stopped, false, false⟩

/-- An entry of a pending-trigger list (R107). -/
structure PendingTrigger where
  tag : Byte
  sequence : Word32
  deriving DecidableEq, Repr

/-- A due strobe (R108): local microseconds since its trigger, and its record's sequence. -/
structure DueStrobe where
  elapsed : Nat
  sequence : Word32
  deriving DecidableEq, Repr

/-- The serial receiver of a camera port (R111). -/
inductive SerialReceiver where
  /-- No character: in RUNNING it looks for a start bit. -/
  | idle
  /-- In a character: local microseconds since its start bit was first seen, and the data bits taken, newest first. -/
  | inCharacter (elapsed : Nat) (bits : List Bool)
  /-- A character is complete and not yet handed on: a byte, or none for a framing error. -/
  | complete (result : Option Byte)
  /-- After a framing error: it waits for the line to read high. -/
  | waitHigh
  deriving DecidableEq, Repr

/-- The result assembler (R112), with the bytes taken so far. -/
inductive Assembler where
  | hunt
  | tag
  | verdict (tag : Byte)
  | check (tag verdict : Byte)
  deriving DecidableEq, Repr

/-- A camera port (R100 to R113). -/
structure CameraPort where
  tag : Byte
  pending : List PendingTrigger
  trigger : Timer
  guard : Timer
  triggerOut : Bool
  schedule : List DueStrobe
  strobe : Timer
  strobeOut : Bool
  /-- The strobe off timer; `none` is expired. -/
  offTimer : Timer
  receiver : SerialReceiver
  assembler : Assembler
  interByte : Timer
  busy : Bool
  /-- The pattern counter, used on port B. -/
  pattern : Nat
  deriving DecidableEq, Repr

/-- A port after either reset (R101). -/
def CameraPort.atReset : CameraPort :=
  ⟨0, [], none, none, false, [], none, false, none, .idle, .hunt, none, false, 0⟩

/-- The phase of a firing (R121). -/
inductive FiringPhase where
  | waiting
  | on
  | tail
  deriving DecidableEq, Repr

/-- A firing of the Gate List (R121). -/
structure Firing where
  start : Time
  stop : Time
  containers : Nat
  count : Nat
  phase : FiringPhase
  deriving DecidableEq, Repr

/-- The Reject Gate (R120 to R128). -/
structure Gate where
  firings : List Firing
  confirm : Debouncer
  unconfirmed : Nat
  fault : Bool
  output : Bool
  deriving DecidableEq, Repr

/-- The level of a grant (R141). -/
inductive Level where
  | inspect
  | jog
  | door
  deriving DecidableEq, Repr

/-- A grant (R141). -/
structure Grant where
  number : Nat
  holder : Nat
  level : Level
  heads : HeadSet
  grantedAt : Time
  expiresAt : Time
  readySent : Bool
  deriving DecidableEq, Repr

/-- The Access Unit (R135 to R156). The lock mode is absent until the end of LOADING (R135, log 26). -/
structure Access where
  lockMode : Option LockMode
  heldLock : Bool
  grants : List Grant
  nextGrant : Nat
  deriving DecidableEq, Repr

/-- Occurrences gathered in a latch or in a sending record (R174, R170). -/
structure Gathered where
  count : Nat
  first : Option Time
  detail : Option Byte
  deriving DecidableEq, Repr

/-- Nothing gathered. -/
def Gathered.none : Gathered := ⟨0, Option.none, Option.none⟩

/-- An event latch (R174), its class (R177), and what the Line Port keeps for it (R164, R166, R170). -/
structure Latch where
  pending : Bool
  content : Gathered
  cls : Nat
  ready : Nat
  attempts : Nat
  blocked : Bool
  sending : Gathered
  deriving DecidableEq, Repr

/-- A clear latch of class `cls` (R173, R174). -/
def Latch.clear (cls : Nat) : Latch := ⟨false, Gathered.none, cls, 0, 0, false, Gathered.none⟩

/-- The sources that are always of class 1: INTRUSION, DISCREPANCY, GATE_FAULT, ACCESS_HELD (R177). -/
def fixedClassOne : List Nat := [0, 1, 14, 22]

/-- The 24 latches after either reset (R174); the classes that the image sets later read 2 (DESIGN CHOICE: log 25). -/
def latchesAtReset : List Latch :=
  (List.range 24).map fun i => Latch.clear (if fixedClassOne.contains i then 1 else 2)

/-- The frame kinds (R171). -/
inductive FrameKind where
  | bcn
  | cab
  | hnd
  | crp
  | evt
  | arq
  | arp
  | arl
  | jog
  | lck
  | qry
  | ans
  deriving DecidableEq, Repr

/-- A frame as its owner hands it over (R167). -/
structure OutFrame where
  kind : FrameKind
  dest : Byte
  payload : List Byte
  deriving DecidableEq, Repr

/-- An entry of the General Queue (R168). -/
structure QueueEntry where
  frame : OutFrame
  cls : Nat
  ready : Nat
  attempts : Nat
  inAttempt : Bool
  deriving DecidableEq, Repr

/-- The states of the CAB slot (R39). -/
inductive CabSlot where
  | empty
  | pending
  | sending
  deriving DecidableEq, Repr

/-- What a beacon takes when it is placed: bytes 11 to 15 (R202). -/
structure BcnPlacement where
  intervalMs : Word16
  lock : Byte
  gateFault : Byte
  fill : Byte
  deriving DecidableEq, Repr

/-- Where a receiver stands in its frame (R159, R161): in the start mark with the microseconds of it gone by, between bytes with the
microseconds since the last stop bit, within a byte with the data bits taken, or at the end. Bytes and bits stand newest
first. -/
inductive Collector where
  | mark (gone : Nat)
  | between (taken : List Byte) (quiet : Nat)
  | inByte (taken : List Byte) (bits : List Bool)
  | over (collected : Collected)
  deriving DecidableEq, Repr

/-- A receiver in a frame, with how long the line has now been dominant and recessive (R159, R161). -/
structure Collecting where
  place : Collector
  dominant : Nat
  recessive : Nat
  deriving DecidableEq, Repr

/-- The receiver (R161). A frame in collection keeps the Hall Clock's start-mark stamp (R9) and what has been collected; it stands, at
its end too, until a command judges it. -/
inductive Receiver where
  | watching
  | collecting (stamp : Time) (frame : Collecting)
  | waitRecessive
  deriving DecidableEq, Repr

/-- What the transmitter sends (R164): a slot, the latch of a source, or the first entry of a class in the General Queue. -/
inductive Candidate where
  | cab
  | bcn
  | latch (source : Nat)
  | queued (cls : Nat)
  deriving DecidableEq, Repr

/-- An attempt in progress (R163, R165): its candidate, the frame it puts on the line, DEST to the last CRC byte, and the
levels read back since its start mark began, one for each local microsecond; true is recessive. -/
structure Attempt where
  candidate : Candidate
  bytes : List Byte
  readBack : List Bool
  deriving DecidableEq, Repr

/-- The Line Port (R159 to R173). `tx` is none in LISTEN. -/
structure LinePort where
  rx : Receiver
  idle : Nat
  /-- The present local microsecond is dominant and the first after at least 11 recessive ones: a start mark (R159). -/
  startMark : Bool
  tx : Option Attempt
  backoff : Bool
  cabSlot : CabSlot
  renew : Bool
  cabAttempts : Nat
  bcnSlot : Option BcnPlacement
  bcnAttempts : Nat
  queue : List QueueEntry
  deriving DecidableEq, Repr

/-- The state of the 620, with the queue of commands that wait. -/
structure State where
  loader : Loader
  clock : HallClock
  /-- Thirty entries; address n stands at index n - 1 (R25). -/
  peers : List Peer
  cabinet : Cabinet
  tracking : Tracking
  /-- Eight controllers; heads F..7 are not fitted (R98). -/
  heads : List Head
  portA : CameraPort
  portB : CameraPort
  gate : Gate
  access : Access
  /-- Twenty-four latches, by source number (R174). -/
  latches : List Latch
  /-- Twenty counters, by index (R179). -/
  counters : List Nat
  line : LinePort
  /-- The commands that wait, first in, first out. -/
  pending : List Instr
  deriving DecidableEq, Repr

/-- Nothing in the manual stops the part, so no fault is raised (INVENTORY.md, "Faults"). -/
inductive Fault where
  deriving DecidableEq, Repr

/-- Refusals. -/
inductive Refusal where
  /-- A command that has no meaning yet; raised by an arm of `exec`; safe. -/
  | notModelled (mnemonic : String)
  deriving DecidableEq, Repr

/-- Right after a power-on reset is taken (R187): station RESET with the power-on hold at 0, every block at its reset values
(R6, R26, R46, R74, R79, R101, R128, R156, R173, R174, R179, R186, R197). The input levels are DESIGN CHOICE: RST_N high
(log 6); every debounced input reads its start value, and the drive ready and
meter inputs are low (log 7). -/
def State.reset : State :=
  { loader := ⟨.reset, none, [], none, false, none, [], some 0, false, true, false⟩
    clock := ⟨0, 0, 0, 0, .free, 0, 0, none, 0⟩
    peers := List.replicate 30 Peer.atReset
    cabinet := ⟨.start false, .start false, .start false, .start false, .off, none, false, none⟩
    tracking := ⟨.start false, .start false, some 0, 1, [], []⟩
    heads := List.replicate 8 (Head.atReset false false false)
    portA := CameraPort.atReset
    portB := CameraPort.atReset
    gate := ⟨[], .start false, 0, false, false⟩
    access := ⟨none, false, [], 1⟩
    latches := latchesAtReset
    counters := List.replicate 20 0
    line := ⟨.watching, 0, false, none, false, .empty, false, 0, none, 0, []⟩
    pending := [] }

end Sys2Proof.Machine
end

