-- ==== Sys2Proof/Machine/Ops.lean ====
section
/-! DEFINITION. The operations that every block shares: hall times and durations, the accessors of State, occurrences (R175),
counts (R179), the announcement of the cabinet (R39), and the handover of a frame to the General Queue (R168, R169). -/

namespace Sys2Proof.Machine

/-! ## Hall times (R4) -/

/-- t1 is before t2: the signed difference t2 - t1 is positive (00_scope, "Conventions"). -/
def before (t1 t2 : Time) : Bool := 0 < (t2 - t1).toInt

/-- The due time is reached: now - due is zero or positive (R4). -/
def reached (due now : Time) : Bool := 0 ≤ (now - due).toInt

/-- A point in hall time moved on by a configured time in microseconds, modulo 2^48 (R4). -/
def after (t : Time) (micros : Nat) : Time := t + BitVec.ofNat 48 micros

/-- A point in hall time moved by a signed correction, modulo 2^48 (R19). -/
def movedBy (t : Time) (c : Int) : Time := t + BitVec.ofInt 48 c

/-! ## Durations (R5) -/

/-- One local microsecond of a timer. -/
def Timer.tick : Timer → Timer
  | none => none
  | some n => some (n + 1)

/-- The timer runs and has reached the figure. -/
def Timer.hasReached (timer : Timer) (figure : Nat) : Bool :=
  match timer with
  | none => false
  | some n => figure ≤ n

/-- A count that stops at its top value. -/
def saturate (top n : Nat) : Nat := min top n

/-- Change the first item that meets a test. -/
def modifyFirst {α : Type} (p : α → Bool) (f : α → α) : List α → List α
  | [] => []
  | x :: rest => if p x then f x :: rest else x :: modifyFirst p f rest

/-! ## Accessors -/

/-- The configuration record, or the empty one (log 27). -/
def State.cfg (s : State) : ConfigRecord := s.loader.record.getD ConfigRecord.empty

/-- The stamp: the integer part of hall time at this instant (R4). -/
def State.now (s : State) : Time := s.clock.time

/-- The station is in JOINING or RUNNING. -/
def State.listening (s : State) : Bool := s.loader.station = .joining || s.loader.station = .running

/-- The station is in RUNNING. -/
def State.running (s : State) : Bool := s.loader.station = .running

/-- The lock mode; FREE stands in while none is set, where nothing reads it (R135, log 26). -/
def State.lock (s : State) : LockMode := s.access.lockMode.getD .free

/-- The head is fitted: 0..F-1 (R76, R98). -/
def State.fitted (s : State) (h : Nat) : Bool := h < s.cfg.track.heads

/-- The controller of a head. -/
def State.head (s : State) (h : Nat) : Head := s.heads.getD h (Head.atReset false false false)

/-- Change one head. -/
def State.setHead (s : State) (h : Nat) (f : Head → Head) : State := { s with heads := s.heads.modify h f }

/-- The Peer Table entry of an address 1..30. -/
def State.peer (s : State) (address : Nat) : Peer := s.peers.getD (address - 1) Peer.atReset

/-- Change the Peer Table entry of an address 1..30. -/
def State.setPeer (s : State) (address : Nat) (f : Peer → Peer) : State :=
  { s with peers := s.peers.modify (address - 1) f }

/-- A camera port. -/
def State.port (s : State) : Port → CameraPort
  | .a => s.portA
  | .b => s.portB

/-- Change a camera port. -/
def State.setPort (s : State) (p : Port) (f : CameraPort → CameraPort) : State :=
  match p with
  | .a => { s with portA := f s.portA }
  | .b => { s with portB := f s.portB }

/-- The configured items of a camera port (R118). -/
def State.camera (s : State) : Port → CameraConfig
  | .a => s.cfg.cameraA
  | .b => s.cfg.cameraB

/-- A record's verdict for a port (R52). -/
def Record.verdict (r : Record) : Port → Verdict
  | .a => r.verdictA
  | .b => r.verdictB

/-- Write a record's verdict for a port. -/
def Record.withVerdict (r : Record) (p : Port) (v : Verdict) : Record :=
  match p with
  | .a => { r with verdictA := v }
  | .b => { r with verdictB := v }

/-- Mark a record unlit for a port (R109). -/
def Record.withUnlit (r : Record) (p : Port) : Record :=
  match p with
  | .a => { r with unlitA := true }
  | .b => { r with unlitB := true }

/-- A record with this sequence stands in the Tracking Queue (R59). -/
def State.tracks (s : State) (sequence : Word32) : Bool := s.tracking.records.any fun r => r.sequence = sequence

/-- Write into the record with this sequence; no write is made when it is no longer in the queue (R59). -/
def State.updateRecord (s : State) (sequence : Word32) (f : Record → Record) : State :=
  { s with tracking := { s.tracking with
      records := s.tracking.records.map fun r => if r.sequence = sequence then f r else r } }

/-- Do one operation at each fitted head, in ascending order (log 13). -/
def State.forHeads (s : State) (f : Nat → State → State) : State :=
  (List.range s.cfg.track.heads).foldl (fun s' h => f h s') s

/-- A byte, of a number below 256. -/
def byte (n : Nat) : Byte := BitVec.ofNat 8 n

/-- The outcome of a command whose occasion is tested: its effect when the occasion stands, and no change when it does not
(log 1). -/
def onOccasion (stands : Bool) (s : State) (effect : State → State) : Host.Outcome State Fault Refusal :=
  .next (if stands then effect s else s)

/-! ## Event latches (R174 to R176) -/

/-- The event sources (R176). -/
inductive EventSource where
  | intrusion
  | discrepancy
  | doorOverdue
  | peerAbsent
  | peerReturned
  | timeQuality
  | timeDisagree
  | addressClash
  | headFault
  | doseLate
  | cameraLink
  | cameraStray
  | strobeSkip
  | gateUnconfirmed
  | gateFault
  | gateOverrun
  | trackOverflow
  | arrivalLost
  | arrivalOverflow
  | handoverLate
  | txDrop
  | lineFault
  | accessHeld
  | configClamped
  deriving DecidableEq, Repr

/-- The source number (R176). -/
def sourceNumber : EventSource → Nat
  | .intrusion => 0
  | .discrepancy => 1
  | .doorOverdue => 2
  | .peerAbsent => 3
  | .peerReturned => 4
  | .timeQuality => 5
  | .timeDisagree => 6
  | .addressClash => 7
  | .headFault => 8
  | .doseLate => 9
  | .cameraLink => 10
  | .cameraStray => 11
  | .strobeSkip => 12
  | .gateUnconfirmed => 13
  | .gateFault => 14
  | .gateOverrun => 15
  | .trackOverflow => 16
  | .arrivalLost => 17
  | .arrivalOverflow => 18
  | .handoverLate => 19
  | .txDrop => 20
  | .lineFault => 21
  | .accessHeld => 22
  | .configClamped => 23

/-- One occurrence merged into what is gathered (R175, the first three rows). -/
def Gathered.add (g : Gathered) (stamp : Time) (detail : Byte) : Gathered :=
  if g.count = 0 then ⟨1, some stamp, some detail⟩ else ⟨saturate 255 (g.count + 1), g.first, some detail⟩

/-- One occurrence at a latch: into the sending record while the latch is blocked, into the latch otherwise (R175, R170).
The ready time is set when the latch becomes pending (R164). -/
def Latch.occur (latch : Latch) (stamp : Time) (localTime : Nat) (detail : Byte) : Latch :=
  if latch.blocked then { latch with sending := latch.sending.add stamp detail }
  else if latch.pending then { latch with content := latch.content.add stamp detail }
  else { latch with pending := true, content := Gathered.none.add stamp detail, ready := localTime }

/-- An occurrence of a source is latched, stamped with hall time (R175). -/
def State.occur (s : State) (source : EventSource) (detail : Byte) : State :=
  { s with latches := s.latches.modify (sourceNumber source) fun l => l.occur s.now s.clock.localTime detail }

/-! ## The Counter Bank (R179) -/

/-- The counters (R179). -/
inductive Counter where
  | captures
  | untracked
  | recordsOpened
  | rejected
  | passed
  | rejectsUnexecuted
  | hndSent
  | hndReceived
  | arrivalsMatched
  | unknownArrivals
  | dosesOk
  | dosesNotOk
  | verdictsMatched
  | strayVerdicts
  | framesSent
  | framesTaken
  | checkErrors
  | discards
  | collisions
  | txDrops
  deriving DecidableEq, Repr

/-- The index of a counter (R179). -/
def counterIndex : Counter → Nat
  | .captures => 0
  | .untracked => 1
  | .recordsOpened => 2
  | .rejected => 3
  | .passed => 4
  | .rejectsUnexecuted => 5
  | .hndSent => 6
  | .hndReceived => 7
  | .arrivalsMatched => 8
  | .unknownArrivals => 9
  | .dosesOk => 10
  | .dosesNotOk => 11
  | .verdictsMatched => 12
  | .strayVerdicts => 13
  | .framesSent => 14
  | .framesTaken => 15
  | .checkErrors => 16
  | .discards => 17
  | .collisions => 18
  | .txDrops => 19

/-- A counter is counted: it increases by one and stops at 65535 (R179). -/
def State.count (s : State) (c : Counter) : State :=
  { s with counters := s.counters.modify (counterIndex c) fun n => saturate 65535 (n + 1) }

/-- The value of a counter. -/
def State.counter (s : State) (c : Counter) : Nat := s.counters.getD (counterIndex c) 0

/-! ## Announcing the cabinet (R38, R39) -/

/-- A change of an announced value: in RUNNING it acts on the CAB slot by the slot's state; in JOINING it does not touch
the slot (R39). -/
def State.announce (s : State) : State :=
  if s.running then
    match s.line.cabSlot with
    | .empty => { s with line := { s.line with cabSlot := .pending } }
    | .pending => s
    | .sending => { s with line := { s.line with renew := true } }
  else s

/-! ## The General Queue (R168, R169) -/

/-- The KIND code of a frame kind (R171). -/
def kindCode : FrameKind → Byte
  | .bcn => 0x01#8
  | .cab => 0x02#8
  | .hnd => 0x03#8
  | .crp => 0x04#8
  | .evt => 0x05#8
  | .arq => 0x06#8
  | .arp => 0x07#8
  | .arl => 0x08#8
  | .jog => 0x09#8
  | .lck => 0x0A#8
  | .qry => 0x0B#8
  | .ans => 0x0C#8

/-- A new entry takes its place in the order of class and then of ready time: it is the newest of its class (R168). -/
def insertByClass (e : QueueEntry) : List QueueEntry → List QueueEntry
  | [] => [e]
  | q :: rest => if q.cls ≤ e.cls then q :: insertByClass e rest else e :: q :: rest

/-- The newest class 3 entry that is not in an attempt is taken out: the rest, and the kind of its frame (R169). -/
def dropNewestClassThree : List QueueEntry → Option (List QueueEntry × FrameKind)
  | [] => none
  | q :: rest =>
    match dropNewestClassThree rest with
    | some (kept, kind) => some (q :: kept, kind)
    | none => if q.cls = 3 && !q.inAttempt then some (rest, q.frame.kind) else none

/-- A frame is dropped by the General Queue: TX_DROP with its KIND code, and the TX-drops counter (R169). -/
def State.txDrop (s : State) (kind : FrameKind) : State := (s.occur .txDrop (kindCode kind)).count .txDrops

/-- A frame handed over now, with attempt count 0 (R168). -/
def State.newEntry (s : State) (frame : OutFrame) (cls : Nat) : QueueEntry :=
  ⟨frame, cls, s.clock.localTime, 0, false⟩

/-- The queue has a place free (R168). -/
def State.queueHasRoom (s : State) : Bool := s.line.queue.length < Config.queueCapacity

/-- A frame is handed over to the General Queue, with the table of R169 when the queue is full. -/
def State.handOver (s : State) (frame : OutFrame) (cls : Nat) : State :=
  if s.queueHasRoom then
    { s with line := { s.line with queue := insertByClass (s.newEntry frame cls) s.line.queue } }
  else if cls = 2 then
    match dropNewestClassThree s.line.queue with
    | some (kept, kind) =>
      ({ s with line := { s.line with queue := insertByClass (s.newEntry frame cls) kept } } : State).txDrop kind
    | none => s.txDrop frame.kind
  else s.txDrop frame.kind

end Sys2Proof.Machine
end

