-- ==== Sys2Proof/Machine/Operands.lean ====
section
/-! DEFINITION. The forms of the operands: byte order (spec/11, opening), the codes the 620 writes and reads (R30, R199, R200),
and the span code (R140). -/

namespace Sys2Proof.Machine

/-! ## Byte order: high byte first -/

/-- The n low bytes of a number, high byte first. -/
def bytesOf : Nat → Nat → List Byte
  | 0, _ => []
  | n + 1, v => byte (v / 256 ^ n) :: bytesOf n v

/-- The number that bytes spell, high byte first. -/
def numberOf (bytes : List Byte) : Nat := bytes.foldl (fun acc b => acc * 256 + b.toNat) 0

/-- A hall time in six bytes. -/
def timeBytes (t : Time) : List Byte := bytesOf 6 t.toNat

/-- A list brought to n bytes, filled with 00H (R198). -/
def padTo (n : Nat) (bytes : List Byte) : List Byte := (bytes ++ List.replicate n 0).take n

/-- A flag as 00H or 01H. -/
def flagByte (b : Bool) : Byte := if b then 1 else 0

/-- A byte from its bits, bit 0 first; bits not named are 0. -/
def bitsByte : List Bool → Nat
  | [] => 0
  | b :: rest => (if b then 1 else 0) + 2 * bitsByte rest

/-! ## Codes written (R199) -/

/-- Quality codes. -/
def qualityCode : Quality → Byte
  | .free => 0
  | .acquire => 1
  | .synced => 2
  | .holdover => 3

/-- Switch state codes (R30). -/
def switchCode : SwitchState → Byte
  | .off => 0
  | .on => 1
  | .transit => 2
  | .fault => 3

/-- Lock mode codes. -/
def lockCode : LockMode → Byte
  | .free => 0
  | .keyed => 1
  | .fixed => 2
  | .held => 3

/-- Presence codes. -/
def presenceCode : Presence → Byte
  | .unknown => 0
  | .present => 1
  | .absent => 2
  | .ownEntry => 3

/-- Fill result codes of this station's own results; absent is 0. -/
def fillCode : FillResult → Byte
  | .pending => 1
  | .ok => 2
  | .short => 3
  | .over => 4
  | .dry => 5
  | .busy => 6
  | .skipped => 7
  | .noRun => 8
  | .held => 9
  | .stalled => 10
  | .driveFault => 11
  | .late => 12

/-- Verdict codes. -/
def verdictCode : Verdict → Nat
  | .absent => 0
  | .pending => 1
  | .pass => 2
  | .fail _ => 3
  | .missed => 4
  | .noVerdict => 5
  | .notTaken => 6

/-- The fail code beside a verdict: 00H unless the verdict is FAIL. -/
def verdictFail : Verdict → Byte
  | .fail code => code
  | _ => 0

/-- Production state codes. -/
def productionCode : Production → Byte
  | .inProduction => 0
  | .draining => 1
  | .out => 2
  | .faulted => 3

/-- Dose state codes. -/
def doseCode : DoseState → Byte
  | .idle => 0
  | .waitStart => 1
  | .run => 2
  | .suspended => 3
  | .settle => 4

/-- Level codes. -/
def levelCode : Level → Byte
  | .inspect => 1
  | .jog => 2
  | .door => 3

/-- Assembler state codes. -/
def assemblerCode : Assembler → Byte
  | .hunt => 0
  | .tag => 1
  | .verdict _ => 2
  | .check _ _ => 3

/-- A reasons byte: bit 0 FILL to bit 7 UPSTREAM. -/
def reasonsByte (r : Reasons) : Byte :=
  byte (bitsByte [r.fill, r.skipped, r.verdictA, r.verdictB, r.noVerdict, r.unlit, r.unknownOrigin, r.upstream])

/-- A verdict pair in three bytes. -/
def verdictPair (a b : Verdict) : List Byte :=
  [byte (16 * verdictCode a + verdictCode b), verdictFail a, verdictFail b]

/-- The refusal codes of REFUSED (R155). -/
inductive Refused where
  | locked
  | noKey
  | badLevel
  | switchOn
  | empty
  | overlap
  | full
  | notHolder
  | noGrant
  deriving DecidableEq, Repr

/-- REFUSED codes. -/
def refusedCode : Refused → Byte
  | .locked => 1
  | .noKey => 2
  | .badLevel => 3
  | .switchOn => 4
  | .empty => 5
  | .overlap => 6
  | .full => 7
  | .notHolder => 8
  | .noGrant => 9

/-- The refusal codes of JOG_REFUSED (R155). -/
inductive JogRefused where
  | noGrant
  | noPermission
  | headFault
  | headBusy
  | jogRunning
  deriving DecidableEq, Repr

/-- JOG_REFUSED codes. -/
def jogRefusedCode : JogRefused → Byte
  | .noGrant => 1
  | .noPermission => 2
  | .headFault => 3
  | .headBusy => 4
  | .jogRunning => 5

/-- The reasons of ENDED (R155). -/
inductive EndReason where
  | expired
  | released
  | keyOff
  | locked
  deriving DecidableEq, Repr

/-- ENDED reason codes. -/
def endReasonCode : EndReason → Byte
  | .expired => 1
  | .released => 2
  | .keyOff => 3
  | .locked => 4

/-- The causes of JOG_DONE (R97). -/
inductive JogCause where
  | complete
  | stopped
  | grantEnded
  | permission
  | driveFault
  deriving DecidableEq, Repr

/-- JOG_DONE cause codes. -/
def jogCauseCode : JogCause → Byte
  | .complete => 1
  | .stopped => 2
  | .grantEnded => 3
  | .permission => 4
  | .driveFault => 5

/-- The detail byte that names a camera: A 0, B 1 (R100). -/
def portCode : Port → Byte
  | .a => 0
  | .b => 1

/-! ## Codes read (R30, R200) -/

/-- A received quality; a code above 3 is taken as FREE (R200). -/
def readQuality (code : Byte) : Quality :=
  if code = 1 then .acquire else if code = 2 then .synced else if code = 3 then .holdover else .free

/-- A received switch state code, when it is in the list of R30. -/
def readSwitch (code : Byte) : Option SwitchState :=
  if code = 0 then some .off else if code = 1 then some .on else if code = 2 then some .transit
  else if code = 3 then some .fault else none

/-- A received two-valued code, when it is in the list of R30. -/
def readFlag (code : Byte) : Option Bool :=
  if code = 0 then some false else if code = 1 then some true else none

/-- The cabinet report of a frame; absent when any of the four codes lies outside its list (R30). -/
def readCabinet (c : CabinetCodes) : Option CabinetReport :=
  match readSwitch c.switch, readFlag c.door, readFlag c.key, readFlag c.permission with
  | some sw, some door, some key, some permission => some ⟨sw, door, key, permission⟩
  | _, _, _, _ => none

/-- The carried fill of an HND: absent for code 0, otherwise the code as received with its count (R200). -/
def readCarriedFill (code : Byte) (meter : Word16) : Option CarriedFill :=
  if code = 0 then none else some ⟨code, meter⟩

/-- A carried verdict: its code as received; its fail code is read when the verdict is FAIL (R199, R200, log 17). -/
def readCarriedVerdict (code : BitVec 4) (failCode : Byte) : CarriedVerdict :=
  ⟨code, if code = 3 then failCode else 0⟩

/-- The code of verdict A of a verdict pair: bits 4..7 (R199). -/
def pairCodeA (b : Byte) : BitVec 4 := BitVec.ofNat 4 (b.toNat / 16)

/-- The code of verdict B of a verdict pair: bits 0..3 (R199). -/
def pairCodeB (b : Byte) : BitVec 4 := BitVec.ofNat 4 b.toNat

/-- The first byte of a verdict pair. -/
def pairByte (a b : BitVec 4) : Byte := byte (16 * a.toNat + b.toNat)

/-- A received level code, when it is 1, 2 or 3 (R142). -/
def readLevel (code : Byte) : Option Level :=
  if code = 1 then some .inspect else if code = 2 then some .jog else if code = 3 then some .door else none

/-- The span code of a span byte: bits 0..3; bits 4..6 are ignored (R200). -/
def spanCode (span : Byte) : Nat := span.toNat % 16

/-- The invert flag of a span byte: bit 7 (R201). -/
def spanInvert (span : Byte) : Bool := span.getLsbD 7

/-! ## Head sets (R140) -/

/-- The set of the heads 0..7 for which p holds. -/
def headSetOf (p : Nat → Bool) : HeadSet := byte (bitsByte ((List.range 8).map p))

/-- Whether a head is in a set; a number above 7 is in none. -/
def inSet (heads : HeadSet) (h : Nat) : Bool := heads.getLsbD h

/-- The heads a span code names before the invert, among F fitted heads (R140). -/
def spanNames (fitted code h : Nat) : Bool :=
  match code with
  | 0 => false
  | 1 => fitted ≤ h + 1
  | 2 => fitted ≤ h + 2
  | 3 => fitted ≤ h + 4
  | 4 => h < 1
  | 5 => h < 2
  | 6 => h < 4
  | 7 => true
  | n => h + 8 = n

/-- The head set of a span code and invert flag among F fitted heads (R140). -/
def resolveSpan (fitted code : Nat) (invert : Bool) : HeadSet :=
  headSetOf fun h => (h < fitted) && (spanNames fitted code h != invert)

/-! ## Input levels (R31, R48, R76, R120) -/

/-- The state an input reads at a pin level: SWB is antivalent (R31). -/
def swbState (high : Bool) : Bool := !high

end Sys2Proof.Machine
end

