-- ==== Sys2Proof/Machine/Flags.lean ====
section
/-! DEFINITION. The flags that are derived from State: run conditions (R43), timed work (R18), the production flags of heads
(R77), the decision of a record (R70), and the evaluation of a dose (R93). -/

namespace Sys2Proof.Machine

/-! ## Durations and delays of the configuration, in microseconds -/

/-- The beacon interval I in microseconds (R24). -/
def State.intervalMicros (s : State) : Nat := s.cfg.hall.intervalMs * 1000

/-- A debounce figure in steps of 0.1 ms, in local microseconds (R31). -/
def debounceMicros (steps : Nat) : Nat := steps * 100

/-- The station's own address, as a byte of a frame (R191). -/
def State.ownAddress (s : State) : Byte := byte s.cfg.hall.address

/-! ## Run permission (R43) -/

/-- A dependent peer meets condition 4 of R43. -/
def Peer.meetsDependence (p : Peer) : Bool :=
  p.presence = .present &&
    match p.report with
    | some r => r.switch = .on && r.door
    | none => false

/-- All run conditions hold (R43). -/
def State.runConditions (s : State) : Bool :=
  s.running && s.cabinet.switch = .on && s.cabinet.door.state && s.peers.all fun p => !p.dependent || p.meetsDependence

/-! ## Heads (R77) -/

/-- A production dose is in flight (R77). -/
def Head.inFlight (h : Head) : Bool :=
  h.dose = .waitStart || h.dose = .run || h.dose = .suspended || h.dose = .settle

/-- The head is out of production: OUT or FAULTED (R146). -/
def Head.outOrFaulted (h : Head) : Bool := h.production = .out || h.production = .faulted

/-- An active grant holds the head in its set (R77). -/
def State.covered (s : State) (h : Nat) : Bool := s.access.grants.any fun g => inSet g.heads h

/-- Every head of a set is OUT or FAULTED (R146). -/
def State.allOut (s : State) (heads : HeadSet) : Bool :=
  (List.range 8).all fun h => !inSet heads h || (s.head h).outOrFaulted

/-! ## Timed work (R18) -/

/-- Timed work is pending (R18). -/
def State.timedWork (s : State) : Bool :=
  !s.tracking.records.isEmpty || !s.tracking.arrivals.isEmpty || !s.gate.firings.isEmpty ||
    !s.portA.pending.isEmpty || !s.portB.pending.isEmpty || s.heads.any (fun h => h.inFlight || h.jog.isSome) ||
    !s.access.grants.isEmpty

/-! ## The decision of a record (R70) -/

/-- A verdict that adds NO_VERDICT (R70). -/
def Verdict.isMissing (v : Verdict) : Bool := v = .noVerdict || v = .missed || v = .notTaken

/-- A verdict of FAIL (R70). -/
def Verdict.isFail : Verdict → Bool
  | .fail _ => true
  | _ => false

/-- The fill result is present and is not OK (R70). -/
def Record.ownFillBad (r : Record) : Bool :=
  match r.fill with
  | none => false
  | some f => f.result != .ok

/-- The upstream fill is present and is not OK; its code for OK is 2 (R70, R200). -/
def Record.upstreamFillBad (r : Record) : Bool :=
  match r.origin, r.upstreamFill with
  | .handed _ _, some f => f.code != 2
  | _, _ => false

/-- The reasons set after the decide has added its rows (R70). -/
def Record.decidedReasons (r : Record) : Reasons :=
  { r.reasons with
    fill := r.reasons.fill || r.ownFillBad || r.upstreamFillBad
    skipped := r.reasons.skipped || r.fill.any (fun f => f.result = .skipped)
    verdictA := r.reasons.verdictA || r.verdictA.isFail
    verdictB := r.reasons.verdictB || r.verdictB.isFail
    noVerdict := r.reasons.noVerdict || r.verdictA.isMissing || r.verdictB.isMissing
    unlit := r.reasons.unlit || r.unlitA || r.unlitB }

/-- The reasons set is non-empty: the record is rejected (R70). -/
def Reasons.any (r : Reasons) : Bool :=
  r.fill || r.skipped || r.verdictA || r.verdictB || r.noVerdict || r.unlit || r.unknownOrigin || r.upstream

/-- A record's decide time: capture time + reject delay - decide margin (R68). -/
def State.decideTime (s : State) (r : Record) : Time :=
  after r.capture (s.cfg.track.rejectDelayMs * 1000) - BitVec.ofNat 48 (s.cfg.track.decideMarginMs * 1000)

/-- A record's firing time: capture time + reject delay (R68). -/
def State.firingTime (s : State) (capture : Time) : Time := after capture (s.cfg.track.rejectDelayMs * 1000)

/-! ## The evaluation of a dose (R93) -/

/-- The result for meter count m, expected count E and tolerance tol: the first row of R93 that applies. -/
def evaluateDose (m expected tol : Nat) : FillResult :=
  if m = 0 ∧ 0 < expected then .dry
  else if expected - tol ≤ m ∧ m ≤ expected + tol then .ok
  else if m < expected - tol then .short
  else .over

end Sys2Proof.Machine
end

