-- ==== Sys2Proof/Machine/Layout.lean ====
section
/-! DEFINITION. The layouts of the payloads that the 620 sends (R201, R202), of the ANS entries (R203), and of the replies
of the Access Unit (R155). -/

namespace Sys2Proof.Machine

/-! ## Record image, HND, CRP (R130, R132, R203) -/

/-- The address and sequence of an origin, 0 for LOCAL. -/
def originBytes : Origin → List Byte
  | .localOrigin => bytesOf 5 0
  | .handed address sequence => byte address :: bytesOf 4 sequence.toNat

/-- An upstream fill code in a 4-bit field: a code above 12 is written as FH (R200). -/
def upstreamNibble (fill : Option CarriedFill) : Nat :=
  match fill with
  | none => 0
  | some f => if 12 < f.code.toNat then 15 else f.code.toNat

/-- The code of a record's own fill result, 0 when absent. -/
def ownFillCode (fill : Option Fill) : Byte :=
  match fill with
  | none => 0
  | some f => fillCode f.result

/-- The meter count of a record's own fill result, 0 when absent. -/
def ownFillMeter (fill : Option Fill) : Nat :=
  match fill with
  | none => 0
  | some f => f.meter

/-- The meter count of a carried fill, 0 when absent. -/
def carriedMeter (fill : Option CarriedFill) : Nat :=
  match fill with
  | none => 0
  | some f => f.meter.toNat

/-- The code of a carried fill, 0 when absent. -/
def carriedCode (fill : Option CarriedFill) : Byte :=
  match fill with
  | none => 0
  | some f => f.code

/-- Byte 20 of the record image: head in bits 0..3, unlit A, unlit B, upstream reject pending, time-trusted (R203). -/
def recordFlags (r : Record) : Byte :=
  byte (r.head.getD 15 % 16 + 16 * bitsByte [r.unlitA, r.unlitB, r.upstreamReject, r.trusted])

/-- The record image: a TRACKING entry, and bytes 0 to 24 of a CRP (R203). -/
def recordImage (r : Record) : List Byte :=
  bytesOf 4 r.sequence.toNat ++ timeBytes r.capture ++ originBytes r.origin ++
    [byte (16 * (ownFillCode r.fill).toNat + upstreamNibble r.upstreamFill)] ++
    bytesOf 2 (ownFillMeter r.fill) ++ bytesOf 2 (carriedMeter r.upstreamFill) ++ [recordFlags r] ++
    verdictPair r.verdictA r.verdictB ++ [reasonsByte r.reasons]

/-- The fill code of an HND: the record's own, or else its upstream fill unchanged (R130, R200). -/
def hndFillCode (r : Record) : Byte :=
  if r.fill.isSome then ownFillCode r.fill else carriedCode r.upstreamFill

/-- The meter count of an HND's fill (R130). -/
def hndFillMeter (r : Record) : Nat :=
  if r.fill.isSome then ownFillMeter r.fill else carriedMeter r.upstreamFill

/-- The payload of an HND; its quality, byte 18, is filled at each start mark (R130, R131, R201). -/
def hndPayload (r : Record) (rejectPending : Bool) : List Byte :=
  bytesOf 4 r.sequence.toNat ++ timeBytes r.capture ++ [hndFillCode r] ++ bytesOf 2 (hndFillMeter r) ++
    verdictPair r.verdictA r.verdictB ++ [reasonsByte r.reasons, byte (bitsByte [rejectPending, r.trusted]), 0]

/-- The outcomes of a CRP (R133). -/
inductive CrpOutcome where
  | passed
  | gated
  | gatedMerged
  | gateLost
  | rejectHanded
  | unexecuted
  deriving DecidableEq, Repr

/-- Outcome codes (R133). -/
def outcomeCode : CrpOutcome → Byte
  | .passed => 0
  | .gated => 1
  | .gatedMerged => 2
  | .gateLost => 3
  | .rejectHanded => 4
  | .unexecuted => 5

/-- A firing start is carried for these outcomes (R132). -/
def outcomeHasFiring : CrpOutcome → Bool
  | .gated => true
  | .gatedMerged => true
  | .gateLost => true
  | _ => false

/-- The payload of a CRP (R132, R201). -/
def crpPayload (r : Record) (outcome : CrpOutcome) (gateFault : Bool) (firing : Time) : List Byte :=
  recordImage r ++ [outcomeCode outcome, byte (bitsByte [gateFault, outcomeHasFiring outcome])] ++
    (if outcomeHasFiring outcome then timeBytes firing else bytesOf 6 0)

/-! ## BCN, CAB, EVT (R8, R40, R170, R202) -/

/-- The four cabinet values of this station (R30). -/
def State.cabinetBytes (s : State) : List Byte :=
  [switchCode s.cabinet.switch, flagByte s.cabinet.door.state, flagByte s.cabinet.key.state,
    flagByte s.cabinet.permission]

/-- What a beacon takes at its placement (R202). -/
def State.placement (s : State) : BcnPlacement :=
  ⟨BitVec.ofNat 16 s.cfg.hall.intervalMs, lockCode s.lock, flagByte s.gate.fault, byte s.tracking.records.length⟩

/-- The payload of a BCN as filled at a start mark (R8, R202). -/
def State.bcnPayload (s : State) (p : BcnPlacement) : List Byte :=
  timeBytes s.now ++ [qualityCode s.clock.quality] ++ s.cabinetBytes ++ bytesOf 2 p.intervalMs.toNat ++
    [p.lock, p.gateFault, p.fill]

/-- The time bytes of an optional hall time, 0 when absent. -/
def optTimeBytes (t : Option Time) : List Byte := timeBytes (t.getD 0)

/-- The payload of an EVT (R201). -/
def evtPayload (source : Nat) (g : Gathered) : List Byte :=
  [byte source, byte g.count] ++ optTimeBytes g.first ++ [g.detail.getD 0]

/-! ## ARP (R155, R201) -/

/-- The replies of the Access Unit (R155). -/
inductive Reply where
  | granted (grant : Grant)
  | extended (grant : Grant)
  | refused (code : Refused) (levelCode : Byte) (heads : HeadSet) (number : Byte)
  | ready (number : Nat) (heads : HeadSet)
  | ended (number : Nat) (reason : EndReason)
  | jogTaken (head count : Byte)
  | jogRefused (code : JogRefused) (head count : Byte)
  | jogDone (head : Nat) (cause : JogCause) (emitted meter : Nat)
  | holdTaken
  deriving DecidableEq, Repr

/-- The bytes of a GRANTED or EXTENDED after its kind (R201). -/
def grantReplyBytes (g : Grant) : List Byte :=
  [byte g.number, levelCode g.level, g.heads] ++ timeBytes g.expiresAt ++ [flagByte g.readySent]

/-- The bytes of a reply that its kind names (R201). -/
def replyBytes : Reply → List Byte
  | .granted g => 0 :: grantReplyBytes g
  | .extended g => 1 :: grantReplyBytes g
  | .refused code lvl heads number => [2, refusedCode code, lvl, heads, number]
  | .ready number heads => [3, byte number, heads]
  | .ended number reason => [4, byte number, endReasonCode reason]
  | .jogTaken head count => [5, head, count]
  | .jogRefused code head count => [6, jogRefusedCode code, head, count]
  | .jogDone head cause emitted meter => [7, byte head, jogCauseCode cause] ++ bytesOf 2 emitted ++ bytesOf 2 meter
  | .holdTaken => [8]

/-- An ARP frame to a tool, filled with 00H to its 11 bytes (R155, R198). -/
def arpFrame (dest : Byte) (reply : Reply) : OutFrame := ⟨.arp, dest, padTo 11 (replyBytes reply)⟩

/-- A reply is handed to the Line Port as a class 2 item (R155, R168). -/
def State.reply (s : State) (dest : Byte) (reply : Reply) : State := s.handOver (arpFrame dest reply) 2

/-! ## ANS entries (R203) -/

/-- The 48-bit two's complement of a signed figure. -/
def signedTime (i : Int) : Time := BitVec.ofInt 48 i

/-- A PEERS entry (R203). The SELF entry has presence 3 and all else 0 (log 16). -/
def peerEntry (address : Nat) (p : Peer) : List Byte :=
  if p.presence = .ownEntry then 0 :: presenceCode .ownEntry :: bytesOf 11 0
  else
    [byte address, presenceCode p.presence, byte p.silence,
      byte (bitsByte [p.heard, p.inRound, p.counted, p.dependent, p.offset.isSome, p.quality.isSome, p.report.isSome])] ++
    timeBytes (signedTime (p.offset.getD 0)) ++ [qualityCode (p.quality.getD .free)] ++
    match p.report with
    | some r => [switchCode r.switch, byte (bitsByte [r.door, r.key, r.permission])]
    | none => [0, 0]

/-- An ARRIVALS entry (R203). -/
def arrivalEntry (a : Arrival) : List Byte :=
  byte a.address :: bytesOf 4 a.sequence.toNat ++ [carriedCode a.fill] ++ bytesOf 2 (carriedMeter a.fill) ++
    [pairByte a.verdictA.code a.verdictB.code, a.verdictA.failCode, a.verdictB.failCode, a.reasons,
      byte (bitsByte [a.rejectPending, a.trusted])] ++ timeBytes a.windowStart ++ timeBytes a.windowEnd

/-- A grant entry of the GRANTS table (R203). -/
def grantEntry (g : Grant) : List Byte :=
  [byte g.number, byte g.holder, levelCode g.level, g.heads] ++ timeBytes g.grantedAt ++ timeBytes g.expiresAt ++
    [flagByte g.readySent]

/-- The Access Unit's entry of the GRANTS table, index 0 (R158, R203). -/
def State.accessEntry (s : State) : List Byte :=
  padTo 17 [lockCode s.lock, flagByte s.access.heldLock, flagByte s.cabinet.key.state, byte s.access.nextGrant,
    byte s.access.grants.length]

/-- A HEADS entry (R99, R203). -/
def headEntry (index : Nat) (h : Head) : List Byte :=
  [byte index, productionCode h.production, doseCode h.dose] ++
    (match h.hand with
     | some d => bytesOf 4 d.sequence.toNat ++ bytesOf 2 d.emitted ++ bytesOf 2 d.meter
     | none => bytesOf 8 0) ++
    [byte (bitsByte [h.jog.isSome, h.fault.state, h.readySample])] ++
    match h.jog with
    | some j => bytesOf 2 j.emitted ++ bytesOf 2 j.meter
    | none => bytesOf 4 0

/-- A port entry of the CAMERAS table (R119, R203). -/
def portEntry (p : Port) (enabled : Bool) (c : CameraPort) : List Byte :=
  [portCode p, flagByte enabled, c.tag, byte c.pending.length, assemblerCode c.assembler, flagByte c.busy,
    (match p with | .a => 0 | .b => byte c.pattern), 0]

/-- A pending entry of the CAMERAS table (R119, R203). -/
def pendingEntry (p : Port) (e : PendingTrigger) : List Byte :=
  (2 + portCode p) :: e.tag :: bytesOf 4 e.sequence.toNat ++ [0, 0]

/-- A LATCHES entry (R185, R203). -/
def latchEntry (source : Nat) (l : Latch) : List Byte :=
  [byte source, byte (l.cls % 4 + 4 * bitsByte [l.pending, l.blocked]), byte l.content.count] ++
    optTimeBytes l.content.first ++ [l.content.detail.getD 0]

/-- Each item of a list with its index. -/
def withIndex {α β : Type} (f : Nat → α → β) (items : List α) : List β :=
  (List.range items.length).zipWith f items

/-- The entries of the table with this code, index 0 first; none for a code that is not in the list of R181. -/
def State.tableEntries (s : State) (code : Byte) : Option (List (List Byte)) :=
  match code.toNat with
  | 0 => some (withIndex (fun i p => peerEntry (i + 1) p) s.peers)
  | 1 => some (s.tracking.records.map recordImage)
  | 2 => some (s.tracking.arrivals.map arrivalEntry)
  | 3 => some (s.accessEntry :: s.access.grants.map grantEntry)
  | 4 => some (withIndex headEntry (s.heads.take s.cfg.track.heads))
  | 5 => some (portEntry .a s.cfg.cameraA.enabled s.portA :: portEntry .b s.cfg.cameraB.enabled s.portB ::
      (s.portA.pending.map (pendingEntry .a) ++ s.portB.pending.map (pendingEntry .b)))
  | 6 => some (s.counters.map (bytesOf 2))
  | 7 => some (withIndex latchEntry s.latches)
  | _ => none

/-- Whole entries of one ANS, by table code (R181). -/
def entriesPerAns (code : Byte) : Nat :=
  match code.toNat with
  | 0 => 4
  | 1 => 2
  | 2 => 2
  | 3 => 3
  | 4 => 3
  | 5 => 6
  | 6 => 26
  | _ => 5

end Sys2Proof.Machine
end

