-- ==== Sys2Proof/Machine/HeadOps.lean ====
section
/-! DEFINITION. What the other blocks do to the heads, and the heads to them: the readiness of a grant (R146), the end of a
dose and of a jog (R94, R97), suspension and resume (R89, R90), the start and end of a covering grant (R77). -/

namespace Sys2Proof.Machine

/-! ## Readiness of a grant (R146) -/

/-- The grant that covers a head and has not sent READY. -/
def State.unreadyGrant (s : State) (h : Nat) : Option Grant :=
  s.access.grants.find? fun g => inSet g.heads h && !g.readySent

/-- Change the grant with this number. -/
def State.setGrant (s : State) (number : Nat) (f : Grant → Grant) : State :=
  { s with access := { s.access with grants := s.access.grants.map fun g => if g.number = number then f g else g } }

/-- The test of R146 at a change of production state of a head: the first time every head of the grant is OUT or FAULTED,
ready-sent is set and READY is handed over. -/
def State.testReady (s : State) (h : Nat) : State :=
  match s.unreadyGrant h with
  | none => s
  | some g =>
    if s.allOut g.heads then
      (s.setGrant g.number fun x => { x with readySent := true }).reply (byte g.holder) (.ready g.number g.heads)
    else s

/-! ## The train and the outputs (R85 to R87) -/

/-- The train as it starts or restarts: on a full low phase, or paused while drive ready is low (R85, R86). -/
def Head.startTrain (h : Head) : Train := if h.ready then .low 0 else .paused

/-- The train runs: the dose is in RUN, or a jog is running (R86). -/
def Head.emitting (h : Head) : Bool := h.dose = .run || h.jog.isSome

/-- A high phase has run its full length (R85). -/
def State.highPhaseOver (s : State) (h : Nat) : Bool :=
  s.running && s.fitted h && (s.head h).emitting &&
    match (s.head h).train with
    | .high n => s.cfg.dosing.highTime ≤ n
    | _ => false

/-- The train stops and the drive pulse and drive enable outputs go low. -/
def Head.quiet (h : Head) : Head := { h with train := .stopped, pulseOut := false, enableOut := false }

/-! ## The end of a dose (R94) -/

/-- Step 1 of R94: the result goes to the record, or DOSE_LATE is latched when the record has been decided. -/
def State.deliverFill (s : State) (h : Nat) (sequence : Word32) (fill : Fill) : State :=
  if s.tracks sequence then s.updateRecord sequence fun r => { r with fill := some fill }
  else s.occur .doseLate (byte h)

/-- Steps 3 and 4 of R94 at the head. -/
def Head.endDose (h : Head) (result : FillResult) : Head :=
  { h.quiet with
    dose := .idle
    hand := none
    production := if h.production = .draining ∧ result ≠ .driveFault then .out else h.production }

/-- The production dose in hand of a head ends with this result and meter count (R94). -/
def State.endDose (s : State) (h : Nat) (result : FillResult) (meter : Nat) : State :=
  match (s.head h).hand with
  | none => s
  | some d =>
    let ended := ((s.deliverFill h d.sequence ⟨result, meter⟩).count
      (if result = .ok then .dosesOk else .dosesNotOk)).setHead h fun x => x.endDose result
    if (s.head h).production = .draining ∧ result ≠ .driveFault then ended.testReady h else ended

/-! ## The end of a jog (R97, R152) -/

/-- A running jog of a head ends with this cause, and JOG_DONE is handed over; nothing happens where no jog runs. -/
def State.endJog (s : State) (h : Nat) (cause : JogCause) : State :=
  match (s.head h).jog with
  | none => s
  | some j =>
    (s.setHead h fun x => { x.quiet with jog := none }).reply (byte j.holder) (.jogDone h cause j.emitted j.meter)

/-- A pulse of the jog in hand is emitted, and a low phase follows (R85, R96). -/
def Head.jogEmits (h : Head) (j : JogInHand) : Head :=
  { h with jog := some { j with emitted := j.emitted + 1 }, train := .low 0, pulseOut := false }

/-- The jog in hand completes at this instant: the high phase of its last pulse has run its full length (R85, R97). -/
def State.jogCompletes (s : State) (h : Nat) (j : JogInHand) : Bool := s.highPhaseOver h && j.target ≤ j.emitted + 1

/-- A stop of the jog in hand, with cause STOPPED. One that is taken together with the completion counts the last pulse, so that it
gives the counts that COMPLETE would give (R97). Any other pulse or end that meets a stop counts as the order taken gives it
(DESIGN CHOICE: log 47). -/
def State.stopJog (s : State) (h : Nat) (j : JogInHand) : State :=
  (if s.jogCompletes h j then s.setHead h fun x => x.jogEmits j else s).endJog h .stopped

/-! ## Run permission at a head (R89, R90, R97) -/

/-- A dose in RUN is suspended at a fall of run permission; with a resume limit of 0 it ends HELD at once (R89, log 21). -/
def State.suspend (s : State) (h : Nat) : State :=
  match (s.head h).hand with
  | none => s
  | some d =>
    let suspended := s.setHead h fun x =>
      { x.quiet with dose := .suspended, hand := some { d with resumeTimer := some 0 } }
    if s.cfg.dosing.resumeMs = 0 then suspended.endDose h .held d.meter else suspended

/-- What a fall of run permission does at a head: a dose in RUN is suspended (R89), a jog ends PERMISSION (R97). -/
def State.permissionLost (s : State) (h : Nat) : State :=
  if (s.head h).dose = .run then s.suspend h else s.endJog h .permission

/-- What a rise of run permission does at a head: a suspended dose re-enters RUN (R90). -/
def State.permissionGained (s : State) (h : Nat) : State :=
  if (s.head h).dose = .suspended then
    s.setHead h fun x =>
      { x with
        dose := .run
        hand := x.hand.map fun d => { d with resumeTimer := none }
        enableOut := true
        train := x.startTrain }
  else s

/-! ## Covering grants (R77) -/

/-- A grant that covers the head becomes active (R77). -/
def Head.grantStarts (h : Head) : Head :=
  match h.production with
  | .inProduction => { h with production := if h.inFlight then .draining else .out }
  | _ => h

/-- The grant that covers the head ends (R77). -/
def Head.grantEnds (h : Head) : Head :=
  match h.production with
  | .draining => { h with production := .inProduction }
  | .out => { h with production := .inProduction }
  | _ => h

/-- Do one change at each head of a set, in ascending order. -/
def State.atHeads (s : State) (heads : HeadSet) (f : Head → Head) : State :=
  (List.range 8).foldl (fun s' h => if inSet heads h then s'.setHead h f else s') s

/-- Each running jog on a head of a set ends, in ascending order of head (R149 step 1, log 33). -/
def State.endJogsOn (s : State) (heads : HeadSet) (cause : JogCause) : State :=
  (List.range 8).foldl (fun s' h => if inSet heads h then s'.endJog h cause else s') s

end Sys2Proof.Machine
end

