-- ==== Sys2Proof/Machine/AccessOps.lean ====
section
/-! DEFINITION. The ending of grants (R149) and the entry to HELD (R136), which the Access Unit and the Cabinet Monitor share. -/

namespace Sys2Proof.Machine

/-- The active grant with this number. -/
def State.grantNumbered (s : State) (number : Nat) : Option Grant :=
  s.access.grants.find? fun g => g.number = number

/-- Step 2 of R149: the grant leaves the Grant Table. -/
def State.removeGrant (s : State) (number : Nat) : State :=
  { s with access := { s.access with grants := s.access.grants.filter fun g => g.number != number } }

/-- A grant ends, for any reason, by the five steps of R149. -/
def State.endGrant (s : State) (g : Grant) (reason : EndReason) : State :=
  let ended := (((s.endJogsOn g.heads .grantEnded).removeGrant g.number).atHeads g.heads Head.grantEnds).reply
    (byte g.holder) (.ended g.number reason)
  if g.level = .door && !ended.cabinet.door.state then ended.occur .doorOverdue (byte g.number) else ended

/-- Every active grant ends with one reason, in ascending order of grant number (R136, R138, R149). -/
def State.endAllGrants (s : State) (reason : EndReason) : State :=
  s.access.grants.foldl (fun s' g => s'.endGrant g reason) s

/-- Entry to HELD by the four steps of R136; nothing happens where the lock mode is HELD already. -/
def State.enterHeld (s : State) (detail : Byte) : State :=
  if s.access.lockMode = some .held then s
  else
    let ended := s.endAllGrants .locked
    ({ ended with access := { ended.access with lockMode := some .held, heldLock := true } } : State).occur
      .accessHeld detail

/-- The judgement of a door that has opened, by R153: lawful under an active DOOR grant, an intrusion otherwise. -/
def State.judgeDoorOpen (s : State) : State :=
  if s.access.grants.any fun g => g.level = .door then s
  else
    let judged := if s.cfg.intrusionLocks then s.enterHeld 0 else s
    judged.occur .intrusion (lockCode judged.lock)

end Sys2Proof.Machine
end

