-- ==== Sys2Proof/Machine/CabinetOps.lean ====
section
/-! DEFINITION. Run permission and its restore timer (R44, R45), the debouncers (R32), and the switch state machine (R34). -/

namespace Sys2Proof.Machine

/-! ## Run permission (R44, R45) -/

/-- Run permission becomes true: announced, the run lamp lit, suspended doses resume (R44, R45, R90). -/
def State.permissionRises (s : State) : State :=
  (({ s with
      cabinet := { s.cabinet with permission := true, restore := none }
      loader := { s.loader with runLamp := true } } : State).announce).forHeads
    fun h s' => s'.permissionGained h

/-- Run permission becomes false: announced, the run lamp dark, doses in RUN suspended, jogs ended (R44, R45, R89, R97). -/
def State.permissionFalls (s : State) : State :=
  (({ s with
      cabinet := { s.cabinet with permission := false, restore := none }
      loader := { s.loader with runLamp := false } } : State).announce).forHeads
    fun h s' => s'.permissionLost h

/-- Run permission and its restore timer follow a change of the run conditions (R44). -/
def State.followConditions (s : State) : State :=
  if s.runConditions then
    if s.cabinet.permission || s.cabinet.restore.isSome then s
    else if s.cfg.hall.restoreMs = 0 then s.permissionRises
    else { s with cabinet := { s.cabinet with restore := some 0 } }
  else if s.cabinet.permission then s.permissionFalls
  else { s with cabinet := { s.cabinet with restore := none } }

/-! ## Debouncers (R32, R33) -/

/-- The raw input of a debouncer that runs changes: agreeing stops the timer, disagreeing starts it from 0 (R32). -/
def Debouncer.rawChanges (d : Debouncer) (raw : Bool) : Debouncer :=
  if raw = d.raw then d
  else { d with raw := raw, timer := if raw = d.state then none else some 0 }

/-- The raw input of a debouncer that does not run changes: the debounced state holds and the timer is stopped (R33). -/
def Debouncer.rawLevel (d : Debouncer) (raw : Bool) : Debouncer := { d with raw := raw }

/-- The entry to JOINING: a raw input that disagrees with the start value is taken to have changed at that instant (R33). -/
def Debouncer.enterJoining (d : Debouncer) : Debouncer :=
  { d with timer := if d.raw = d.state then none else some 0 }

/-- The stability timer has reached the debounce time d: the change is due, once in a local microsecond (R32, R48). -/
def Debouncer.due (d : Debouncer) (micros : Nat) : Bool := !d.moved && d.timer.hasReached micros

/-- The debounced state takes the raw state and the timer stops (R32). -/
def Debouncer.settle (d : Debouncer) : Debouncer := { d with state := d.raw, timer := none, moved := true }

/-- A debouncer settles where its change is due. -/
def Debouncer.settleIfDue (d : Debouncer) (micros : Nat) : Debouncer := if d.due micros then d.settle else d

/-! ## The switch state machine (R34) -/

/-- The next switch state for a new pair of debounced channels (R34). -/
def nextSwitch (before : SwitchState) (a b : Bool) : SwitchState :=
  if a && b then (if before = .fault then .fault else .on)
  else if !a && !b then .off
  else (if before = .fault then .fault else .transit)

/-- The discrepancy timer after a change of the pair (R34). -/
def nextDiscrepancy (before next : SwitchState) (timer : Timer) : Timer :=
  if next = .transit then (if before = .transit then timer else some 0) else none

/-- The switch state moves to a new state: a change of an announced value, and of the run conditions (R34, R39, R44). -/
def State.moveSwitch (s : State) (next : SwitchState) (discrepancy : Timer) : State :=
  let moved : State := { s with cabinet := { s.cabinet with switch := next, discrepancy := discrepancy } }
  if next = s.cabinet.switch then moved else moved.announce.followConditions

/-- The debounced channels have taken a new pair, and the machine moves on it (R34). -/
def State.pairChanges (s : State) : State :=
  let next := nextSwitch s.cabinet.switch s.cabinet.swA.state s.cabinet.swB.state
  s.moveSwitch next (nextDiscrepancy s.cabinet.switch next s.cabinet.discrepancy)

/-! ## Changes that are due, by input (R32, R37) -/

/-- The switch channels' debounce time, in local microseconds. -/
def State.switchDebounce (s : State) : Nat := debounceMicros s.cfg.hall.switchDebounce

/-- Every switch channel whose change is due takes it, and the machine sees only the new pair (R34). -/
def State.takeSwitch (s : State) : State :=
  let d := s.switchDebounce
  if s.cabinet.swA.due d || s.cabinet.swB.due d then
    ({ s with cabinet := { s.cabinet with
        swA := s.cabinet.swA.settleIfDue d, swB := s.cabinet.swB.settleIfDue d } } : State).pairChanges
  else s

/-- The debounced door takes its raw state: announced, then run permission, then the Access Unit (R37, log 13). -/
def State.takeDoor (s : State) : State :=
  if s.cabinet.door.due (debounceMicros s.cfg.hall.doorDebounce) then
    let moved := (({ s with cabinet := { s.cabinet with door := s.cabinet.door.settle } } : State).announce).followConditions
    if s.cabinet.door.raw then moved else moved.judgeDoorOpen
  else s

/-- The debounced key takes its raw state: announced; key OFF in KEYED ends every grant (R37, R138). -/
def State.takeKey (s : State) : State :=
  if s.cabinet.key.due (debounceMicros s.cfg.hall.keyDebounce) then
    let moved := ({ s with cabinet := { s.cabinet with key := s.cabinet.key.settle } } : State).announce
    if !s.cabinet.key.raw && s.access.lockMode = some .keyed then moved.endAllGrants .keyOff else moved
  else s

end Sys2Proof.Machine
end

