-- ==== Sys2Proof/Machine/Wire.lean ====
section
/-! DEFINITION. Frames and characters below the commands: the CRC and the bytes of a frame (R160), the levels it puts on the
line (R159), how a receiver collects it (R161), check 1 of R162, which command a received frame is (R162, R171, R198, R201),
and the characters of a camera's result line (R111) and of the serial memory (R188). -/

namespace Sys2Proof.Machine

/-! ## The CRC (R160) -/

/-- One bit of the check register, most significant bit first, generator 1021H (R160). -/
def crcBit (register : Word16) (bit : Bool) : Word16 :=
  if register.getLsbD 15 != bit then (register <<< 1) ^^^ 0x1021#16 else register <<< 1

/-- One byte of the check register, fed most significant bit first (R160). -/
def crcByte (register : Word16) (b : Byte) : Word16 :=
  [7, 6, 5, 4, 3, 2, 1, 0].foldl (fun r i => crcBit r (b.getLsbD i)) register

/-- The CRC over bytes: start value FFFFH, no reflection, no final XOR (R160). -/
def crc16 (bytes : List Byte) : Word16 := bytes.foldl crcByte 0xFFFF#16

/-- The bytes the CRC runs over: DEST, SRC, KIND, LEN, payload (R160). -/
def frameBody (dest src kind : Byte) (payload : List Byte) : List Byte :=
  dest :: src :: kind :: byte payload.length :: payload

/-- A whole frame, DEST to the last CRC byte, high byte of the CRC first (R160). -/
def frameBytes (dest src kind : Byte) (payload : List Byte) : List Byte :=
  frameBody dest src kind payload ++ bytesOf 2 (crc16 (frameBody dest src kind payload)).toNat

/-! ## The line (R159) -/

/-- The 8 bits of a byte, least significant first; a 1 is recessive. -/
def byteBits (b : Byte) : List Bool := (List.range 8).map b.getLsbD

/-- A byte on the line: a dominant start bit, 8 data bits, a recessive stop bit; true is recessive (R159). -/
def lineByte (b : Byte) : List Bool := false :: byteBits b ++ [true]

/-- A start mark: 3 µs dominant, then 1 µs recessive (R159). -/
def startMarkLevels : List Bool := [false, false, false, true]

/-- The levels of a frame, one for each local microsecond (R159). -/
def frameLevels (bytes : List Byte) : List Bool := startMarkLevels ++ bytes.flatMap lineByte

/-- The local microseconds a frame with this many payload bytes lasts (R159). -/
def frameMicros (len : Nat) : Nat := 4 + 10 * (6 + len)

/-- The byte that 8 levels spell, least significant first (R159). -/
def byteOfBits (bits : List Bool) : Byte := byte (bitsByte bits)

/-- The stop bit of a byte: dominant breaks reception off, and so does a byte past the 62nd (R161). -/
def Collector.stopBit (taken : List Byte) (bits : List Bool) (recessive : Bool) : Collector :=
  if !recessive then .over (.broken true)
  else if 62 < taken.length + 1 then .over (.broken false)
  else .between (byteOfBits bits.reverse :: taken) 0

/-- One local microsecond between bytes (R159): a dominant one is a start bit, or ends the frame as the start mark of another
where `run` recessive ones came before it; 11 recessive ones end the frame. After a start mark with no byte the 11 are
counted from its end (DESIGN CHOICE: log 41). -/
def Collector.gap (taken : List Byte) (quiet run : Nat) (recessive : Bool) : Collector :=
  if !recessive then (if Config.frameEnd ≤ run then .over (.ended taken.reverse) else .inByte taken [])
  else if Config.frameEnd ≤ quiet + 1 then .over (.ended taken.reverse)
  else .between taken (quiet + 1)

/-- One local microsecond of a receiver, after a run of recessive ones; the levels of the start mark are not looked at
(R159, R161, log 41). -/
def Collector.step (c : Collector) (run : Nat) (recessive : Bool) : Collector :=
  match c with
  | .mark gone => if gone + 1 < startMarkLevels.length then .mark (gone + 1) else .between [] 0
  | .between taken quiet => Collector.gap taken quiet run recessive
  | .inByte taken bits =>
    if bits.length < 8 then .inByte taken (recessive :: bits) else Collector.stopBit taken bits recessive
  | .over collected => .over collected

/-- The line has been dominant for more than 9 µs at a stretch, which breaks off a frame that has not ended (R161). -/
def Collector.held (c : Collector) (dominant : Nat) : Collector :=
  match c with
  | .over collected => .over collected
  | other => if Config.longestDominant < dominant then .over (.broken true) else other

/-- One local microsecond of a receiver in a frame; true is recessive (R159, R161). -/
def Collecting.step (c : Collecting) (recessive : Bool) : Collecting :=
  let dominant := if recessive then 0 else c.dominant + 1
  { place := (c.place.step c.recessive recessive).held dominant
    dominant := dominant
    recessive := if recessive then c.recessive + 1 else 0 }

/-- What has been collected, once the frame is at its end (R161). -/
def Collecting.ended (c : Collecting) : Option Collected :=
  match c.place with
  | .over collected => some collected
  | _ => none

/-- A receiver in a frame of which no microsecond has gone by. -/
def Collecting.fresh : Collecting := ⟨.mark 0, 0, 0⟩

/-- A receiver at a start mark, whose first dominant microsecond has been sampled (R159, R161). -/
def Collecting.begun : Collecting := Collecting.fresh.step false

/-- What a receiver collects from the levels on the line, the first microsecond of the start mark first; none while the frame
runs (R161). -/
def collectFrame (levels : List Bool) : Option Collected := (levels.foldl Collecting.step Collecting.fresh).ended

/-- What the receiver has collected of a frame that is at its end (R161). -/
def Receiver.collected : Receiver → Option Collected
  | .collecting _ frame => frame.ended
  | .watching => none
  | .waitRecessive => none

/-! ## Check 1 of R162 -/

/-- Check 1 of R162: at least 6 bytes, LEN equal to the bytes less 6, LEN at most 56, and a good CRC. -/
def wholeFrame (bytes : List Byte) : Bool :=
  6 ≤ bytes.length && (bytes.getD 3 0).toNat + 6 = bytes.length && bytes.length ≤ 62 && crc16 bytes = 0

/-! ## The command a received frame is (R162, R171, R198, R201) -/

/-- The bytes of a payload from an offset. -/
def part (offset size : Nat) (payload : List Byte) : List Byte := (payload.drop offset).take size

/-- A hall time at an offset. -/
def timeAt (payload : List Byte) (offset : Nat) : Time := BitVec.ofNat 48 (numberOf (part offset 6 payload))

/-- A 16-bit figure at an offset. -/
def wordAt (payload : List Byte) (offset : Nat) : Word16 := BitVec.ofNat 16 (numberOf (part offset 2 payload))

/-- A sequence at an offset. -/
def longAt (payload : List Byte) (offset : Nat) : Word32 := BitVec.ofNat 32 (numberOf (part offset 4 payload))

/-- A byte at an offset. -/
def byteAt (payload : List Byte) (offset : Nat) : Byte := payload.getD offset 0

/-- The four cabinet values at an offset (R201). -/
def cabinetAt (payload : List Byte) (offset : Nat) : CabinetCodes :=
  ⟨byteAt payload offset, byteAt payload (offset + 1), byteAt payload (offset + 2), byteAt payload (offset + 3)⟩

/-- The payload of a BCN (R201). -/
def bcnBodyOf (payload : List Byte) : BcnBody :=
  ⟨timeAt payload 0, byteAt payload 6, cabinetAt payload 7, wordAt payload 11, byteAt payload 13, byteAt payload 14,
    byteAt payload 15⟩

/-- The payload of an HND (R201). -/
def hndBodyOf (payload : List Byte) : HndBody :=
  ⟨longAt payload 0, timeAt payload 4, byteAt payload 10, wordAt payload 11, byteAt payload 13, byteAt payload 14,
    byteAt payload 15, byteAt payload 16, byteAt payload 17, byteAt payload 18⟩

/-- The frame kind of a KIND code, when it is in the list of R171. -/
def kindOf (code : Byte) : Option FrameKind :=
  [FrameKind.bcn, .cab, .hnd, .crp, .evt, .arq, .arp, .arl, .jog, .lck, .qry, .ans].find? fun k => kindCode k = code

/-- The payload lengths that a kind allows (R198). -/
def lenAllowed (kind : FrameKind) (len : Nat) : Bool :=
  match kind with
  | .bcn => len = 16
  | .cab => len = 4
  | .hnd => len = 19
  | .crp => len = 33
  | .evt => len = 9
  | .arq => len = 4
  | .arp => len = 11
  | .arl => len = 1
  | .jog => len = 2
  | .lck => len = 0
  | .qry => len = 4
  | .ans => 4 ≤ len && len ≤ 56

/-- The command of a frame of this kind with an allowed payload (R171, R201). -/
def commandOfKind (kind : FrameKind) (dest src : Byte) (payload : List Byte) : Instr :=
  match kind with
  | .bcn => .bcn dest src (bcnBodyOf payload)
  | .cab => .cab dest src (cabinetAt payload 0)
  | .hnd => .hnd dest src (hndBodyOf payload)
  | .crp => .crp dest src payload
  | .evt => .evt dest src payload
  | .arq => .arq dest src (byteAt payload 0) (byteAt payload 1) (wordAt payload 2)
  | .arp => .arp dest src payload
  | .arl => .arl dest src (byteAt payload 0)
  | .jog => .jog dest src (byteAt payload 0) (byteAt payload 1)
  | .lck => .lck dest src
  | .qry => .qry dest src (byteAt payload 0) (byteAt payload 1) (byteAt payload 2) (byteAt payload 3)
  | .ans => .ans dest src payload

/-- The kind of a frame whose KIND and LEN the line allows: checks 5 and 6 of R162. -/
def allowedKind (kind : Byte) (len : Nat) : Option FrameKind := (kindOf kind).filter fun k => lenAllowed k len

/-- The command that a frame ended in 11 µs recessive is: a check error, a discard for its kind or length, or the command
of its kind, which itself judges source and destination (R162, log 10). -/
def commandOf (bytes : List Byte) : Instr :=
  if wholeFrame bytes then
    let dest := byteAt bytes 0
    let src := byteAt bytes 1
    let kind := byteAt bytes 2
    let payload := (bytes.drop 4).take (bytes.length - 6)
    match allowedKind kind payload.length with
    | some k => commandOfKind k dest src payload
    | none => .frameDiscarded dest src kind payload
  else .checkError (.ended bytes)

/-- The command that follows what a receiver collected. -/
def commandCollected : Collected → Instr
  | .ended bytes => commandOf bytes
  | .broken onDominant => .checkError (.broken onDominant)

/-! ## The payload of a frame command, as its sender lays it out (R201) -/

/-- The cabinet values in four bytes (R201). -/
def cabinetCodeBytes (c : CabinetCodes) : List Byte := [c.switch, c.door, c.key, c.permission]

/-- A received frame command back as its whole frame; none for a command that is no taken frame (R160, R171, R201). -/
def frameOf : Instr → Option (List Byte)
  | .bcn dest src b =>
    some (frameBytes dest src (kindCode .bcn) (timeBytes b.stamp ++ [b.quality] ++ cabinetCodeBytes b.cabinet ++
      bytesOf 2 b.intervalMs.toNat ++ [b.lock, b.gateFault, b.fill]))
  | .cab dest src c => some (frameBytes dest src (kindCode .cab) (cabinetCodeBytes c))
  | .hnd dest src h =>
    some (frameBytes dest src (kindCode .hnd) (bytesOf 4 h.sequence.toNat ++ timeBytes h.capture ++ [h.fill] ++
      bytesOf 2 h.meter.toNat ++ [h.verdicts, h.failA, h.failB, h.reasons, h.flags, h.quality]))
  | .crp dest src payload => some (frameBytes dest src (kindCode .crp) payload)
  | .evt dest src payload => some (frameBytes dest src (kindCode .evt) payload)
  | .arp dest src payload => some (frameBytes dest src (kindCode .arp) payload)
  | .ans dest src payload => some (frameBytes dest src (kindCode .ans) payload)
  | .arq dest src level span seconds =>
    some (frameBytes dest src (kindCode .arq) ([level, span] ++ bytesOf 2 seconds.toNat))
  | .arl dest src number => some (frameBytes dest src (kindCode .arl) [number])
  | .jog dest src head count => some (frameBytes dest src (kindCode .jog) [head, count])
  | .lck dest src => some (frameBytes dest src (kindCode .lck) [])
  | .qry dest src table start count clear =>
    some (frameBytes dest src (kindCode .qry) [table, start, count, clear])
  | _ => none

/-! ## Characters of a camera's result line (R111) and bits of the serial memory (R188) -/

/-- A character: a low start bit, 8 data bits least significant first, a high stop bit; true is high (R111). -/
def characterBits (b : Byte) : List Bool := lineByte b

/-- What the ten bits of a character give: a byte when the stop bit reads high, a framing error when it reads low (R111). -/
def readCharacter (bits : List Bool) : Option Byte :=
  if bits.getD 9 false then some (byteOfBits ((bits.drop 1).take 8)) else none

/-- A byte to or from the serial memory, most significant bit first (R188). -/
def memoryBits (b : Byte) : List Bool := (byteBits b).reverse

/-- The whole bytes that sampled bits spell, most significant bit first (R188). -/
def memoryBytes : List Bool → List Byte
  | b7 :: b6 :: b5 :: b4 :: b3 :: b2 :: b1 :: b0 :: rest => byteOfBits [b0, b1, b2, b3, b4, b5, b6, b7] :: memoryBytes rest
  | _ => []

/-- What the Loader sends to begin its read: the command 03H and the address 000000H (R188). -/
def readCommandBits : List Bool := [0x03#8, 0x00#8, 0x00#8, 0x00#8].flatMap memoryBits

/-- The local microseconds from select to the end of the n-th byte read: 32 for the command and address, 8 each byte (R188). -/
def readMicros (bytes : Nat) : Nat := 32 + 8 * bytes

end Sys2Proof.Machine
end

