-- ==== Sys2Proof/Machine/ReceiveOps.lean ====
section
/-! DEFINITION. The reception of a frame: the frame that has been collected (R161), the peer that is heard (R27), the checks of R162, the refusals of R172. -/

namespace Sys2Proof.Machine

/-- What the receiver has collected of a frame that is at its end and not yet judged; none outside JOINING and RUNNING, where it is
not in use (R161). -/
def State.collected (s : State) : Option Collected := if s.listening then s.line.rx.collected else none

/-- The receiver has collected these bytes, to the end of their frame (R159, R161). -/
def State.hasBytes (s : State) (bytes : List Byte) : Bool := s.collected = some (.ended bytes)

/-- The receiver has collected the frame that this command reports (R161, log 10). -/
def State.hasFrame (s : State) (i : Instr) : Bool := (frameOf i).any s.hasBytes

/-- The start-mark stamp of the frame in collection (R9). -/
def State.startStamp (s : State) : Time :=
  match s.line.rx with
  | .collecting stamp _ => stamp
  | _ => 0

/-- The receiver lets go of its frame and watches for the next start mark (R161). -/
def State.releaseFrame (s : State) : State := { s with line := { s.line with rx := .watching } }

/-- A frame refused by a line check or by its owner (R162, R172). -/
def State.discard (s : State) : State := s.count .discards

/-- The entry of a peer that is heard (R27). -/
def Peer.isHeard (p : Peer) : Peer := { p with presence := .present, silence := 0, heard := true }

/-- A frame is heard from a peer: its entry, and PEER_RETURNED where it was ABSENT (R27). -/
def State.peerHeard (s : State) (src : Byte) : State :=
  let marked := s.setPeer src.toNat Peer.isHeard
  if (s.peer src.toNat).presence = .absent then marked.occur .peerReturned src else marked

/-- SRC is a station address, 1..30 (R162 check 3). -/
def isStation (src : Byte) : Bool := 1 ≤ src.toNat && src.toNat ≤ 30

/-- DEST is the own address or 31 (R162 check 4). -/
def State.isForUs (s : State) (dest : Byte) : Bool := dest = s.ownAddress || dest = 31

/-- A whole frame is judged by checks 2, 3 and 4 of R162, and `taken` follows where it passes. A clash latches ADDRESS_CLASH
and a bad source does not, neither touching the Peer Table (R29); every other frame is heard from its peer (R27). -/
def State.judgeFrame (s : State) (dest src : Byte) (taken : State → State) : State :=
  if src = s.ownAddress then (s.occur .addressClash src).discard
  else if !isStation src then s.discard
  else if s.isForUs dest then taken (s.peerHeard src)
  else (s.peerHeard src).discard

/-- A frame whose kind and length the line allows (R162 checks 5 and 6): judged, counted as taken and handed to its owner. -/
def State.receive (s : State) (dest src : Byte) (owner : State → State) : State :=
  s.releaseFrame.judgeFrame dest src fun s' => owner (s'.count .framesTaken)

/-- An owner that refuses a frame in JOINING, or addressed to 31 (R172). -/
def State.ownFrame (s : State) (dest : Byte) (owner : State → State) : State :=
  if s.running && dest != 31 then owner s else s.discard

end Sys2Proof.Machine
end

