-- ==== Sys2Proof/Machine/AccessFamily.lean ====
section
/-! DEFINITION. The commands of the Access Unit: ARQ, ARL, JOG, LCK, GRANT_EXPIRY. -/

namespace Sys2Proof.Machine

/-! ## ARQ (R142 to R147) -/

/-- The adjusted duration in seconds (R143). -/
def State.grantSeconds (s : State) (seconds : Nat) : Nat :=
  if seconds = 0 then 1 else min seconds s.cfg.maxGrantS

/-- The hall time at which a grant decided now ends (R143). -/
def State.grantEnd (s : State) (seconds : Nat) : Time := after s.now (s.grantSeconds seconds * 1000000)

/-- The number after a grant number: 1 after 255 (R144). -/
def numberAfter (n : Nat) : Nat := if n = 255 then 1 else n + 1

/-- The first number from n on that no active grant holds; five tries are enough (R144). -/
def freeNumber (used : List Nat) : Nat → Nat → Nat
  | 0, n => n
  | tries + 1, n => if used.contains n then freeNumber used tries (numberAfter n) else n

/-- The number the next grant takes (R144). -/
def State.newNumber (s : State) : Nat := freeNumber (s.access.grants.map Grant.number) 5 s.access.nextGrant

/-- A grant takes its place in ascending order of number (R141). -/
def insertByNumber (g : Grant) : List Grant → List Grant
  | [] => [g]
  | x :: rest => if g.number < x.number then g :: x :: rest else x :: insertByNumber g rest

/-- GRANTED, by the four steps of R145. -/
def State.giveGrant (s : State) (holder : Byte) (level : Level) (heads : HeadSet) (seconds : Nat) : State :=
  let number := s.newNumber
  let grant : Grant := ⟨number, holder.toNat, level, heads, s.now, s.grantEnd seconds, false⟩
  let entered := (({ s with access := { s.access with
      grants := insertByNumber grant s.access.grants, nextGrant := numberAfter number } } : State).atHeads heads
        Head.grantStarts)
  let ready := entered.allOut heads
  (entered.setGrant number fun g => { g with readySent := ready }).reply holder
    (.granted { grant with readySent := ready })

/-- The grant that an ARQ of this sender, level and set extends (R142 step 6). -/
def State.grantToExtend (s : State) (sender : Byte) (level : Level) (heads : HeadSet) : Option Grant :=
  s.access.grants.find? fun g => g.holder = sender.toNat && g.level = level && g.heads = heads

/-- EXTENDED (R147). -/
def State.extendGrant (s : State) (sender : Byte) (g : Grant) (seconds : Nat) : State :=
  let expires := s.grantEnd seconds
  (s.setGrant g.number fun x => { x with expiresAt := expires }).reply sender
    (.extended { g with expiresAt := expires })

/-- The set shares a head with an active grant's set, or a second DOOR grant is asked for (R142 step 7). -/
def State.overlaps (s : State) (level : Level) (heads : HeadSet) : Bool :=
  s.access.grants.any fun g => (g.heads &&& heads) != 0 || (level = .door && g.level = .door)

/-- The outcomes of an ARQ (R142). -/
inductive AccessDecision where
  | refused (code : Refused) (heads : HeadSet)
  | extended (grant : Grant)
  | granted (level : Level) (heads : HeadSet)
  deriving DecidableEq, Repr

/-- The head set that an ARQ of this level resolves to; a DOOR request's is empty (R140). -/
def State.requestedHeads (s : State) (level : Level) (span : Byte) : HeadSet :=
  if level = .door then 0 else resolveSpan s.cfg.track.heads (spanCode span) (spanInvert span)

/-- Steps 5 to 9 of R142, for a request of this level and resolved set. -/
def State.decideSet (s : State) (sender : Byte) (level : Level) (heads : HeadSet) : AccessDecision :=
  if level != .door && heads = 0 then .refused .empty heads
  else
    match s.grantToExtend sender level heads with
    | some g => .extended g
    | none =>
      if s.overlaps level heads then .refused .overlap heads
      else if Config.grantCapacity ≤ s.access.grants.length then .refused .full heads
      else .granted level heads

/-- The ordered steps of R142. -/
def State.decideAccess (s : State) (sender levelByte span : Byte) : AccessDecision :=
  if s.lock = .fixed || s.lock = .held then .refused .locked 0
  else if s.lock = .keyed && !s.cabinet.key.state then .refused .noKey 0
  else
    match readLevel levelByte with
    | none => .refused .badLevel 0
    | some level =>
      if level = .door && s.cabinet.switch != .off then .refused .switchOn 0
      else s.decideSet sender level (s.requestedHeads level span)

/-- An ARQ taken in RUNNING is answered with exactly one ARP (R142). -/
def State.requestAccess (s : State) (src levelByte span : Byte) (seconds : Nat) : State :=
  match s.decideAccess src levelByte span with
  | .refused code heads => s.reply src (.refused code levelByte heads 0)
  | .extended g => s.extendGrant src g seconds
  | .granted level heads => s.giveGrant src level heads seconds

/-- ARQ (R142). -/
def execArq (dest src level span : Byte) (seconds : Word16) (s : State) : Host.Outcome State Fault Refusal :=
  onOccasion (s.hasFrame (.arq dest src level span seconds)) s fun s => s.receive dest src fun s =>
    s.ownFrame dest fun s => s.requestAccess src level span seconds.toNat

/-! ## ARL (R148) -/

/-- An ARL taken in RUNNING (R148). -/
def State.releaseGrant (s : State) (src number : Byte) : State :=
  match s.grantNumbered number.toNat with
  | none => s.reply src (.refused .noGrant 0 0 number)
  | some g =>
    if g.holder = src.toNat then s.endGrant g .released else s.reply src (.refused .notHolder 0 0 number)

/-- ARL (R148). -/
def execArl (dest src number : Byte) (s : State) : Host.Outcome State Fault Refusal :=
  onOccasion (s.hasFrame (.arl dest src number)) s fun s => s.receive dest src fun s =>
    s.ownFrame dest fun s => s.releaseGrant src number

/-! ## JOG (R151) -/

/-- The sender holds an active JOG grant whose set contains the head (R151 step 1). -/
def State.holdsJog (s : State) (src head : Byte) : Bool :=
  s.access.grants.any fun g => g.holder = src.toNat && g.level = .jog && inSet g.heads head.toNat

/-- The target of a jog count: 255, a continuous jog, is 65535 (R96). -/
def jogTarget (count : Nat) : Nat := if count = 255 then 65535 else count

/-- The head starts the jog: counts 0, RUNNING, drive enable high, the train begins on a full low phase (R96). -/
def Head.startJog (h : Head) (target holder : Nat) : Head :=
  { h with jog := some ⟨target, 0, 0, holder⟩, enableOut := true, train := h.startTrain }

/-- JOG_REFUSED with its code (R151). -/
def State.refuseJog (s : State) (src : Byte) (code : JogRefused) (head count : Byte) : State :=
  s.reply src (.jogRefused code head count)

/-- Steps 5 to 9 of R151: the jog of an OUT head is stopped, ignored, refused or taken. -/
def State.jogHead (s : State) (src head count : Byte) : State :=
  match (s.head head.toNat).jog with
  | some j =>
    if count = 0 then s.stopJog head.toNat j
    else if j.target = jogTarget count.toNat then s
    else s.refuseJog src .jogRunning head count
  | none =>
    if count = 0 then s
    else (s.reply src (.jogTaken head count)).setHead head.toNat fun x =>
      x.startJog (jogTarget count.toNat) src.toNat

/-- The ordered steps of R151. -/
def State.requestJog (s : State) (src head count : Byte) : State :=
  if !s.holdsJog src head then s.refuseJog src .noGrant head count
  else if !s.cabinet.permission then s.refuseJog src .noPermission head count
  else if (s.head head.toNat).production = .faulted then s.refuseJog src .headFault head count
  else if (s.head head.toNat).production = .draining then s.refuseJog src .headBusy head count
  else s.jogHead src head count

/-- JOG (R151). -/
def execJog (dest src head count : Byte) (s : State) : Host.Outcome State Fault Refusal :=
  onOccasion (s.hasFrame (.jog dest src head count)) s fun s => s.receive dest src fun s =>
    s.ownFrame dest fun s => s.requestJog src head count

/-! ## LCK (R139) -/

/-- The source of an LCK qualifies: the report address, or the holder of an active grant (R139). -/
def State.mayLock (s : State) (src : Byte) : Bool :=
  (s.cfg.track.report != 0 && s.cfg.track.report = src.toNat) || s.access.grants.any fun g => g.holder = src.toNat

/-- An LCK that was taken (R139). -/
def State.lockOut (s : State) (src : Byte) : State :=
  if s.running && s.mayLock src then (s.enterHeld src).reply src .holdTaken else s.discard

/-- LCK (R139). -/
def execLck (dest src : Byte) (s : State) : Host.Outcome State Fault Refusal :=
  onOccasion (s.hasFrame (.lck dest src)) s fun s => s.receive dest src fun s => s.lockOut src

/-! ## GRANT_EXPIRY (R150) -/

/-- The active grant whose expiry comes next at this instant: of those whose expires-at is reached, the lowest number, first in
the table (R149, R150). -/
def State.expiringGrant (s : State) : Option Grant := s.access.grants.find? fun g => reached g.expiresAt s.now

/-- The grant with this number ends EXPIRED, where its expires-at is reached. Several that expire at one instant end in ascending
order of number: the occasion of a higher one stands once the lower ones have ended (R149, R150, log 34). -/
def State.expireGrant (s : State) (number : Nat) : State :=
  match s.expiringGrant with
  | none => s
  | some g => if g.number = number then s.endGrant g .expired else s

/-- GRANT_EXPIRY (R150). -/
def execGrantExpiry (number : Nat) (s : State) : Host.Outcome State Fault Refusal :=
  onOccasion s.running s fun s => s.expireGrant number

end Sys2Proof.Machine
end

