-- ==== Sys2Proof/Machine/GateOps.lean ====
section
/-! DEFINITION. The handover of a firing to the Gate List (R122, R123), the judgement of a firing (R126, R127), and the
confirm edge (R125). -/

namespace Sys2Proof.Machine

/-- The answers of the Reject Gate (R123). -/
inductive GateAnswer where
  | placed
  | merged
  | lost
  deriving DecidableEq, Repr

/-- A WAITING firing. -/
def Firing.isWaiting (f : Firing) : Bool := f.phase = .waiting

/-- An ON firing. -/
def Firing.isOn (f : Firing) : Bool := f.phase = .on

/-- A TAIL firing. -/
def Firing.isTail (f : Firing) : Bool := f.phase = .tail

/-- The Gate List changes, and the gate output is high exactly while a firing in it is ON (R124). -/
def State.withFirings (s : State) (firings : List Firing) : State :=
  { s with gate := { s.gate with firings := firings, output := firings.any Firing.isOn } }

/-- A new firing meets a listed one: the new start is not after the listed end and the listed start is not after the new
end (R122). -/
def Firing.meets (new listed : Firing) : Bool := !before listed.stop new.start && !before new.stop listed.start

/-- The earlier of two points. -/
def earlier (a b : Time) : Time := if before b a then b else a

/-- The later of two points. -/
def later (a b : Time) : Time := if before a b then b else a

/-- Two firings become one: earliest start, latest end, containers and confirm counts summed, stopping at 255 (R122, log 20). -/
def Firing.join (x y : Firing) : Firing :=
  { start := earlier x.start y.start
    stop := later x.stop y.stop
    containers := saturate 255 (x.containers + y.containers)
    count := saturate 255 (x.count + y.count)
    phase := .waiting }

/-- A firing takes its place in start order (R121). -/
def insertByStart (f : Firing) : List Firing → List Firing
  | [] => [f]
  | g :: rest => if before f.start g.start then f :: g :: rest else g :: insertByStart f rest

/-- The new firing joined with every listed firing it meets, the phase ON if the earliest start has been reached (R122). -/
def mergedFiring (new : Firing) (met : List Firing) (now : Time) : Firing :=
  let whole := met.foldl Firing.join new
  { whole with phase := if reached whole.start now then .on else .waiting }

/-- A new firing for one container captured at this time (R122). -/
def State.newFiring (s : State) (capture : Time) : Firing :=
  let start := s.firingTime capture
  ⟨start, after start (s.cfg.track.gatePulseMs * 1000), 1, 0, .waiting⟩

/-- A firing is handed to the Reject Gate: merged, placed, or lost with GATE_OVERRUN (R122, R123). -/
def State.handFiring (s : State) (capture : Time) (overrunDetail : Byte) : GateAnswer × State :=
  let new := s.newFiring capture
  let met := s.gate.firings.filter new.meets
  if met.isEmpty then
    if s.gate.firings.length < Config.gateCapacity then
      (.placed, s.withFirings (insertByStart new s.gate.firings))
    else (.lost, s.occur .gateOverrun overrunDetail)
  else
    let merged := mergedFiring new met s.now
    (.merged, s.withFirings (insertByStart merged (s.gate.firings.filter fun f => !new.meets f)))

/-! ## Judgement (R126, R127) -/

/-- A confirmed firing: the consecutive-unconfirmed count is set to 0 and the gate fault flag cleared (R127). -/
def State.firingConfirmed (s : State) : State := { s with gate := { s.gate with unconfirmed := 0, fault := false } }

/-- An unconfirmed firing: GATE_UNCONFIRMED, the count, and at 3 the gate fault with GATE_FAULT (R127). -/
def State.firingUnconfirmed (s : State) (count : Nat) : State :=
  let unconfirmed := saturate 255 (s.gate.unconfirmed + 1)
  let latched := s.occur .gateUnconfirmed (byte count)
  if unconfirmed = 3 then
    ({ latched with gate := { latched.gate with unconfirmed := unconfirmed, fault := true } } : State).occur .gateFault 3
  else { latched with gate := { latched.gate with unconfirmed := unconfirmed } }

/-- A firing that may take a confirm edge: ON or TAIL, with its count below its containers (R125). -/
def Firing.takesEdge (f : Firing) : Bool := f.phase != .waiting && f.count < f.containers

/-- A confirm edge in RUNNING with confirmation enabled is given to the oldest firing that may take it; a TAIL firing that
it brings to n leaves confirmed (R125, R126). -/
def State.giveEdge (s : State) : State :=
  match s.gate.firings.find? Firing.takesEdge with
  | none => s
  | some f =>
    if f.phase = .tail && f.containers ≤ f.count + 1 then
      (s.withFirings (s.gate.firings.eraseP Firing.takesEdge)).firingConfirmed
    else s.withFirings (modifyFirst Firing.takesEdge (fun x => { x with count := x.count + 1 }) s.gate.firings)

/-- The debounced confirm input takes its raw state; CLEAR to SENSED is a confirm edge, the change back acts on nothing
(R120, R125). The stamp that R120 gives an edge is kept nowhere, since no item holds it and no rule reads it.
DESIGN CHOICE: log 48. -/
def State.takeConfirm (s : State) : State :=
  if s.gate.confirm.due (debounceMicros s.cfg.track.confirmDebounce) then
    let moved : State := { s with gate := { s.gate with confirm := s.gate.confirm.settle } }
    if s.gate.confirm.raw && s.running && s.cfg.track.confirmWindowMs != 0 then moved.giveEdge else moved
  else s

end Sys2Proof.Machine
end

