-- ==== Sys2Proof/Machine/TrackingOps.lean ====
section
/-! DEFINITION. The opening of a record (R50 to R58, R65 to R67), the dose request (R83), the pattern sample (R102), and the
decide (R69 to R73, R129). -/

namespace Sys2Proof.Machine

/-! ## Matching a capture (R65, R66) -/

/-- A trusted entry whose window end is before this time: it leaves as LOST (R64, R65). -/
def Arrival.passed (a : Arrival) (now : Time) : Bool := a.trusted && before a.windowEnd now

/-- ARRIVAL_LOST is latched, with the low byte of the upstream sequence (R64). -/
def State.latchLost (s : State) (a : Arrival) : State := s.occur .arrivalLost (BitVec.setWidth 8 a.sequence)

/-- Clearing: the passed entries at the head of the list leave as LOST (R65 step 1). -/
def State.clearPassed (s : State) (capture : Time) : State :=
  let lost := s.tracking.arrivals.takeWhile fun a => a.passed capture
  let latched := lost.foldl State.latchLost s
  { latched with tracking := { latched.tracking with
      arrivals := s.tracking.arrivals.dropWhile fun a => a.passed capture } }

/-- Considering the head: an untrusted entry matches, a trusted one when the capture time is in its window (R65 step 2). -/
def Arrival.matchesCapture (a : Arrival) (capture : Time) : Bool :=
  !a.trusted || (!before capture a.windowStart && !before a.windowEnd capture)

/-- What arrival matching gives a record (R66). -/
structure MatchResult where
  origin : Origin
  upstreamFill : Option CarriedFill
  upstreamReject : Bool
  trusted : Bool
  deriving DecidableEq, Repr

/-- The outcome with no match: LOCAL, with the time trust of R58. -/
def State.localMatch (s : State) : MatchResult :=
  ⟨.localOrigin, none, false, s.clock.quality = .synced || s.clock.quality = .holdover⟩

/-- A match with an entry (R66). -/
def Arrival.matched (a : Arrival) : MatchResult := ⟨.handed a.address a.sequence, a.fill, a.rejectPending, a.trusted⟩

/-- Step 1 of R55: the Arrival List is matched against the capture (R65, R66), or R67 applies. -/
def State.matchArrival (s : State) (capture : Time) : MatchResult × State :=
  if s.cfg.track.upstream = 0 then (s.localMatch, s)
  else
    let cleared := s.clearPassed capture
    match cleared.tracking.arrivals with
    | [] => (s.localMatch, cleared.count .unknownArrivals)
    | a :: rest =>
      if a.matchesCapture capture then
        (a.matched, ({ cleared with tracking := { cleared.tracking with arrivals := rest } } : State).count .arrivalsMatched)
      else (s.localMatch, cleared.count .unknownArrivals)

/-! ## The dose request and the cameras (R56, R57, R83, R102) -/

/-- The head's answer to a request for a dose (R83). -/
def Head.answer (h : Head) : Fill :=
  if h.production != .inProduction then ⟨.skipped, 0⟩
  else if h.dose != .idle then ⟨.busy, 0⟩
  else ⟨.pending, 0⟩

/-- The head takes the dose: WAIT_START with the record's sequence and start time (R83). -/
def Head.takeDose (h : Head) (sequence : Word32) (start : Time) : Head :=
  { h with dose := .waitStart, hand := some ⟨sequence, start, 0, 0, none, none, none⟩ }

/-- Step 3 of R55: the head is asked to schedule a dose (R56, R83). -/
def State.requestDose (s : State) (h : Nat) (sequence : Word32) (capture : Time) : State :=
  if (s.head h).answer.result = .pending then
    s.setHead h fun x => x.takeDose sequence (after capture (s.cfg.dosing.fillDelayMs * 1000))
  else s

/-- Port B samples this container: the mask bit at the pattern counter's value is set (R102). -/
def State.samplesB (s : State) : Bool := s.cfg.cameraB.enabled && s.cfg.patternMask.getLsbD s.portB.pattern

/-- The pattern counter advances by one, modulo P, while port B is enabled (R102). -/
def State.advancePattern (s : State) : State :=
  if s.cfg.cameraB.enabled then
    { s with portB := { s.portB with pattern := (s.portB.pattern + 1) % s.cfg.patternPeriod } }
  else s

/-- A verdict at opening (R57). -/
def openingVerdict (watched : Bool) : Verdict := if watched then .pending else .absent

/-! ## Captures (R50, R51, R55) -/

/-- UNKNOWN_ORIGIN is added at opening (R58). -/
def State.unknownOrigin (s : State) (origin : Origin) : Bool :=
  s.cfg.track.upstream != 0 && s.cfg.track.rejectUnknown && origin = .localOrigin

/-- The next sequence number after this one; 0 is not used (R53). -/
def nextSequenceAfter (n : Word32) : Word32 := if n = 0xFFFFFFFF#32 then 1 else n + 1

/-- The record of a capture at its opening (R52, R55). `s` is the state after arrival matching. -/
def State.openingRecord (s : State) (capture : Time) (m : MatchResult) : Record :=
  { sequence := s.tracking.nextSequence
    capture := capture
    origin := m.origin
    upstreamFill := m.upstreamFill
    upstreamReject := m.upstreamReject
    head := s.tracking.pocket
    fill := s.tracking.pocket.map fun h => (s.head h).answer
    verdictA := openingVerdict s.cfg.cameraA.enabled
    verdictB := openingVerdict s.samplesB
    unlitA := false
    unlitB := false
    reasons := { Reasons.none with unknownOrigin := s.unknownOrigin m.origin, upstream := m.upstreamReject }
    trusted := m.trusted }

/-- The head of the pocket index, when heads are fitted, is asked for the dose of the record being opened (R56). -/
def State.requestPocketDose (s : State) (capture : Time) : State :=
  match s.tracking.pocket with
  | none => s
  | some h => s.requestDose h s.tracking.nextSequence capture

/-- A capture opens a record, by the six steps of R55. -/
def State.openRecord (s : State) (capture : Time) : State :=
  let m := s.matchArrival capture
  let record := m.2.openingRecord capture m.1
  let asked := (m.2.requestPocketDose capture).advancePattern
  ({ asked with tracking := { asked.tracking with
      nextSequence := nextSequenceAfter m.2.tracking.nextSequence
      records := asked.tracking.records ++ [record] } } : State).count .recordsOpened

/-- An untracked capture in RUNNING hands the Reject Gate a blind firing when a gate is fitted (R51). -/
def State.blindFiring (s : State) : State := if s.cfg.track.gateFitted then (s.handFiring s.now 0).2 else s

/-- The detail byte of TRACK_OVERFLOW: the pocket index, or FFH with no heads fitted (R50). -/
def State.overflowDetail (s : State) : Byte :=
  match s.tracking.pocket with
  | some h => byte h
  | none => 0xFF#8

/-- A capture, by the table of R50. Its stamp is hall time after the increment (R2) of the local microsecond in which its stability
timer reaches d: LOCAL_MICROSECOND ticks the clock and the timers together, and the manual gives no order between the two
(DESIGN CHOICE: log 46). -/
def State.capture (s : State) : State :=
  let counted := s.count .captures
  if s.running then
    if s.tracking.records.length < Config.trackingCapacity then counted.openRecord s.now
    else ((counted.count .untracked).occur .trackOverflow s.overflowDetail).blindFiring
  else counted.count .untracked

/-- The debounced infeed takes its raw state; CLEAR to COVERED is a capture, the change back acts on nothing (R48). -/
def State.takeInfeed (s : State) : State :=
  if s.tracking.infeed.due (debounceMicros s.cfg.track.infeedDebounce) then
    let moved : State := { s with tracking := { s.tracking with infeed := s.tracking.infeed.settle } }
    if s.tracking.infeed.raw then moved.capture else moved
  else s

/-- A pitch advances the pocket index by one, modulo F; with F = 0 it does nothing (R49). -/
def State.advancePocket (s : State) : State :=
  { s with tracking := { s.tracking with pocket := s.tracking.pocket.map fun h => (h + 1) % s.cfg.track.heads } }

/-- The debounced pitch takes its raw state; NO_MARK to MARK is a pitch, the change back acts on nothing (R48, R49). -/
def State.takePitch (s : State) : State :=
  if s.tracking.pitch.due (debounceMicros s.cfg.track.pitchDebounce) then
    let moved : State := { s with tracking := { s.tracking with pitch := s.tracking.pitch.settle } }
    if s.tracking.pitch.raw then moved.advancePocket else moved
  else s

/-! ## The decide (R69 to R73, R129) -/

/-- The meter count that the dose of a record has reached, 0 where no head holds its dose (R69, log 22). -/
def State.lateMeter (s : State) (r : Record) : Nat :=
  match r.head with
  | none => 0
  | some h =>
    match (s.head h).hand with
    | none => 0
    | some d => if d.sequence = r.sequence then d.meter else 0

/-- The fill result after R69: PENDING becomes LATE. -/
def State.settledFill (s : State) (r : Record) : Option Fill :=
  r.fill.map fun f => if f.result = .pending then ⟨.late, s.lateMeter r⟩ else f

/-- A verdict after R69: PENDING becomes NO_VERDICT. -/
def settledVerdict (v : Verdict) : Verdict := if v = .pending then .noVerdict else v

/-- The record as the decide leaves it: settled (R69), with its reasons (R70). -/
def State.decided (s : State) (r : Record) : Record :=
  let settled := { r with
    fill := s.settledFill r, verdictA := settledVerdict r.verdictA, verdictB := settledVerdict r.verdictB }
  { settled with reasons := settled.decidedReasons }

/-- The pending entry of a record whose verdict for the port is still PENDING is removed (R69, R117). -/
def State.dropPending (s : State) (p : Port) (r : Record) : State :=
  if r.verdict p = .pending then
    s.setPort p fun c => { c with pending := c.pending.filter fun e => e.sequence != r.sequence }
  else s

/-- A CRP is handed over, when the report address is not 0 (R71, R129, R132). -/
def State.report (s : State) (r : Record) (outcome : CrpOutcome) : State :=
  if s.cfg.track.report = 0 then s
  else s.handOver ⟨.crp, byte s.cfg.track.report, crpPayload r outcome s.gate.fault (s.firingTime r.capture)⟩ 2

/-- A CRP that only "report all" produces (R71, R72, R133). -/
def State.reportIfAll (s : State) (r : Record) (outcome : CrpOutcome) : State :=
  if s.cfg.track.reportAll then s.report r outcome else s

/-- An HND is handed over for the downstream station (R129, R130). -/
def State.handDownstream (s : State) (r : Record) (rejectPending : Bool) : State :=
  s.handOver ⟨.hnd, byte s.cfg.track.downstream, hndPayload r rejectPending⟩ 2

/-- The CRP outcome that an answer of the Reject Gate gives (R133). -/
def answerOutcome : GateAnswer → CrpOutcome
  | .placed => .gated
  | .merged => .gatedMerged
  | .lost => .gateLost

/-- A rejected record is routed by the table of R71. -/
def State.routeRejected (s : State) (r : Record) : State :=
  if s.cfg.track.gateFitted then
    let fired := s.handFiring r.capture 1
    fired.2.report r (answerOutcome fired.1)
  else if s.cfg.track.downstream != 0 then (s.handDownstream r true).reportIfAll r .rejectHanded
  else (s.count .rejectsUnexecuted).report r .unexecuted

/-- A passed record is routed by R72. -/
def State.routePassed (s : State) (r : Record) : State :=
  (if s.cfg.track.downstream != 0 then s.handDownstream r false else s).reportIfAll r .passed

/-- A record is decided and routed; it is still in the queue (R69 to R72). -/
def State.routeDecided (s : State) (r : Record) : State :=
  let d := s.decided r
  let settled := (s.dropPending .a r).dropPending .b r
  if d.reasons.any then (settled.count .rejected).routeRejected d else (settled.count .passed).routePassed d

/-- The head record is decided and leaves the Tracking Queue (R68, R73, R129). -/
def State.decideHead (s : State) (r : Record) (rest : List Record) : State :=
  let routed := s.routeDecided r
  { routed with tracking := { routed.tracking with records := rest } }

end Sys2Proof.Machine
end

