-- ==== Sys2Proof/Machine/Cabinet.lean ====
section
/-! DEFINITION. The commands of the cabinet inputs and of the debouncers: RAW_INPUT_CHANGE, SWITCH_CHANNEL_CHANGE, DISCREPANCY,
RESTORE_TIMER_EXPIRY, DOOR_CHANGE, KEY_CHANGE, DEBOUNCE_TIMER_EXPIRY. -/

namespace Sys2Proof.Machine

/-- A debouncer after its raw input goes to a level, running or not (R32, R33). -/
def Debouncer.rawTo (d : Debouncer) (runs : Bool) (raw : Bool) : Debouncer :=
  if runs then d.rawChanges raw else d.rawLevel raw

/-- With d = 0 the change is taken at once; otherwise it waits for its timer (R32, log 11). -/
def State.atOnce (s : State) (steps : Nat) (take : State → State) : State := if steps = 0 && s.listening then take s else s

/-- The confirm input is read: the debouncers run and a gate is fitted (R120). -/
def State.readsConfirm (s : State) : Bool := s.listening && s.cfg.track.gateFitted

/-- The raw level of a debounced input changes (R31, R32, R48, R76, R120). -/
def State.rawInput (s : State) (input : RawInput) : State :=
  match input with
  | .switch swa swb =>
    ({ s with cabinet := { s.cabinet with
        swA := s.cabinet.swA.rawTo s.listening swa
        swB := s.cabinet.swB.rawTo s.listening (swbState swb) } } : State).atOnce
      s.cfg.hall.switchDebounce State.takeSwitch
  | .door high =>
    ({ s with cabinet := { s.cabinet with door := s.cabinet.door.rawTo s.listening high } } : State).atOnce
      s.cfg.hall.doorDebounce State.takeDoor
  | .key high =>
    ({ s with cabinet := { s.cabinet with key := s.cabinet.key.rawTo s.listening high } } : State).atOnce
      s.cfg.hall.keyDebounce State.takeKey
  | .infeed high =>
    ({ s with tracking := { s.tracking with infeed := s.tracking.infeed.rawTo s.listening high } } : State).atOnce
      s.cfg.track.infeedDebounce State.takeInfeed
  | .pitch high =>
    ({ s with tracking := { s.tracking with pitch := s.tracking.pitch.rawTo s.listening high } } : State).atOnce
      s.cfg.track.pitchDebounce State.takePitch
  | .confirm high =>
    ({ s with gate := { s.gate with confirm := s.gate.confirm.rawTo s.readsConfirm high } } : State).atOnce
      s.cfg.track.confirmDebounce State.takeConfirm
  | .driveFault h high =>
    s.setHead h fun x => { x with fault := x.fault.rawTo (s.listening && s.fitted h) high }

/-- RAW_INPUT_CHANGE (R32): the stability timer starts or stops; with d = 0 the debounced state follows at once. -/
def execRawInputChange (input : RawInput) (s : State) : Host.Outcome State Fault Refusal := .next (s.rawInput input)

/-- SWITCH_CHANNEL_CHANGE (R34): stands when the timer of a switch channel has reached its debounce time. -/
def execSwitchChannelChange (s : State) : Host.Outcome State Fault Refusal :=
  onOccasion s.listening s State.takeSwitch

/-- The detail byte of DISCREPANCY: 1 for A ON, B OFF; 2 otherwise, A OFF, B ON (R35). -/
def State.discrepancyDetail (s : State) : Byte := if s.cabinet.swA.state then 1 else 2

/-- The discrepancy timer has reached the discrepancy time in TRANSIT (R35). -/
def State.discrepancyDue (s : State) : Bool :=
  s.listening && s.cabinet.switch = .transit && s.cabinet.discrepancy.hasReached (s.cfg.hall.discrepancyMs * 1000)

/-- DISCREPANCY (R35): the switch enters FAULT, the timer stops, and DISCREPANCY is latched. -/
def execDiscrepancy (s : State) : Host.Outcome State Fault Refusal :=
  onOccasion s.discrepancyDue s fun s => (s.occur .discrepancy s.discrepancyDetail).moveSwitch .fault none

/-- The restore timer has reached the restore delay while all run conditions hold (R44). -/
def State.restoreDue (s : State) : Bool :=
  s.runConditions && s.cabinet.restore.hasReached (s.cfg.hall.restoreMs * 1000)

/-- RESTORE_TIMER_EXPIRY (R44): run permission rises. -/
def execRestoreTimerExpiry (s : State) : Host.Outcome State Fault Refusal :=
  onOccasion s.restoreDue s State.permissionRises

/-- DOOR_CHANGE (R37): stands when the door's timer has reached its debounce time. -/
def execDoorChange (s : State) : Host.Outcome State Fault Refusal := onOccasion s.listening s State.takeDoor

/-- KEY_CHANGE (R37, R138): stands when the key's timer has reached its debounce time. -/
def execKeyChange (s : State) : Host.Outcome State Fault Refusal := onOccasion s.listening s State.takeKey

/-- A change back that acts on nothing: infeed to CLEAR, pitch to NO_MARK, confirm to CLEAR (R48, R120). -/
def State.takeQuiet (s : State) (input : QuietInput) : State :=
  match input with
  | .infeed => if s.tracking.infeed.raw then s else s.takeInfeed
  | .pitch => if s.tracking.pitch.raw then s else s.takePitch
  | .confirm => if s.gate.confirm.raw then s else s.takeConfirm

/-- DEBOUNCE_TIMER_EXPIRY (R32): a stability timer reaches d and no named step covers the change. -/
def execDebounceTimerExpiry (input : QuietInput) (s : State) : Host.Outcome State Fault Refusal :=
  onOccasion s.listening s fun s => s.takeQuiet input

end Sys2Proof.Machine
end

