-- ==== Sys2Proof/Machine/SerialOps.lean ====
section
/-! DEFINITION. What the part does with its pins from one local microsecond to the next: the receiver of a camera's result line
(R111, R113), the read of the serial memory (R188), and the read-back of a frame being sent (R163, R165). -/

namespace Sys2Proof.Machine

/-- The port works: RUNNING and enabled (R100). -/
def State.portWorks (s : State) (p : Port) : Bool := s.running && (s.camera p).enabled

/-- The level of a port's result line; true is high. -/
def resultLevel (pins : PinSamples) : Port → Bool
  | .a => pins.resultA
  | .b => pins.resultB

/-! ## The result line (R111, R113) -/

/-- The bit rate of a baud code (R111). -/
def bitRate (code : Nat) : Nat :=
  match code with
  | 0 => 9600
  | 1 => 19200
  | 2 => 38400
  | 3 => 57600
  | _ => 115200

/-- The inter-byte limit: 40 bit times, rounded down to whole local microseconds (R111). -/
def interByteLimit (code : Nat) : Nat := 40 * 1000000 / bitRate code

/-- The local microsecond of a character, its first being 1, in which the middle of bit k falls; bit 0 is the start bit and bit 9
the stop bit (R111; log 42). -/
def bitMiddle (code k : Nat) : Nat := (2 * k + 1) * 500000 / bitRate code + 1

/-- A character in one of its microseconds: at the middle of a bit the line is sampled, and at the middle of the stop bit the
character is complete (R111). -/
def characterStep (code elapsed : Nat) (bits : List Bool) (high : Bool) : SerialReceiver :=
  if elapsed + 1 < bitMiddle code (bits.length + 1) then .inCharacter (elapsed + 1) bits
  else if bits.length < 8 then .inCharacter (elapsed + 1) (high :: bits)
  else .complete (readCharacter (false :: bits.reverse ++ [high]))

/-- One local microsecond of the receiver of a port that works (R111). A low line is a start bit (log 42); a complete character
stands until it is handed on. -/
def SerialReceiver.step (code : Nat) (rx : SerialReceiver) (high : Bool) : SerialReceiver :=
  match rx with
  | .idle => if high then .idle else .inCharacter 1 []
  | .inCharacter elapsed bits => characterStep code elapsed bits high
  | .complete result => .complete result
  | .waitHigh => if high then .idle else .waitHigh

/-- The receiver once its character is handed on: it looks for the next start bit, after a framing error once the line reads
high (R111). -/
def SerialReceiver.handedOn : SerialReceiver → SerialReceiver
  | .complete (some _) => .idle
  | .complete none => .waitHigh
  | other => other

/-- The inter-byte timer at a start bit (R113): it stops, but a limit reached by that microsecond still stands, since either may
be taken first. -/
def stopAtStartBit (limit : Nat) (timer : Timer) : Timer := if timer.tick.hasReached limit then timer.tick else none

/-- The inter-byte timer once a character runs (R113): a limit that came with the start bit itself was not taken first, and
lapses. -/
def lapseInCharacter (limit : Nat) (timer : Timer) : Timer := if timer = some limit then none else timer

/-- One local microsecond of the inter-byte timer of a port that works (R113). -/
def interByteStep (limit : Nat) (rx : SerialReceiver) (high : Bool) (timer : Timer) : Timer :=
  match rx with
  | .idle => if high then timer.tick else stopAtStartBit limit timer
  | .inCharacter _ _ => lapseInCharacter limit timer
  | .complete _ => timer
  | .waitHigh => timer.tick

/-- The result line of a port that works is read in one local microsecond (R100, R111, R113). -/
def CameraPort.readResult (c : CameraPort) (code : Nat) (high : Bool) : CameraPort :=
  { c with
    receiver := c.receiver.step code high
    interByte := interByteStep (interByteLimit code) c.receiver high c.interByte }

/-! ## The serial memory (R188) -/

/-- One local microsecond of the read: once the command and address are sent, one bit is sampled, until the whole image is
read. -/
def sampleMemory (readTimer : Timer) (sampled : List Bool) (high : Bool) : List Bool :=
  if readTimer.hasReached (readMicros 0) && sampled.length < 8 * Config.imageBytes then sampled ++ [high] else sampled

/-- The bytes of the image read so far. -/
def State.imageRead (s : State) : List Byte := memoryBytes s.loader.sampled

/-- MEM_SCK: the serial clock runs one period in the coming microsecond, a falling and then a rising edge (R188). -/
def State.memClocks (s : State) : Bool := s.loader.readTimer.isSome

/-- MEM_SO: the bit sent in the coming microsecond, while the command and address go out (R188). -/
def State.memSends (s : State) : Option Bool := s.loader.readTimer.bind fun gone => readCommandBits[gone]?

/-! ## The hall line while a frame is sent (R163, R165) -/

/-- The level is recessive. -/
def isRecessive : LineLevel → Bool
  | .recessive => true
  | .dominant => false

/-- The levels the attempt puts on the line. -/
def Attempt.levels (a : Attempt) : List Bool := frameLevels a.bytes

/-- One local microsecond of an attempt: the line is read back, to the end of the frame. -/
def Attempt.hears (a : Attempt) (recessive : Bool) : Attempt :=
  if a.readBack.length < a.levels.length then { a with readBack := a.readBack ++ [recessive] } else a

/-- The microseconds of the parts that have been sent whole: the start mark, and each byte to the end of its stop bit. -/
def Attempt.partsSent (a : Attempt) : Nat :=
  if a.readBack.length < 4 then 0 else 4 + 10 * ((a.readBack.length - 4) / 10)

/-- A part sent whole is read back differently (R165). -/
def Attempt.collides (a : Attempt) : Bool := a.readBack.take a.partsSent != a.levels.take a.partsSent

/-- The whole frame is read back as sent (R163). -/
def Attempt.isWhole (a : Attempt) : Bool := a.readBack = a.levels

/-- The 620 drives the line dominant in the coming microsecond (R159, R163, R173). -/
def State.drivesDominant (s : State) : Bool := s.line.tx.any fun a => a.levels.getD a.readBack.length true == false

end Sys2Proof.Machine
end

