-- ==== Sys2Proof/Machine/Cameras.lean ====
section
/-! DEFINITION. The commands of the camera ports: TRIGGER_TIME, TRIGGER_PULSE_END, GUARD_END, STROBE_DUE, STROBE_END,
STROBE_OFF_EXPIRY, RESULT_BYTE, RESULT_MESSAGE, FRAMING_ERROR, INTER_BYTE_TIMEOUT. -/

namespace Sys2Proof.Machine

/-! ## Triggers (R103 to R107) -/

/-- The record has an entry in the port's pending-trigger list. -/
def CameraPort.awaits (c : CameraPort) (sequence : Word32) : Bool := c.pending.any fun e => e.sequence = sequence

/-- The first record in queue order whose verdict for the port is PENDING and whose trigger has not been given (R103). -/
def State.nextToTrigger (s : State) (p : Port) : Option Record :=
  s.tracking.records.find? fun r => r.verdict p = .pending && !(s.port p).awaits r.sequence

/-- The record's trigger time for the port (R103). -/
def State.triggerTime (s : State) (p : Port) (r : Record) : Time := after r.capture (s.camera p).triggerDelay

/-- The three conditions that refuse a trigger (R104). -/
def CameraPort.refuses (c : CameraPort) (busy : Bool) : Bool :=
  busy || c.trigger.isSome || c.guard.isSome || Config.pendingCapacity ≤ c.pending.length

/-- A taken trigger: the pulse, the entry with the tag, the tag counter, the strobe scheduled (R104). -/
def CameraPort.takeTrigger (c : CameraPort) (sequence : Word32) : CameraPort :=
  { c with
    trigger := some 0
    triggerOut := true
    pending := c.pending ++ [⟨c.tag, sequence⟩]
    tag := c.tag + 1
    schedule := c.schedule ++ [⟨0, sequence⟩] }

/-- A record's trigger time is reached: the busy input is sampled, and the trigger is taken, or refused with NOT_TAKEN (R104). -/
def State.trigger (s : State) (p : Port) (busy : Bool) (r : Record) : State :=
  let sampled := s.setPort p fun c => { c with busy := busy }
  if (s.port p).refuses busy then sampled.updateRecord r.sequence fun x => x.withVerdict p .notTaken
  else sampled.setPort p fun c => c.takeTrigger r.sequence

/-- The next record of the port, where its trigger time is reached (R103). -/
def State.triggerDue (s : State) (p : Port) : Option Record :=
  (s.nextToTrigger p).filter fun r => reached (s.triggerTime p r) s.now

/-- TRIGGER_TIME (R103, R104). -/
def execTriggerTime (p : Port) (busy : Bool) (s : State) : Host.Outcome State Fault Refusal :=
  onOccasion (s.portWorks p) s fun s =>
    match s.triggerDue p with
    | none => s
    | some r => s.trigger p busy r

/-- TRIGGER_PULSE_END (R105): the trigger output goes low and the guard starts. -/
def execTriggerPulseEnd (p : Port) (s : State) : Host.Outcome State Fault Refusal :=
  onOccasion ((s.port p).trigger.hasReached (s.camera p).triggerWidth) s fun s =>
    s.setPort p fun c => { c with trigger := none, triggerOut := false, guard := some 0 }

/-- GUARD_END (R105): the port may take a new trigger. -/
def execGuardEnd (p : Port) (s : State) : Host.Outcome State Fault Refusal :=
  onOccasion ((s.port p).guard.hasReached Config.guardTime) s fun s =>
    s.setPort p fun c => { c with guard := none }

/-! ## Strobes (R108 to R110) -/

/-- The lamp may not be lit: the strobe output is high, or the off timer has not expired (R109, log 32). -/
def CameraPort.lampBusy (c : CameraPort) : Bool := c.strobeOut || c.offTimer.isSome

/-- A strobe leaves the schedule at its due start: given, or skipped with the record marked unlit (R109, R110). -/
def State.strobe (s : State) (p : Port) (sequence : Word32) (rest : List DueStrobe) : State :=
  let left := s.setPort p fun c => { c with schedule := rest }
  if (s.port p).lampBusy then
    (left.updateRecord sequence fun r => r.withUnlit p).occur .strobeSkip (portCode p)
  else left.setPort p fun c => { c with strobe := some 0, strobeOut := true }

/-- The oldest scheduled strobe, where its due start is reached (R108). -/
def State.strobeDue (s : State) (p : Port) : State :=
  match (s.port p).schedule with
  | [] => s
  | d :: rest => if (s.camera p).strobeDelay ≤ d.elapsed then s.strobe p d.sequence rest else s

/-- STROBE_DUE (R109). -/
def execStrobeDue (p : Port) (s : State) : Host.Outcome State Fault Refusal :=
  onOccasion (s.portWorks p) s fun s => s.strobeDue p

/-- STROBE_END (R110): the strobe output goes low and the off timer starts; with an off time of 0 it has expired at once. A start
that falls due at this very instant and is taken after it is given with an off time of 0 alone, since the off timer has just
started: the table of R109 is followed, not its closing sentence on the end (DESIGN CHOICE: log 49). -/
def execStrobeEnd (p : Port) (s : State) : Host.Outcome State Fault Refusal :=
  onOccasion ((s.port p).strobe.hasReached (s.camera p).strobeDuration) s fun s =>
    s.setPort p fun c =>
      { c with strobe := none, strobeOut := false, offTimer := if (s.camera p).strobeOff = 0 then none else some 0 }

/-- STROBE_OFF_EXPIRY (R109): the lamp may be lit again. -/
def execStrobeOffExpiry (p : Port) (s : State) : Host.Outcome State Fault Refusal :=
  onOccasion ((s.port p).offTimer.hasReached (s.camera p).strobeOff) s fun s =>
    s.setPort p fun c => { c with offTimer := none }

/-! ## Result messages (R111 to R116) -/

/-- The start byte of a result message (R111, spec/11 section 11.5). -/
def resultStart : Byte := 0xA5#8

/-- The check byte of a result message (R114). -/
def resultCheck (tag verdict : Byte) : Byte := resultStart ^^^ tag ^^^ verdict

/-- The message in progress is abandoned: CAMERA_LINK, and the assembler returns to HUNT (R112). -/
def State.abandon (s : State) (p : Port) : State :=
  (s.setPort p fun c => { c with assembler := .hunt, interByte := none }).occur .cameraLink (portCode p)

/-- The verdict of a verdict byte (R115). -/
def verdictOf (code : Byte) : Verdict := if code = 0 then .pass else .fail code

/-- Retire an entry as MISSED (R116). -/
def State.retire (s : State) (p : Port) (e : PendingTrigger) : State :=
  s.updateRecord e.sequence fun r => r.withVerdict p .missed

/-- The entries before the first with this tag, that entry, and the entries after it. -/
def splitAtTag (tag : Byte) : List PendingTrigger → Option (List PendingTrigger × PendingTrigger × List PendingTrigger)
  | [] => none
  | e :: rest =>
    if e.tag = tag then some ([], e, rest)
    else
      match splitAtTag tag rest with
      | none => none
      | some (passed, hit, later) => some (e :: passed, hit, later)

/-- A complete message is matched against the pending-trigger list (R115, R116). -/
def State.matchResult (s : State) (p : Port) (tag verdict : Byte) : State :=
  match splitAtTag tag (s.port p).pending with
  | none => (s.occur .cameraStray (portCode p)).count .strayVerdicts
  | some (passed, hit, later) =>
    (((passed.foldl (fun s' e => s'.retire p e) s).setPort p fun c => { c with pending := later }).updateRecord
      hit.sequence fun r => r.withVerdict p (verdictOf verdict)).count .verdictsMatched

/-- The check byte completes: the message is abandoned when it differs, and matched when it agrees (R114). -/
def State.takeCheck (s : State) (p : Port) (tag verdict check : Byte) : State :=
  if check = resultCheck tag verdict then
    (s.setPort p fun c => { c with assembler := .hunt, interByte := none }).matchResult p tag verdict
  else s.abandon p

/-- A byte from the receiver acts on the assembler (R112); a byte in CHECK is the check byte (log 36). -/
def State.takeByte (s : State) (p : Port) (b : Byte) : State :=
  match (s.port p).assembler with
  | .hunt => if b = resultStart then s.setPort p fun c => { c with assembler := .tag, interByte := some 0 } else s
  | .tag => s.setPort p fun c => { c with assembler := .verdict b, interByte := some 0 }
  | .verdict tag => s.setPort p fun c => { c with assembler := .check tag b, interByte := some 0 }
  | .check tag verdict => s.takeCheck p tag verdict b

/-- The inter-byte timer has reached its limit in TAG, VERDICT or CHECK (R113). -/
def State.interByteDue (s : State) (p : Port) : Bool :=
  s.portWorks p && (s.port p).assembler != .hunt &&
    (s.port p).interByte.hasReached (interByteLimit (s.camera p).baud)

/-- The receiver's character is handed to the assembler; where the limit was reached before its start bit, the message is
abandoned first and the character is read in HUNT (R112, R113). -/
def State.handOn (s : State) (p : Port) (act : State → State) : State :=
  let freed := s.setPort p fun c => { c with receiver := c.receiver.handedOn }
  act (if s.interByteDue p then freed.abandon p else freed)

/-- The receiver of a port that works has just completed this character: a byte, or none for a framing error (R111). -/
def State.hasCharacter (s : State) (p : Port) (result : Option Byte) : Bool :=
  s.portWorks p && (s.port p).receiver = .complete result

/-- RESULT_BYTE (R112). -/
def execResultByte (p : Port) (b : Byte) (s : State) : Host.Outcome State Fault Refusal :=
  onOccasion (s.hasCharacter p (some b)) s fun s => s.handOn p fun s => s.takeByte p b

/-- The byte completes in CHECK, its start bit in time (R113, R114). -/
def State.checkCompletes (s : State) (p : Port) (b : Byte) : Bool :=
  s.hasCharacter p (some b) && !s.interByteDue p &&
    match (s.port p).assembler with
    | .check _ _ => true
    | _ => false

/-- RESULT_MESSAGE (R114, R115): stands when the byte completes in CHECK (log 36). -/
def execResultMessage (p : Port) (b : Byte) (s : State) : Host.Outcome State Fault Refusal :=
  onOccasion (s.checkCompletes p b) s fun s => s.handOn p fun s => s.takeByte p b

/-- FRAMING_ERROR (R112): CAMERA_LINK is latched, and a message in progress is abandoned. -/
def execFramingError (p : Port) (s : State) : Host.Outcome State Fault Refusal :=
  onOccasion (s.hasCharacter p none) s fun s => s.handOn p fun s => s.abandon p

/-- INTER_BYTE_TIMEOUT (R113): the message is abandoned. -/
def execInterByteTimeout (p : Port) (s : State) : Host.Outcome State Fault Refusal :=
  onOccasion (s.interByteDue p) s fun s => s.abandon p

end Sys2Proof.Machine
end

