-- ==== Sys2Proof/Machine/ClockOps.lean ====
section
/-! DEFINITION. The convergence of the Hall Clock (R12 to R22), the beacon placement (R7, R202), and the silence of the Peer
Table (R28). -/

namespace Sys2Proof.Machine

/-! ## The correction (R12 to R14) -/

/-- Own quality and a peer's announced quality fit together (R12). -/
def qualityFits (own announced : Quality) : Bool :=
  own = .free || own = .acquire || announced != .free

/-- The offset of an entry, where all three conditions of R12 hold. -/
def Peer.includedOffset (own : Quality) (p : Peer) : Option Int :=
  if p.inRound && p.counted && p.quality.any (qualityFits own) then p.offset else none

/-- The offsets included at a round end (R12). -/
def State.includedOffsets (s : State) : List Int := s.peers.filterMap (Peer.includedOffset s.clock.quality)

/-- The trimming depth k for n members (R13). -/
def trimDepth (n : Nat) : Nat := if n ≤ 2 then 0 else if n ≤ 6 then 1 else 2

/-- A value takes its place in ascending order. -/
def insertAscending (x : Int) : List Int → List Int
  | [] => [x]
  | y :: rest => if x ≤ y then x :: y :: rest else y :: insertAscending x rest

/-- Ascending order of signed value (R14 step 1). -/
def ascending (xs : List Int) : List Int := xs.foldr insertAscending []

/-- The members of S that are averaged: the k lowest and k highest removed (R13, R14). -/
def averagedMembers (offsets : List Int) : List Int :=
  let members := ascending (0 :: offsets)
  (members.drop (trimDepth members.length)).take (members.length - 2 * trimDepth members.length)

/-- The correction c of a heard round: the trimmed mean, truncated toward zero (R14). -/
def correction (offsets : List Int) : Int :=
  (averagedMembers offsets).sum.tdiv (averagedMembers offsets).length

/-- The outcome of a round: none for an empty round, c for a heard one (R12, R13). -/
def roundOutcome (offsets : List Int) : Option Int := if offsets.isEmpty then none else some (correction offsets)

/-! ## Counters and quality (R15 to R17) -/

/-- The good-round count before the transitions (R15). -/
def nextGood (good : Nat) (outcome : Option Int) : Nat :=
  match outcome with
  | none => 0
  | some c => if c.natAbs ≤ 50 then saturate 255 (good + 1) else 0

/-- The empty-round count before the transitions (R15). -/
def nextEmpty (empty : Nat) (outcome : Option Int) : Nat :=
  match outcome with
  | none => saturate 65535 (empty + 1)
  | some _ => 0

/-- The quality transitions, from the counters as updated (R16). -/
def nextQuality (quality : Quality) (outcome : Option Int) (good empty : Nat) : Quality :=
  match quality, outcome with
  | .free, some _ => .acquire
  | .free, none => .free
  | .acquire, some c => if c.natAbs ≤ 50 ∧ 8 ≤ good then .synced else .acquire
  | .acquire, none => if 3 ≤ empty then .free else .acquire
  | .synced, some c => if 1000 < c.natAbs then .acquire else .synced
  | .synced, none => .holdover
  | .holdover, some c => if c.natAbs ≤ 50 then .synced else .acquire
  | .holdover, none => if 500 ≤ empty then .free else .holdover

/-- The quality has become `next`: written, and TIME_QUALITY latched where it has changed (R17). -/
def State.setQuality (s : State) (next : Quality) : State :=
  let written : State := { s with clock := { s.clock with quality := next } }
  if next = s.clock.quality then written else written.occur .timeQuality (qualityCode next)

/-- The round counters and the quality at a round end, with TIME_QUALITY and TIME_DISAGREE (R15 to R17). -/
def State.moveQuality (s : State) (outcome : Option Int) (included : Nat) : State :=
  let good := nextGood s.clock.goodRounds outcome
  let empty := nextEmpty s.clock.emptyRounds outcome
  let next := nextQuality s.clock.quality outcome good empty
  let counted : State := { s with clock := { s.clock with
    goodRounds := if next = s.clock.quality then good else 0, emptyRounds := empty } }
  let moved := counted.setQuality next
  if s.clock.quality = .synced && outcome.any (fun c => 1000 < c.natAbs) then moved.occur .timeDisagree (byte included)
  else moved

/-! ## Step and slew (R19 to R21) -/

/-- A start-mark stamp that is held is moved by c; what has been collected stays (R19). -/
def Receiver.movedBy (rx : Receiver) (c : Int) : Receiver :=
  match rx with
  | .collecting stamp frame => .collecting (Machine.movedBy stamp c) frame
  | other => other

/-- A step by c (R19): hall time, slew, the due point of the round just ended, the start-mark stamp of a frame in
collection. -/
def State.stepTime (s : State) (c : Int) : State :=
  { s with
    clock := { s.clock with
      time := movedBy s.clock.time c
      slew := 0
      nextDue := s.clock.nextDue.map fun due => movedBy due c }
    line := { s.line with rx := s.line.rx.movedBy c } }

/-- A value brought into lo..hi (00_scope, "Truncation and clamping"). -/
def clampInt (lo hi x : Int) : Int := max lo (min hi x)

/-- The slew limit L (R20). -/
def slewLimit (intervalMicros : Nat) : Nat := min 300 (intervalMicros / 64)

/-- The clamped correction cc (R20). -/
def clampedCorrection (intervalMicros : Nat) (c : Int) : Int :=
  clampInt (-(slewLimit intervalMicros : Int)) (slewLimit intervalMicros) c

/-- The correction of the trim: cc × 2^24 / (4 × I_µs), truncated toward zero (R21). -/
def trimDelta (intervalMicros : Nat) (cc : Int) : Int := (cc * 16777216).tdiv (4 * intervalMicros)

/-- A slewed round (R20, R21). -/
def State.slewTime (s : State) (c : Int) : State :=
  let cc := clampedCorrection s.intervalMicros c
  { s with clock := { s.clock with
      slew := 64 * cc
      trim := clampInt (-4096) 4096 (s.clock.trim + trimDelta s.intervalMicros cc) } }

/-- A heard round ends in a step (R19). -/
def State.steps (s : State) (c : Int) : Bool :=
  (s.clock.quality = .free || s.clock.quality = .acquire) && 1000 < c.natAbs && !s.timedWork

/-- A heard round is stepped or slewed (R19, R20). -/
def State.correctTime (s : State) (c : Int) : State := if s.steps c then s.stepTime c else s.slewTime c

/-- The convergence computation of a round end (R12 to R21). -/
def State.converge (s : State) : State :=
  let offsets := s.includedOffsets
  let moved := s.moveQuality (roundOutcome offsets) offsets.length
  match roundOutcome offsets with
  | none => moved
  | some c => moved.correctTime c

/-- The in-this-round mark of every entry is cleared (R11, R22). -/
def State.clearMarks (s : State) : State :=
  { s with peers := s.peers.map fun p => { p with inRound := false } }

/-! ## Beacons and silence (R7, R28, R202) -/

/-- A beacon is offered to the BCN slot: placed where the slot is empty (R7, R202). -/
def State.placeBeacon (s : State) : State :=
  match s.line.bcnSlot with
  | some _ => s
  | none => { s with line := { s.line with bcnSlot := some s.placement } }

/-- The next due point: the previous one plus I_µs (R7). -/
def State.advanceDue (s : State) : State :=
  { s with clock := { s.clock with nextDue := s.clock.nextDue.map fun due => after due s.intervalMicros } }

/-- The entry falls silent at this round end: PRESENT, not heard, and its count reaches the absent limit (R28). -/
def Peer.fallsSilent (limit : Nat) (p : Peer) : Bool :=
  p.presence = .present && !p.heard && p.silence + 1 = limit

/-- The silence of one entry at a round end; its heard mark is then cleared (R28). -/
def Peer.advanceSilence (limit : Nat) (p : Peer) : Peer :=
  if p.fallsSilent limit then
    { p with silence := p.silence + 1, presence := .absent, report := none, heard := false }
  else if p.presence = .present && !p.heard then { p with silence := p.silence + 1, heard := false }
  else { p with heard := false }

/-- PEER_ABSENT is latched for the entry at an index that falls silent (R28). -/
def State.latchAbsent (s : State) (entries : List Peer) (limit index : Nat) : State :=
  if (entries.getD index Peer.atReset).fallsSilent limit then s.occur .peerAbsent (byte (index + 1)) else s

/-- The Peer Table advances silence at a round end, and run permission follows (R28, R44). Where several entries fall silent at one
round end, their PEER_ABSENT is latched in ascending order of address, so that the detail is the highest of them: the manual
lets any be taken last (R175), and the order is the model's (DESIGN CHOICE: log 40). -/
def State.advanceSilence (s : State) : State :=
  let limit := s.cfg.hall.absentLimit
  let latched := (List.range s.peers.length).foldl (fun s' i => s'.latchAbsent s.peers limit i) s
  ({ latched with peers := s.peers.map (Peer.advanceSilence limit) } : State).followConditions

end Sys2Proof.Machine
end

