-- ==== Sys2Proof/Machine/ClockFamily.lean ====
section
/-! DEFINITION. The commands of time: LOCAL_MICROSECOND and ROUND_END. -/

namespace Sys2Proof.Machine

/-! ## LOCAL_MICROSECOND (R1 to R3, R5) -/

/-- The sign of the slew remaining: the direction of its slew term (R2). -/
def slewSign (slew : Int) : Int := if 0 < slew then 1 else if slew < 0 then -1 else 0

/-- The increment of hall time in fraction units: base, trim and slew term (R2). -/
def increment (trim slew : Int) : Int := 16777216 + trim + slewSign slew * 262144

/-- Hall time and its fraction as one figure in fraction units, after the increment (R1, R2). -/
def HallClock.advanced (c : HallClock) : Int := c.time.toNat * 16777216 + c.frac.toNat + increment c.trim c.slew

/-- Hall time advances by one increment, and slew remaining moves one unit toward zero (R1 to R3). -/
def HallClock.tick (c : HallClock) : HallClock :=
  { c with
    time := BitVec.ofInt 48 (c.advanced / 16777216)
    frac := BitVec.ofInt 24 c.advanced
    slew := c.slew - slewSign c.slew }

/-- Hall time runs in every station state except RESET (R1); local time is counted in all of them. -/
def State.tickClock (s : State) : State :=
  let clock := if s.loader.station = .reset then s.clock else s.clock.tick
  { s with clock := { clock with localTime := s.clock.localTime + 1 } }

/-- One local microsecond of a debouncer (R32, R48). -/
def Debouncer.tick (d : Debouncer) : Debouncer := { d with timer := d.timer.tick, moved := false }

/-- One local microsecond of a pulse train (R85). -/
def Train.tick : Train → Train
  | .stopped => .stopped
  | .paused => .paused
  | .low n => .low (n + 1)
  | .high n => .high (n + 1)

/-- One local microsecond of a dose in hand (R82). -/
def DoseInHand.tick (d : DoseInHand) : DoseInHand :=
  { d with doseTimer := d.doseTimer.tick, resumeTimer := d.resumeTimer.tick, settleTimer := d.settleTimer.tick }

/-- One local microsecond of a head; its drive ready and meter inputs are sampled once in it, and a meter pulse is a sample high
following a sample low (R76). -/
def Head.tick (h : Head) (ready meter : Bool) : Head :=
  { h with
    fault := h.fault.tick
    readySample := ready
    meterSample := meter
    meterRose := meter && !h.meterSample
    hand := h.hand.map DoseInHand.tick
    train := h.train.tick }

/-- One local microsecond of a camera port's pulses and strobes (R105, R108 to R110). -/
def CameraPort.tick (c : CameraPort) : CameraPort :=
  { c with
    trigger := c.trigger.tick
    guard := c.guard.tick
    schedule := c.schedule.map fun d => { d with elapsed := d.elapsed + 1 }
    strobe := c.strobe.tick
    offTimer := c.offTimer.tick }

/-- One local microsecond of a port; its result line is read while it works (R100, R111). -/
def State.tickPort (s : State) (p : Port) (pins : PinSamples) : CameraPort :=
  if s.portWorks p then (s.port p).tick.readResult (s.camera p).baud (resultLevel pins p) else (s.port p).tick

/-- One local microsecond of the Cabinet Monitor (R32, R35, R44). -/
def Cabinet.tick (c : Cabinet) : Cabinet :=
  { c with
    swA := c.swA.tick, swB := c.swB.tick, door := c.door.tick, key := c.key.tick
    discrepancy := c.discrepancy.tick, restore := c.restore.tick }

/-- One local microsecond of the Start-up Loader (R187, R188, R196). -/
def Loader.tick (l : Loader) (memory : Bool) : Loader :=
  { l with
    joining := l.joining.tick
    readTimer := l.readTimer.tick
    sampled := sampleMemory l.readTimer l.sampled memory
    hold := l.hold.tick }

/-- One local microsecond of the receiver: a frame in collection takes the level, and the receiver that waits for 11 recessive
microseconds looks again once the idle timer, as it now reads, has counted them (R159, R161). -/
def Receiver.hears (rx : Receiver) (recessive : Bool) (idle : Nat) : Receiver :=
  match rx with
  | .watching => .watching
  | .collecting stamp frame => .collecting stamp (frame.step recessive)
  | .waitRecessive => if Config.frameEnd ≤ idle then .watching else .waitRecessive

/-- One local microsecond of the line, in JOINING and RUNNING: the idle timer, the receiver, and the read-back of a frame being
sent (R159, R161, R163, R165). The recessive microseconds before a start mark are those of the idle timer, which runs from the
entry to JOINING; an earlier quiet of the line does not count (DESIGN CHOICE: log 44). -/
def LinePort.tick (l : LinePort) (level : LineLevel) : LinePort :=
  let idle := match level with
    | .dominant => 0
    | .recessive => l.idle + 1
  { l with
    idle := idle
    startMark := level = .dominant && Config.frameEnd ≤ l.idle
    rx := l.rx.hears (isRecessive level) idle
    tx := l.tx.map fun a => a.hears (isRecessive level) }

/-- One local microsecond (R2, R5): hall time, every timer that runs, and the pins that are read. -/
def State.tick (s : State) (pins : PinSamples) : State :=
  let t := s.tickClock
  { t with
    loader := s.loader.tick pins.memory
    cabinet := s.cabinet.tick
    tracking := { s.tracking with infeed := s.tracking.infeed.tick, pitch := s.tracking.pitch.tick }
    heads := withIndex (fun i h => h.tick (inSet pins.ready i) (inSet pins.meter i)) s.heads
    portA := s.tickPort .a pins
    portB := s.tickPort .b pins
    gate := { s.gate with confirm := s.gate.confirm.tick }
    line := if s.listening then s.line.tick pins.line else s.line }

/-- LOCAL_MICROSECOND (R2). -/
def execLocalMicrosecond (pins : PinSamples) (s : State) : Host.Outcome State Fault Refusal := .next (s.tick pins)

/-! ## ROUND_END (R7, R11, R28) -/

/-- A beacon due point after the first is reached (R7, R11). -/
def State.roundDue (s : State) : Bool := s.running && s.clock.nextDue.any fun due => reached due s.now

/-- A round ends: a beacon is offered, convergence runs, the marks are cleared, the next due point is set, silence is
advanced (R7, R11, R28). -/
def State.endRound (s : State) : State := ((s.placeBeacon.converge).clearMarks.advanceDue).advanceSilence

/-- ROUND_END (R11). -/
def execRoundEnd (s : State) : Host.Outcome State Fault Refusal := onOccasion s.roundDue s State.endRound

end Sys2Proof.Machine
end

