-- ==== Sys2Proof/Machine/GateFamily.lean ====
section
/-! DEFINITION. The commands of the Reject Gate: FIRING_START, FIRING_END, CONFIRM_EDGE, CONFIRM_WINDOW_END. -/

namespace Sys2Proof.Machine

/-- The oldest WAITING firing's start is reached, and no firing is ON (R124, log 18). -/
def State.firingStartDue (s : State) : Bool :=
  s.running && !(s.gate.firings.any Firing.isOn) && (s.gate.firings.find? Firing.isWaiting).any fun f => reached f.start s.now

/-- FIRING_START (R124): the firing becomes ON and the gate output goes high. -/
def execFiringStart (s : State) : Host.Outcome State Fault Refusal :=
  onOccasion s.firingStartDue s fun s =>
    s.withFirings (modifyFirst Firing.isWaiting (fun f => { f with phase := .on }) s.gate.firings)

/-- An ON firing at its end: it leaves unjudged, leaves confirmed, or enters TAIL (R126); the gate output goes low, unless a
merge has turned another firing ON already (R124). -/
def State.endFiring (s : State) (f : Firing) : State :=
  let left := s.withFirings (s.gate.firings.eraseP Firing.isOn)
  if s.cfg.track.confirmWindowMs = 0 then left
  else if f.containers ≤ f.count then left.firingConfirmed
  else s.withFirings (modifyFirst Firing.isOn (fun x => { x with phase := .tail }) s.gate.firings)

/-- The ON firing's end is reached (R124, R126). -/
def State.firingEnds (s : State) : State :=
  match s.gate.firings.find? Firing.isOn with
  | none => s
  | some f => if reached f.stop s.now then s.endFiring f else s

/-- FIRING_END (R126). -/
def execFiringEnd (s : State) : Host.Outcome State Fault Refusal := onOccasion s.running s State.firingEnds

/-- CONFIRM_EDGE (R125): stands when the confirm timer has reached its debounce time with the sensor SENSED. -/
def execConfirmEdge (s : State) : Host.Outcome State Fault Refusal :=
  onOccasion (s.listening && s.gate.confirm.raw) s State.takeConfirm

/-- The end of a TAIL span: end + confirm window (R126). -/
def State.tailEnd (s : State) (f : Firing) : Time := after f.stop (s.cfg.track.confirmWindowMs * 1000)

/-- The oldest TAIL firing's span is over: it leaves unconfirmed (R126, R127). -/
def State.confirmWindowEnds (s : State) : State :=
  match s.gate.firings.find? Firing.isTail with
  | none => s
  | some f =>
    if reached (s.tailEnd f) s.now then
      (s.withFirings (s.gate.firings.eraseP Firing.isTail)).firingUnconfirmed f.count
    else s

/-- CONFIRM_WINDOW_END (R126). -/
def execConfirmWindowEnd (s : State) : Host.Outcome State Fault Refusal := onOccasion s.running s State.confirmWindowEnds

end Sys2Proof.Machine
end

