-- ==== Sys2Proof/Machine/Handover.lean ====
section
/-! DEFINITION. The command HND: a handover received from upstream (R61 to R63). -/

namespace Sys2Proof.Machine

/-- The entry of an HND, with its window, computed at this instant (R60, R62). -/
def State.arrivalOf (s : State) (src : Byte) (h : HndBody) : Arrival :=
  let expected := after h.capture (s.cfg.track.transferMs * 1000)
  let half := BitVec.ofNat 48 (s.cfg.track.windowMs * 1000)
  let sent := readQuality h.quality
  { address := src.toNat
    sequence := h.sequence
    capture := h.capture
    fill := readCarriedFill h.fill h.meter
    verdictA := readCarriedVerdict (pairCodeA h.verdicts) h.failA
    verdictB := readCarriedVerdict (pairCodeB h.verdicts) h.failB
    reasons := h.reasons
    rejectPending := h.flags.getLsbD 0
    expected := expected
    windowStart := expected - half
    windowEnd := expected + half
    trusted := (sent = .synced || sent = .holdover) && (s.clock.quality = .synced || s.clock.quality = .holdover) }

/-- The checks of R63, in order: late, full, or listed at the tail. -/
def State.listArrival (s : State) (a : Arrival) : State :=
  if a.passed s.now then s.occur .handoverLate (BitVec.setWidth 8 a.sequence)
  else if Config.arrivalCapacity ≤ s.tracking.arrivals.length then
    s.occur .arrivalOverflow (BitVec.setWidth 8 a.sequence)
  else { s with tracking := { s.tracking with arrivals := s.tracking.arrivals ++ [a] } }

/-- A taken HND addressed to this station in RUNNING: its source is checked, then it is counted and listed or refused
(R61 to R63). -/
def State.takeHandover (s : State) (src : Byte) (h : HndBody) : State :=
  if s.cfg.track.upstream = 0 || src.toNat != s.cfg.track.upstream then s.discard
  else (s.count .hndReceived).listArrival (s.arrivalOf src h)

/-- HND (R61). -/
def execHnd (dest src : Byte) (h : HndBody) (s : State) : Host.Outcome State Fault Refusal :=
  onOccasion (s.hasFrame (.hnd dest src h)) s fun s => s.receive dest src fun s =>
    s.ownFrame dest fun s => s.takeHandover src h

end Sys2Proof.Machine
end

