-- ==== Sys2Proof/Machine/Heads.lean ====
section
/-! DEFINITION. The commands of the Head Controllers: DOSE_START, LOW_PHASE_END, PULSE_EMITTED, DRIVE_READY_CHANGE, METER_PULSE,
DOSE_TIMEOUT, RESUME_LIMIT, SETTLE_END, DRIVE_FAULT_ACTIVE, DRIVE_FAULT_INACTIVE. -/

namespace Sys2Proof.Machine

/-- The start time of a dose in WAIT_START is reached (R84). -/
def State.doseStartDue (s : State) (h : Nat) : Bool :=
  s.running && s.fitted h && (s.head h).dose = .waitStart &&
    (s.head h).hand.any fun d => reached d.startTime s.now

/-- RUN entry: counts 0, dose timer from 0, drive enable high, the train begins (R84). -/
def Head.enterRun (h : Head) : Head :=
  { h with
    dose := .run
    hand := h.hand.map fun d => { d with emitted := 0, meter := 0, doseTimer := some 0 }
    enableOut := true
    train := h.startTrain }

/-- A dose starts, or ends NO_RUN while run permission is false (R84). -/
def State.startDose (s : State) (h : Nat) : State :=
  if s.cabinet.permission then s.setHead h Head.enterRun else s.endDose h .noRun 0

/-- DOSE_START (R84). -/
def execDoseStart (h : Nat) (s : State) : Host.Outcome State Fault Refusal :=
  onOccasion (s.doseStartDue h) s fun s => s.startDose h

/-- A low phase has run its full time (R85). -/
def State.lowPhaseOver (s : State) (h : Nat) : Bool :=
  s.running && s.fitted h && (s.head h).emitting &&
    match (s.head h).train with
    | .low n => s.cfg.dosing.lowTime ≤ n
    | _ => false

/-- LOW_PHASE_END (R85): the high phase begins with the drive pulse output high. -/
def execLowPhaseEnd (h : Nat) (s : State) : Host.Outcome State Fault Refusal :=
  onOccasion (s.lowPhaseOver h) s fun s => s.setHead h fun x => { x with train := .high 0, pulseOut := true }

/-- SETTLE entry at the end of the last high phase (R91). -/
def Head.enterSettle (h : Head) (d : DoseInHand) : Head :=
  { h.quiet with
    dose := .settle
    hand := some { d with emitted := d.emitted + 1, doseTimer := none, settleTimer := some 0 } }

/-- A pulse of a production dose is emitted (R85, R91). -/
def State.dosePulse (s : State) (h : Nat) (d : DoseInHand) : State :=
  if s.cfg.dosing.pulses ≤ d.emitted + 1 then s.setHead h fun x => x.enterSettle d
  else s.setHead h fun x =>
    { x with hand := some { d with emitted := d.emitted + 1 }, train := .low 0, pulseOut := false }

/-- A pulse of a jog is emitted; at the target the jog ends COMPLETE (R85, R96, R97). -/
def State.jogPulse (s : State) (h : Nat) (j : JogInHand) : State :=
  let emitted := s.setHead h fun x => x.jogEmits j
  if j.target ≤ j.emitted + 1 then emitted.endJog h .complete else emitted

/-- A pulse is emitted by the dose or the jog that is running (R85). -/
def State.emitPulse (s : State) (h : Nat) : State :=
  match (s.head h).jog, (s.head h).hand with
  | some j, _ => s.jogPulse h j
  | none, some d => s.dosePulse h d
  | none, none => s

/-- PULSE_EMITTED (R85). -/
def execPulseEmitted (h : Nat) (s : State) : Host.Outcome State Fault Refusal :=
  onOccasion (s.highPhaseOver h) s fun s => s.emitPulse h

/-- Drive ready goes to a level while the train runs: low pauses it and cuts a high phase, high restarts it (R86). -/
def Head.readyChanges (h : Head) (high : Bool) : Head :=
  if high then { h with ready := true, train := .low 0 } else { h with ready := false, train := .paused, pulseOut := false }

/-- The drive ready input samples this level, and the train follows the other one yet (R76, R86). -/
def Head.readyTurns (h : Head) (high : Bool) : Bool := h.readySample = high && h.ready != high

/-- DRIVE_READY_CHANGE (R86): stands once for a change of the sample, in every station state (log 30); it acts while the dose is
in RUN or a jog is running. -/
def execDriveReadyChange (h : Nat) (high : Bool) (s : State) : Host.Outcome State Fault Refusal :=
  onOccasion ((s.head h).readyTurns high) s fun s => s.setHead h fun x =>
    if x.emitting then x.readyChanges high else { x with ready := high }

/-- The dose counts meter pulses: RUN, SUSPENDED, SETTLE (R92). -/
def Head.countsMeter (h : Head) : Bool := h.dose = .run || h.dose = .suspended || h.dose = .settle

/-- A meter pulse is taken, and counted by the dose or the jog that is counting, up to 65535 (R92, R96). -/
def Head.meterPulse (h : Head) : Head :=
  { h with
    meterRose := false
    hand := if h.countsMeter then h.hand.map fun d => { d with meter := saturate 65535 (d.meter + 1) } else h.hand
    jog := h.jog.map fun j => { j with meter := saturate 65535 (j.meter + 1) } }

/-- METER_PULSE (R76, R92): stands once for a meter pulse sampled in this local microsecond. -/
def execMeterPulse (h : Nat) (s : State) : Host.Outcome State Fault Refusal :=
  onOccasion (s.running && s.fitted h && (s.head h).meterRose) s fun s => s.setHead h Head.meterPulse

/-- The meter count of the dose in hand, 0 where there is none. -/
def Head.meterCount (h : Head) : Nat :=
  match h.hand with
  | none => 0
  | some d => d.meter

/-- The dose timer has reached the dose timeout in RUN or SUSPENDED (R88). -/
def State.doseTimedOut (s : State) (h : Nat) : Bool :=
  s.running && s.fitted h && ((s.head h).dose = .run || (s.head h).dose = .suspended) &&
    (s.head h).hand.any fun d => d.doseTimer.hasReached (s.cfg.dosing.timeoutMs * 1000)

/-- DOSE_TIMEOUT (R88): the dose ends STALLED. -/
def execDoseTimeout (h : Nat) (s : State) : Host.Outcome State Fault Refusal :=
  onOccasion (s.doseTimedOut h) s fun s => s.endDose h .stalled (s.head h).meterCount

/-- The resume timer has reached the resume limit while permission is false (R90). -/
def State.resumeLimitDue (s : State) (h : Nat) : Bool :=
  s.running && s.fitted h && (s.head h).dose = .suspended && !s.cabinet.permission &&
    (s.head h).hand.any fun d => d.resumeTimer.hasReached (s.cfg.dosing.resumeMs * 1000)

/-- RESUME_LIMIT (R90): the dose ends HELD. -/
def execResumeLimit (h : Nat) (s : State) : Host.Outcome State Fault Refusal :=
  onOccasion (s.resumeLimitDue h) s fun s => s.endDose h .held (s.head h).meterCount

/-- The settle timer has reached the settle time (R91). -/
def State.settleDue (s : State) (h : Nat) : Bool :=
  s.running && s.fitted h && (s.head h).dose = .settle &&
    (s.head h).hand.any fun d => d.settleTimer.hasReached (s.cfg.dosing.settleMs * 1000)

/-- SETTLE_END (R91, R93, R94): the dose is evaluated and ended. -/
def execSettleEnd (h : Nat) (s : State) : Host.Outcome State Fault Refusal :=
  onOccasion (s.settleDue h) s fun s =>
    s.endDose h (evaluateDose (s.head h).meterCount s.cfg.dosing.expected s.cfg.dosing.tolerance) (s.head h).meterCount

/-- The debounced drive fault is due to change to this state (R76). -/
def State.driveFaultDue (s : State) (h : Nat) (active : Bool) : Bool :=
  s.listening && s.fitted h && (s.head h).fault.due Config.driveFaultDebounce && (s.head h).fault.raw = active

/-- The meter count at a fault: 0 if the dose was in WAIT_START (R92). -/
def Head.faultMeter (h : Head) : Nat := if h.dose = .waitStart then 0 else h.meterCount

/-- The head becomes FAULTED, its outputs low (R78). -/
def Head.becomeFaulted (h : Head) : Head := { h.quiet with production := .faulted, fault := h.fault.settle }

/-- The debounced drive fault becomes active (R78): the dose ends DRIVE_FAULT, the jog ends DRIVE_FAULT, the head is FAULTED,
HEAD_FAULT is latched, and a grant may become ready (R95, R97, R146). -/
def State.driveFaults (s : State) (h : Nat) : State :=
  (((((s.endDose h .driveFault (s.head h).faultMeter).endJog h .driveFault).setHead h Head.becomeFaulted).occur
    .headFault (byte h))).testReady h

/-- DRIVE_FAULT_ACTIVE (R78). -/
def execDriveFaultActive (h : Nat) (s : State) : Host.Outcome State Fault Refusal :=
  onOccasion (s.driveFaultDue h true) s fun s => s.driveFaults h

/-- The debounced drive fault becomes inactive: the head leaves FAULTED for OUT if covered, for IN if not (R77, R78). -/
def State.driveFaultClears (s : State) (h : Nat) : State :=
  (s.setHead h fun x =>
    { x with
      fault := x.fault.settle
      production := if x.production = .faulted then (if s.covered h then .out else .inProduction)
        else x.production }).testReady h

/-- DRIVE_FAULT_INACTIVE (R77). -/
def execDriveFaultInactive (h : Nat) (s : State) : Host.Outcome State Fault Refusal :=
  onOccasion (s.driveFaultDue h false) s fun s => s.driveFaultClears h

end Sys2Proof.Machine
end

