-- ==== Sys2Proof/Machine/Query.lean ====
section
/-! DEFINITION. The command QRY: a table is read in an ANS (R180 to R184). -/

namespace Sys2Proof.Machine

/-- The start index as used (R182 steps 1 and 2). -/
def startUsed (start length : Nat) : Nat := if length = 0 then 0 else start % length

/-- The number of entries carried (R182 step 3). -/
def entriesCarried (count length perAns : Nat) : Nat := min count (min length perAns)

/-- The indices of the entries carried, from the start index upward and round to 0 (R182 step 4). -/
def carriedIndices (start count length perAns : Nat) : List Nat :=
  (List.range (entriesCarried count length perAns)).map fun i => (startUsed start length + i) % length

/-- The payload of an ANS: the header of four items and the entries (R181, R182, R201). -/
def ansPayload (table start count : Byte) (entries : List (List Byte)) : List Byte :=
  let indices := carriedIndices start.toNat count.toNat entries.length (entriesPerAns table)
  [table, byte (startUsed start.toNat entries.length), byte entries.length, byte indices.length] ++
    indices.flatMap fun i => entries.getD i []

/-- The counters carried in an ANS are set to 0 (R184). -/
def State.clearCounters (s : State) (indices : List Nat) : State :=
  { s with counters := indices.foldl (fun cs i => cs.set i 0) s.counters }

/-- The counters are cleared: the COUNTERS table is asked for with the clear flag set, and the ANS is placed (R184, R200). -/
def State.clears (s : State) (table clear : Byte) : Bool := table = 6 && clear != 0 && s.queueHasRoom

/-- The ANS is built from the tables as they stand and handed over as a class 3 frame; counters carried are cleared where
it is placed (R180, R183, R184). -/
def State.answer (s : State) (src table start count clear : Byte) (entries : List (List Byte)) : State :=
  let handed := s.handOver ⟨.ans, src, ansPayload table start count entries⟩ 3
  if s.clears table clear then
    handed.clearCounters (carriedIndices start.toNat count.toNat entries.length (entriesPerAns table))
  else handed

/-- A taken QRY addressed to this station in RUNNING; an unknown table code is refused (R180). -/
def State.query (s : State) (src table start count clear : Byte) : State :=
  match s.tableEntries table with
  | none => s.discard
  | some entries => s.answer src table start count clear entries

/-- QRY (R180). -/
def execQry (dest src table start count clear : Byte) (s : State) : Host.Outcome State Fault Refusal :=
  onOccasion (s.hasFrame (.qry dest src table start count clear)) s fun s => s.receive dest src fun s =>
    s.ownFrame dest fun s => s.query src table start count clear

end Sys2Proof.Machine
end

