-- ==== Sys2Proof/Machine/Reception.lean ====
section
/-! DEFINITION. The commands of the receiver: START_MARK, CHECK_ERROR, FRAME_DISCARDED, BCN, CAB, CRP, EVT, ARP, ANS. -/

namespace Sys2Proof.Machine

/-- The receiver watches for a start mark, and the line goes dominant after at least 11 recessive microseconds (R159, R161). -/
def State.seesStartMark (s : State) : Bool := s.listening && s.line.rx = .watching && s.line.startMark

/-- START_MARK (R9, R161): the receiver begins a frame, the Hall Clock takes the start-mark stamp, the idle timer is set back. An
own start mark is seen like any other (R165, log 37). The stamp is hall time after the increment of the mark's first dominant
microsecond, in which the line is sampled (DESIGN CHOICE: log 43). -/
def execStartMark (s : State) : Host.Outcome State Fault Refusal :=
  onOccasion s.seesStartMark s fun s =>
    { s with line := { s.line with rx := .collecting s.now .begun, idle := 0, startMark := false } }

/-- The frame fails check 1 of R162. -/
def failsCheck : Collected → Bool
  | .broken _ => true
  | .ended bytes => !wholeFrame bytes

/-- The receiver after a failed frame: it waits for 11 recessive microseconds after one that ended on a dominant line (R161). -/
def receiverAfter : Collected → Receiver
  | .broken onDominant => if onDominant then .waitRecessive else .watching
  | .ended _ => .watching

/-- CHECK_ERROR (R162) stands where the frame collected is at its end and fails check 1: not heard; the check-errors counter
increases. -/
def execCheckError (failure : Collected) (s : State) : Host.Outcome State Fault Refusal :=
  onOccasion (s.collected = some failure && failsCheck failure) s fun s =>
    ({ s with line := { s.line with rx := receiverAfter failure } } : State).count .checkErrors

/-- A whole frame fails one of checks 2 to 6 of R162. -/
def State.discards (s : State) (dest src kind : Byte) (payload : List Byte) : Bool :=
  payload.length ≤ 56 &&
    (src = s.ownAddress || !isStation src || !s.isForUs dest || (allowedKind kind payload.length).isNone)

/-- FRAME_DISCARDED (R162), of the frame collected: counted as a discard; ADDRESS_CLASH for the own source, heard from a peer otherwise (R27, R29). -/
def execFrameDiscarded (dest src kind : Byte) (payload : List Byte) (s : State) : Host.Outcome State Fault Refusal :=
  onOccasion (s.hasBytes (frameBytes dest src kind payload) && s.discards dest src kind payload) s fun s =>
    s.releaseFrame.judgeFrame dest src State.discard

/-- A taken CAB or BCN writes its source's cabinet report, and run permission follows (R30, R43, R44). -/
def State.takeReport (s : State) (src : Byte) (values : CabinetCodes) : State :=
  (s.setPeer src.toNat fun p => { p with report := readCabinet values }).followConditions

/-- The offset of a beacon: stamp + line delay - start-mark stamp, as a signed value (R9). -/
def State.offsetOf (s : State) (stamp startStamp : Time) : Int :=
  (after stamp s.cfg.hall.lineDelay - startStamp).toInt

/-- The time fields of a taken BCN (R10). -/
def State.takeTime (s : State) (src : Byte) (offset : Int) (quality : Byte) : State :=
  s.setPeer src.toNat fun p =>
    { p with offset := some offset, quality := some (readQuality quality), inRound := true }

/-- BCN (R9, R10, R30). -/
def execBcn (dest src : Byte) (b : BcnBody) (s : State) : Host.Outcome State Fault Refusal :=
  onOccasion (s.hasFrame (.bcn dest src b)) s fun s =>
    let offset := s.offsetOf b.stamp s.startStamp
    s.receive dest src fun s => (s.takeTime src offset b.quality).takeReport src b.cabinet

/-- CAB (R30). -/
def execCab (dest src : Byte) (values : CabinetCodes) (s : State) : Host.Outcome State Fault Refusal :=
  onOccasion (s.hasFrame (.cab dest src values)) s fun s => s.receive dest src fun s => s.takeReport src values

/-- A taken frame that acts on nothing: counted as taken and no more (R171). Its length is checked (R198). -/
def State.receiveIdle (s : State) (kind : FrameKind) (dest src : Byte) (payload : List Byte) : State :=
  if lenAllowed kind payload.length then s.receive dest src fun s => s
  else s.releaseFrame.judgeFrame dest src State.discard

/-- The frame that this command reports has been collected, with at most 56 payload bytes (R160, R161). -/
def State.hasPayload (s : State) (i : Instr) (payload : List Byte) : Bool := s.hasFrame i && payload.length ≤ 56

/-- CRP (R171). -/
def execCrp (dest src : Byte) (payload : List Byte) (s : State) : Host.Outcome State Fault Refusal :=
  onOccasion (s.hasPayload (.crp dest src payload) payload) s fun s => s.receiveIdle .crp dest src payload

/-- EVT (R171). -/
def execEvt (dest src : Byte) (payload : List Byte) (s : State) : Host.Outcome State Fault Refusal :=
  onOccasion (s.hasPayload (.evt dest src payload) payload) s fun s => s.receiveIdle .evt dest src payload

/-- ARP (R171). -/
def execArp (dest src : Byte) (payload : List Byte) (s : State) : Host.Outcome State Fault Refusal :=
  onOccasion (s.hasPayload (.arp dest src payload) payload) s fun s => s.receiveIdle .arp dest src payload

/-- ANS (R171). -/
def execAns (dest src : Byte) (payload : List Byte) (s : State) : Host.Outcome State Fault Refusal :=
  onOccasion (s.hasPayload (.ans dest src payload) payload) s fun s => s.receiveIdle .ans dest src payload

end Sys2Proof.Machine
end

