-- ==== Sys2Proof/Machine/Image.lean ====
section
/-! DEFINITION. The configuration image: its checks (R189 to R191), its fields and their clamping (R192, R193), its layout
(R204), and the configuration record that it gives. -/

namespace Sys2Proof.Machine

/-! ## The checks (R189 to R191) -/

/-- Addition with end-around carry on 16-bit words (R190). -/
def addAround (a b : Nat) : Nat := if a + b < 65536 then a + b else a + b - 65535

/-- The one's-complement total of bytes taken in pairs, high byte first; an odd last byte is a high byte (R190). -/
def totalOf : Nat → List Byte → Nat
  | total, [] => total
  | total, [high] => addAround total (256 * high.toNat)
  | total, high :: low :: rest => totalOf (addAround total (256 * high.toNat + low.toNat)) rest

/-- The stored sum agrees with the bytes before it (R190, R204). -/
def sumAgrees (image : List Byte) : Bool :=
  addAround (totalOf 0 (image.take 132)) (wordAt image 132).toNat = 0xFFFF

/-- The station address of an image: its first field (R191, R204). -/
def imageAddress (image : List Byte) : Nat := (byteAt image 5).toNat

/-- The bytes that have been read when the image fails its first failing check; none for an image that passes all five
(R189). -/
def failsAfter (image : List Byte) : Option Nat :=
  if byteAt image 0 != 0x47 || byteAt image 1 != 0x55 then some 2
  else if byteAt image 2 != 0x01 then some 3
  else if wordAt image 3 != 0x007F then some 5
  else if !sumAgrees image then some Config.imageBytes
  else if imageAddress image = 0 || 30 < imageAddress image then some Config.imageBytes
  else none

/-! ## The layout (R192, R204) -/

/-- A field of the image: its number, its offset and size in bytes, and its range. -/
structure FieldRow where
  number : Nat
  offset : Nat
  size : Nat
  low : Nat
  high : Nat
  deriving DecidableEq, Repr

/-- Fields 1 to 27: the hall, the Tracking Unit and the Reject Gate. A field that has no range to leave has the range of
its size. -/
def generalRows : List FieldRow :=
  [⟨1, 5, 1, 0, 255⟩, ⟨2, 6, 1, 5, 100⟩, ⟨3, 7, 1, 0, 15⟩, ⟨4, 8, 4, 0, 4294967295⟩, ⟨5, 12, 4, 0, 4294967295⟩,
   ⟨6, 16, 1, 2, 15⟩, ⟨7, 17, 2, 0, 1000⟩, ⟨8, 19, 2, 0, 1000⟩, ⟨9, 21, 2, 0, 1000⟩, ⟨10, 23, 2, 20, 2000⟩,
   ⟨11, 25, 2, 0, 5000⟩, ⟨12, 27, 1, 0, 8⟩, ⟨13, 28, 2, 0, 1000⟩, ⟨14, 30, 2, 0, 1000⟩, ⟨15, 32, 1, 0, 30⟩,
   ⟨16, 33, 1, 0, 30⟩, ⟨17, 34, 1, 0, 30⟩, ⟨18, 35, 2, 0, 60000⟩, ⟨19, 37, 2, 1, 1000⟩, ⟨20, 39, 2, 1, 30000⟩,
   ⟨21, 41, 2, 1, 1000⟩, ⟨22, 43, 1, 0, 1⟩, ⟨23, 44, 1, 0, 1⟩, ⟨24, 45, 1, 0, 1⟩, ⟨25, 46, 2, 1, 1000⟩,
   ⟨26, 48, 2, 0, 1000⟩, ⟨27, 50, 2, 0, 1000⟩]

/-- Fields 28 to 36: the dose parameters. -/
def doseRows : List FieldRow :=
  [⟨28, 52, 2, 1, 65535⟩, ⟨29, 54, 2, 2, 65535⟩, ⟨30, 56, 2, 2, 65535⟩, ⟨31, 58, 2, 16, 4095⟩, ⟨32, 60, 1, 0, 255⟩,
   ⟨33, 61, 2, 0, 10000⟩, ⟨34, 63, 2, 10, 30000⟩, ⟨35, 65, 2, 0, 2000⟩, ⟨36, 67, 2, 0, 10000⟩]

/-- The seven fields of a camera, from a field number and an offset on: 37 and 69 for camera A, 44 and 85 for camera B. -/
def cameraRows (number offset : Nat) : List FieldRow :=
  [⟨number, offset, 1, 0, 1⟩, ⟨number + 1, offset + 1, 1, 0, 4⟩, ⟨number + 2, offset + 2, 4, 0, 10000000⟩,
   ⟨number + 3, offset + 6, 2, 10, 1000⟩, ⟨number + 4, offset + 8, 2, 0, 1000⟩, ⟨number + 5, offset + 10, 2, 1, 2000⟩,
   ⟨number + 6, offset + 12, 4, 0, 100000⟩]

/-- Fields 51 to 55. -/
def closingRows : List FieldRow :=
  [⟨51, 101, 1, 1, 16⟩, ⟨52, 102, 2, 0, 65535⟩, ⟨53, 104, 1, 0, 2⟩, ⟨54, 105, 1, 0, 1⟩, ⟨55, 106, 2, 60, 7200⟩]

/-- Fields 64 to 87: the event class map, one byte for each source (R204). -/
def classRows : List FieldRow := (List.range 24).map fun source => ⟨64 + source, 108 + source, 1, 0, 255⟩

/-- Every field of the image, in ascending field number. -/
def fieldRows : List FieldRow :=
  generalRows ++ doseRows ++ cameraRows 37 69 ++ cameraRows 44 85 ++ closingRows ++ classRows

/-- The value of a field as the image holds it, an unsigned integer, high byte first (R204). -/
def FieldRow.written (image : List Byte) (row : FieldRow) : Nat := numberOf (part row.offset row.size image)

/-- A value brought into a range (R192). -/
def clampNat (low high n : Nat) : Nat := max low (min high n)

/-- The value of a field after R192. -/
def FieldRow.ranged (image : List Byte) (row : FieldRow) : Nat := clampNat row.low row.high (row.written image)

/-- The value of the field with this number, after R192. -/
def rangedField (image : List Byte) (number : Nat) : Nat :=
  match fieldRows.find? fun row => row.number = number with
  | some row => row.ranged image
  | none => 0

/-! ## The cross clamps (R193) -/

/-- The reject delay: 1 ms is raised to 2 ms, since the decide margin is then above its limit of 0 (R75, R193). -/
def crossRejectDelay (delay : Nat) : Nat := if delay = 1 then 2 else delay

/-- The decide margin, at most reject delay - 1 ms, and 1 ms where the reject delay is 1 ms (R75, R193). -/
def crossDecideMargin (delay margin : Nat) : Nat := if delay = 1 then 1 else min margin (delay - 1)

/-- An upstream, downstream or report address; the station's own is taken as 0 (R193). -/
def crossAddress (own address : Nat) : Nat := if address = own then 0 else address

/-- The class of a source: 1 for the four fixed sources; an entry that is neither 1 nor 2 is taken as 2 (R177, R193). -/
def crossClass (source entry : Nat) : Nat :=
  if fixedClassOne.contains source then 1 else if entry = 1 then 1 else 2

/-- The value of a field after R193. -/
def finalField (image : List Byte) (number : Nat) : Nat :=
  let ranged := rangedField image
  match number with
  | 20 => crossRejectDelay (ranged 20)
  | 21 => crossDecideMargin (ranged 20) (ranged 21)
  | 15 => crossAddress (ranged 1) (ranged 15)
  | 16 => crossAddress (ranged 1) (ranged 16)
  | 17 => crossAddress (ranged 1) (ranged 17)
  | n => if 64 ≤ n then crossClass (n - 64) (ranged n) else ranged n

/-- The field is changed by R192 or by R193; the fields of the four fixed sources are never entered. -/
def FieldRow.isClamped (image : List Byte) (row : FieldRow) : Bool :=
  if 64 ≤ row.number && fixedClassOne.contains (row.number - 64) then false
  else row.ranged image != row.written image || finalField image row.number != row.ranged image

/-- The clamp record: the changed fields, each once, in ascending field number (R192, R193). -/
def clampRecordOf (image : List Byte) : List Nat :=
  (fieldRows.filter fun row => row.isClamped image).map FieldRow.number

/-! ## The configuration record (R192, R193) -/

/-- The items of a camera whose first field has this number (R118). -/
def cameraItems (field : Nat → Nat) (first : Nat) : CameraConfig :=
  { enabled := field first != 0
    baud := field (first + 1)
    triggerDelay := field (first + 2)
    triggerWidth := field (first + 3)
    strobeDelay := field (first + 4)
    strobeDuration := field (first + 5)
    strobeOff := field (first + 6) }

/-- The items of the Hall Clock, the Peer Table and the Cabinet Monitor (R24, R47). -/
def hallItems (field : Nat → Nat) : HallConfig :=
  { address := field 1
    intervalMs := field 2
    lineDelay := field 3
    countedMask := BitVec.ofNat 32 (field 4)
    dependentMask := BitVec.ofNat 32 (field 5)
    absentLimit := field 6
    switchDebounce := field 7
    doorDebounce := field 8
    keyDebounce := field 9
    discrepancyMs := field 10
    restoreMs := field 11 }

/-- The items of the Tracking Unit and the Reject Gate (R75, R134). -/
def trackItems (field : Nat → Nat) : TrackConfig :=
  { heads := field 12
    infeedDebounce := field 13
    pitchDebounce := field 14
    upstream := field 15
    downstream := field 16
    report := field 17
    transferMs := field 18
    windowMs := field 19
    rejectDelayMs := field 20
    decideMarginMs := field 21
    rejectUnknown := field 22 != 0
    reportAll := field 23 != 0
    gateFitted := field 24 != 0
    gatePulseMs := field 25
    confirmWindowMs := field 26
    confirmDebounce := field 27 }

/-- The dose parameters, with E computed (R81, R93). -/
def doseItems (field : Nat → Nat) : DoseConfig :=
  { pulses := field 28
    highTime := field 29
    lowTime := field 30
    meterFactor := field 31
    tolerance := field 32
    fillDelayMs := field 33
    timeoutMs := field 34
    settleMs := field 35
    resumeMs := field 36
    expected := field 28 * field 31 / 256 }

/-- The access mode of its code (R192). -/
def accessModeOf (code : Nat) : LockMode := if code = 0 then .free else if code = 1 then .keyed else .fixed

/-- The configuration record of an accepted image (R192, R193). -/
def recordOf (image : List Byte) : ConfigRecord :=
  let field := finalField image
  { hall := hallItems field
    track := trackItems field
    dosing := doseItems field
    cameraA := cameraItems field 37
    cameraB := cameraItems field 44
    patternPeriod := field 51
    patternMask := BitVec.ofNat 16 (field 52)
    accessMode := accessModeOf (field 53)
    intrusionLocks := field 54 != 0
    maxGrantS := field 55
    classes := (List.range 24).map fun source => field (64 + source) }

end Sys2Proof.Machine
end

