-- ==== Sys2Proof/Machine/Startup.lean ====
section
/-! DEFINITION. The commands of the Start-up Loader: POWER_ON_RESET, RESET_PIN, RESET_RELEASE, IMAGE_REJECTED, END_OF_LOADING,
END_OF_JOINING. -/

namespace Sys2Proof.Machine

/-! ## Resets (R186, R187) -/

/-- A debouncer at its start value, its raw input as it was (R33, log 7). -/
def Debouncer.afterReset (d : Debouncer) : Debouncer := Debouncer.start d.raw

/-- A head at its reset values, its input levels as they were (R79, log 7). -/
def Head.afterReset (h : Head) : Head := Head.atReset h.fault.raw h.readySample h.meterSample

/-- A reset is taken: every block takes its reset values and every output goes low (R187). What stays is the levels on the
pins, and the commands that wait. -/
def State.takeReset (s : State) (hold : Timer) (rstLow heldLock : Bool) : State :=
  { State.reset with
    loader := { State.reset.loader with hold := hold, rstLow := rstLow }
    cabinet := { State.reset.cabinet with
      swA := s.cabinet.swA.afterReset
      swB := s.cabinet.swB.afterReset
      door := s.cabinet.door.afterReset
      key := s.cabinet.key.afterReset }
    tracking := { State.reset.tracking with
      infeed := s.tracking.infeed.afterReset
      pitch := s.tracking.pitch.afterReset }
    heads := s.heads.map Head.afterReset
    gate := { State.reset.gate with confirm := s.gate.confirm.afterReset }
    access := { State.reset.access with heldLock := heldLock }
    pending := s.pending }

/-- POWER_ON_RESET (R187): the hold is counted from 0, and the held-lock flag is cleared (R137, log 24). -/
def execPowerOnReset (s : State) : Host.Outcome State Fault Refusal :=
  .next (s.takeReset (some 0) s.loader.rstLow false)

/-- RESET_PIN (R187): a low sample; the held-lock flag stays as it was (R137), and so does a hold that runs. -/
def execResetPin (s : State) : Host.Outcome State Fault Refusal :=
  .next (s.takeReset s.loader.hold true s.access.heldLock)

/-- No power-on hold runs (R187). -/
def State.holdOver (s : State) : Bool :=
  match s.loader.hold with
  | none => true
  | some n => Config.powerOnHold ≤ n

/-- The station leaves RESET for LOADING, and the read of the image begins (R186, R188). -/
def State.enterLoading (s : State) : State :=
  { s with loader := { s.loader with
      station := .loading, hold := none, rstLow := false, memSelected := true, readTimer := some 0, sampled := [] } }

/-- RESET_RELEASE (R186, R187): RST_N is sampled in RESET; a high sample with no power-on hold running releases it. -/
def execResetRelease (rstHigh : Bool) (s : State) : Host.Outcome State Fault Refusal :=
  onOccasion (s.loader.station = .reset) s fun s =>
    if rstHigh && s.holdOver then s.enterLoading
    else { s with loader := { s.loader with rstLow := !rstHigh } }

/-! ## The image (R188, R189, R194) -/

/-- In LOADING, this many bytes have been read (R188). -/
def State.haveRead (s : State) (bytes : Nat) : Bool :=
  s.loader.station = .loading && s.loader.readTimer.hasReached (readMicros bytes)

/-- The bytes that decide have been read, and the image fails a check on them (R189). Of the image, what has been read must be
what was sampled from the memory (R188). -/
def State.rejects (s : State) (image : List Byte) : Bool :=
  (failsAfter image).any fun n => s.haveRead n && s.imageRead.take n = image.take n

/-- IMAGE_REJECTED (R189, R194): the read ends and the station enters FAULTED. -/
def execImageRejected (image : List Byte) (s : State) : Host.Outcome State Fault Refusal :=
  onOccasion (s.rejects image) s fun s =>
    { s with loader := { s.loader with station := .faulted, memSelected := false, readTimer := none, sampled := [] } }

/-! ## The end of LOADING (R195) -/

/-- The mask bit of an address counts for every address but the own one (R26, R192). -/
def maskNames (mask : Word32) (own address : Nat) : Bool := mask.getLsbD address && address != own

/-- A Peer Table entry at the end of LOADING: its flags, and SELF for the own address (R26). -/
def Peer.atLoading (p : Peer) (hall : HallConfig) (address : Nat) : Peer :=
  { p with
    presence := if address = hall.address then .ownEntry else p.presence
    counted := maskNames hall.countedMask hall.address address
    dependent := maskNames hall.dependentMask hall.address address }

/-- Steps 1 and 2 of R195: the configuration and clamp records are complete, and each block takes its items. -/
def State.takeItems (s : State) (image : List Byte) : State :=
  let record := recordOf image
  { s with
    loader := { s.loader with record := some record, clampRecord := clampRecordOf image }
    peers := withIndex (fun i p => p.atLoading record.hall (i + 1)) s.peers
    tracking := { s.tracking with pocket := if record.track.heads = 0 then none else s.tracking.pocket }
    latches := withIndex (fun i l => { l with cls := record.classes.getD i 2 }) s.latches }

/-- Step 3 of R195: the lock mode, with ACCESS_HELD at detail FFH when the held-lock flag is set (R135, R137). -/
def State.setLockMode (s : State) : State :=
  if s.access.heldLock then
    ({ s with access := { s.access with lockMode := some .held } } : State).occur .accessHeld 0xFF
  else { s with access := { s.access with lockMode := some s.cfg.accessMode } }

/-- Every debouncer compares its raw input with its start value (R33, R195). The confirm input is read where a gate is
fitted and a drive fault input where its head is (R98, R120). -/
def State.startDebouncers (s : State) : State :=
  { s with
    cabinet := { s.cabinet with
      swA := s.cabinet.swA.enterJoining
      swB := s.cabinet.swB.enterJoining
      door := s.cabinet.door.enterJoining
      key := s.cabinet.key.enterJoining }
    tracking := { s.tracking with infeed := s.tracking.infeed.enterJoining, pitch := s.tracking.pitch.enterJoining }
    heads := withIndex (fun i h => if s.fitted i then { h with fault := h.fault.enterJoining } else h) s.heads
    gate := { s.gate with
      confirm := if s.cfg.track.gateFitted then s.gate.confirm.enterJoining else s.gate.confirm } }

/-- An input with d = 0 that disagrees changes at the instant of the entry (R32, R33, log 12). -/
def State.settleAtOnce (s : State) : State :=
  (((((s.atOnce s.cfg.hall.switchDebounce State.takeSwitch).atOnce s.cfg.hall.doorDebounce State.takeDoor).atOnce
    s.cfg.hall.keyDebounce State.takeKey).atOnce s.cfg.track.infeedDebounce State.takeInfeed).atOnce
    s.cfg.track.pitchDebounce State.takePitch).atOnce s.cfg.track.confirmDebounce State.takeConfirm

/-- Step 4 of R195: JOINING, with its timer from 0. The read has ended (R188). -/
def State.enterJoining (s : State) : State :=
  (({ s with loader := { s.loader with
      station := .joining, joining := some 0, memSelected := false, readTimer := none, sampled := [] } } :
    State).startDebouncers).settleAtOnce

/-- The whole image has been read, as sampled from the memory, and passes its five checks (R188, R189). -/
def State.accepts (s : State) (image : List Byte) : Bool :=
  (failsAfter image).isNone && s.haveRead Config.imageBytes && s.imageRead = image

/-- END_OF_LOADING (R195). -/
def execEndOfLoading (image : List Byte) (s : State) : Host.Outcome State Fault Refusal :=
  onOccasion (s.accepts image) s fun s => ((s.takeItems image).setLockMode).enterJoining

/-! ## The end of JOINING (R22, R196) -/

/-- The one convergence of R22: a step of any size and ACQUIRE when an offset is included. -/
def State.joiningConvergence (s : State) : State :=
  match roundOutcome s.includedOffsets with
  | none => s
  | some c => (s.stepTime c).setQuality .acquire

/-- Step 1 of R196: the convergence, the marks and both round counters. -/
def State.convergeJoining (s : State) : State :=
  let converged := (s.joiningConvergence).clearMarks
  { converged with clock := { converged.clock with goodRounds := 0, emptyRounds := 0 } }

/-- Steps 2 and 3 of R196: RUNNING, the first due point and beacon, the CAB slot PENDING (R7, R41). The next due point that
ends a round is one interval on. -/
def State.enterRunning (s : State) : State :=
  let placed := ({ s with
    loader := { s.loader with station := .running, joining := none }
    clock := { s.clock with nextDue := some (after s.now s.intervalMicros) } } : State).placeBeacon
  { placed with line := { placed.line with cabSlot := .pending } }

/-- Steps 4 and 5 of R196: CONFIG_CLAMPED for each field of the clamp record, which is then emptied; the fault lamp dark. -/
def State.latchClamps (s : State) : State :=
  let latched := s.loader.clampRecord.foldl (fun s' field => s'.occur .configClamped (byte field)) s
  { latched with loader := { latched.loader with clampRecord := [], faultLamp := false } }

/-- The joining timer has reached 3 × I_µs (R196). -/
def State.joiningDue (s : State) : Bool :=
  s.loader.station = .joining && s.loader.joining.hasReached (3 * s.intervalMicros)

/-- END_OF_JOINING (R196); run permission follows its condition 1 (R44). -/
def execEndOfJoining (s : State) : Host.Outcome State Fault Refusal :=
  onOccasion s.joiningDue s fun s => (((s.convergeJoining).enterRunning).latchClamps).followConditions

end Sys2Proof.Machine
end

