-- ==== Sys2Proof/Machine/Tracking.lean ====
section
/-! DEFINITION. The commands of the Tracking Unit that come from its sensors and due times: CAPTURE, PITCH, ARRIVAL_LOST, DECIDE. -/

namespace Sys2Proof.Machine

/-- CAPTURE (R50): stands when the infeed's timer has reached its debounce time with the sensor COVERED. -/
def execCapture (s : State) : Host.Outcome State Fault Refusal :=
  onOccasion (s.listening && s.tracking.infeed.raw) s State.takeInfeed

/-- PITCH (R49): stands when the pitch timer has reached its debounce time with the sensor at MARK. -/
def execPitch (s : State) : Host.Outcome State Fault Refusal :=
  onOccasion (s.listening && s.tracking.pitch.raw) s State.takePitch

/-- The entry at this position is removed as LOST, where it is trusted and its window end is before hall time (R64). -/
def State.loseArrival (s : State) (position : Nat) : State :=
  match s.tracking.arrivals[position]? with
  | none => s
  | some a =>
    if a.passed s.now then
      let latched := s.latchLost a
      { latched with tracking := { latched.tracking with arrivals := s.tracking.arrivals.eraseIdx position } }
    else s

/-- ARRIVAL_LOST (R64). -/
def execArrivalLost (position : Nat) (s : State) : Host.Outcome State Fault Refusal :=
  onOccasion s.running s fun s => s.loseArrival position

/-- The head record is decided when its decide time is reached (R68). -/
def State.decide (s : State) : State :=
  match s.tracking.records with
  | [] => s
  | r :: rest => if reached (s.decideTime r) s.now then s.decideHead r rest else s

/-- DECIDE (R68). -/
def execDecide (s : State) : Host.Outcome State Fault Refusal := onOccasion s.running s State.decide

end Sys2Proof.Machine
end

