-- ==== Sys2Proof/Machine/TransmitOps.lean ====
section
/-! DEFINITION. The transmitter: the required gap and the send order (R163, R164), filling a frame (R167), and what becomes of
a candidate at the end of its attempt (R40, R166, R170). -/

namespace Sys2Proof.Machine

/-! ## The send order (R164) -/

/-- The gap that the idle timer must reach, longer while the backoff mark is set (R163, R166). -/
def State.requiredGap (s : State) : Nat :=
  if s.line.backoff then Config.gap + s.cfg.hall.address * 16 else Config.gap

/-- A latch that is offered: pending and not blocked (R164). -/
def Latch.isOffered (l : Latch) (cls : Nat) : Bool := l.pending && !l.blocked && l.cls = cls

/-- The older of the best so far and a latch that is offered; the lower source keeps its place on a tie (R164). -/
def olderLatch (cls : Nat) (best : Option (Nat × Nat)) (source : Nat) (l : Latch) : Option (Nat × Nat) :=
  if l.isOffered cls then
    match best with
    | none => some (source, l.ready)
    | some (k, ready) => if l.ready < ready then some (source, l.ready) else some (k, ready)
  else best

/-- The oldest offered latch among latches numbered from `source` on, with its ready time. -/
def oldestLatchFrom (cls : Nat) : Nat → List Latch → Option (Nat × Nat) → Option (Nat × Nat)
  | _, [], best => best
  | source, l :: rest, best => oldestLatchFrom cls (source + 1) rest (olderLatch cls best source l)

/-- The oldest offered latch of a class, with its ready time; latches are offered only to a report address (R164). -/
def State.oldestLatch (s : State) (cls : Nat) : Option (Nat × Nat) :=
  if s.cfg.track.report = 0 then none else oldestLatchFrom cls 0 s.latches none

/-- The first entry of a class in the General Queue. -/
def State.firstQueued (s : State) (cls : Nat) : Option QueueEntry := s.line.queue.find? fun e => e.cls = cls

/-- Rank 4: the class 2 latches and the class 2 entries, oldest ready time first; a latch goes first on a tie (R164). -/
def State.pickClassTwo (s : State) : Option Candidate :=
  match s.oldestLatch 2, s.firstQueued 2 with
  | some (source, ready), some e => if ready ≤ e.ready then some (.latch source) else some (.queued 2)
  | some (source, _), none => some (.latch source)
  | none, some _ => some (.queued 2)
  | none, none => none

/-- The candidate that the send order gives, when there is one (R164). -/
def State.pick (s : State) : Option Candidate :=
  if s.line.cabSlot = .pending then some .cab
  else if s.line.bcnSlot.isSome then some .bcn
  else match s.oldestLatch 1 with
    | some (source, _) => some (.latch source)
    | none => s.pickClassTwo.or ((s.firstQueued 3).map fun _ => .queued 3)

/-! ## Filling a frame (R167) -/

/-- An HND takes its quality field, byte 18, at the start mark; other queued frames are as handed over (R131, R167). -/
def OutFrame.filled (f : OutFrame) (quality : Quality) : List Byte :=
  match f.kind with
  | .hnd => f.payload.set 18 (qualityCode quality)
  | _ => f.payload

/-- The frame with the own address as SRC, for its destination and kind (R160, R191). -/
def State.frameFor (s : State) (dest : Byte) (kind : FrameKind) (payload : List Byte) : List Byte :=
  frameBytes dest s.ownAddress (kindCode kind) payload

/-- A latch of a source; clear where the source has none. -/
def State.latch (s : State) (source : Nat) : Latch := s.latches.getD source (Latch.clear 2)

/-- The frame of a candidate, filled at this instant (R8, R40, R131, R167, R170). -/
def State.fillFrame (s : State) (c : Candidate) : List Byte :=
  match c with
  | .cab => s.frameFor 31 .cab s.cabinetBytes
  | .bcn =>
    match s.line.bcnSlot with
    | some p => s.frameFor 31 .bcn (s.bcnPayload p)
    | none => []
  | .latch source => s.frameFor (byte s.cfg.track.report) .evt (evtPayload source (s.latch source).content)
  | .queued cls =>
    match s.firstQueued cls with
    | some e => s.frameFor e.frame.dest e.frame.kind (e.frame.filled s.clock.quality)
    | none => []

/-! ## The candidate through its attempt -/

/-- Change the latch of a source. -/
def State.setLatch (s : State) (source : Nat) (f : Latch → Latch) : State :=
  { s with latches := s.latches.modify source f }

/-- Change the Line Port. -/
def State.onLine (s : State) (f : LinePort → LinePort) : State := { s with line := f s.line }

/-- The candidate's place while its attempt runs: the CAB slot SENDING, the latch blocked, the entry marked
(R40, R164, R168). -/
def State.beginAttempt (s : State) (c : Candidate) : State :=
  match c with
  | .cab => s.onLine fun l => { l with cabSlot := .sending, renew := false }
  | .bcn => s
  | .latch source => s.setLatch source fun l => { l with blocked := true }
  | .queued cls =>
    s.onLine fun l => { l with queue := modifyFirst (fun e => e.cls = cls) (fun e => { e with inAttempt := true }) l.queue }

/-- TRANSMIT_START's effect: the frame is filled and its start mark driven, and the backoff mark is cleared (R163, R166). From the
next local microsecond on the line reads dominant: the idle timer is set back, a frame still in collection ends, and the own
receiver begins the frame as every receiver does (R159, R163, R165; log 37, log 45). -/
def State.startAttempt (s : State) (c : Candidate) : State :=
  (s.beginAttempt c).onLine fun l => { l with tx := some ⟨c, s.fillFrame c, []⟩, backoff := false }

/-- The entry in an attempt, when the frame that was sent is an HND. -/
def State.attemptIsHandover (s : State) : Bool := s.line.queue.any fun e => e.inAttempt && e.frame.kind = .hnd

/-- A latch whose EVT has been sent: clear, or pending with what its sending record gathered (R170). -/
def Latch.sent (l : Latch) (localTime : Nat) : Latch :=
  if l.sending.count = 0 then Latch.clear l.cls
  else { Latch.clear l.cls with pending := true, content := l.sending, ready := localTime }

/-- The candidate's place once its frame is sent (R7, R40, R131, R166, R168, R170). -/
def State.candidateSent (s : State) (c : Candidate) : State :=
  match c with
  | .cab => s.onLine fun l =>
      { l with cabSlot := if l.renew then .pending else .empty, renew := false, cabAttempts := 0 }
  | .bcn => s.onLine fun l => { l with bcnSlot := none, bcnAttempts := 0 }
  | .latch source => s.setLatch source fun l => l.sent s.clock.localTime
  | .queued _ =>
    let left := s.onLine fun l => { l with queue := l.queue.eraseP QueueEntry.inAttempt }
    if s.attemptIsHandover then left.count .hndSent else left

/-- What is gathered, with what the sending record gathered merged in: counts added, first time kept, the latest detail
(R170). -/
def Gathered.merge (g sending : Gathered) : Gathered :=
  if sending.count = 0 then g else ⟨saturate 255 (g.count + sending.count), g.first, sending.detail⟩

/-- A latch whose EVT attempt collided: unblocked, the sending record merged in; the eighth collision starts a fresh
attempt count (R166, R170). -/
def Latch.collided (l : Latch) : Latch :=
  { l with
    content := l.content.merge l.sending
    sending := Gathered.none
    blocked := false
    attempts := if Config.maxAttempts ≤ l.attempts + 1 then 0 else l.attempts + 1 }

/-- LINE_FAULT with the KIND code of the frame concerned (R166). -/
def State.lineFault (s : State) (kind : FrameKind) : State := s.occur .lineFault (kindCode kind)

/-- LINE_FAULT where an attempt count has come to 8 (R166). -/
def State.faultAtEight (s : State) (attemptsBefore : Nat) (kind : FrameKind) : State :=
  if attemptsBefore + 1 = Config.maxAttempts then s.lineFault kind else s

/-- The CAB slot after a collision: PENDING again, its count held at 8 (R40, R166). -/
def LinePort.cabCollided (l : LinePort) : LinePort :=
  { l with cabSlot := .pending, renew := false, cabAttempts := saturate Config.maxAttempts (l.cabAttempts + 1) }

/-- The BCN slot after a collision: kept, or emptied at the eighth (R166). -/
def LinePort.bcnCollided (l : LinePort) : LinePort :=
  if Config.maxAttempts ≤ l.bcnAttempts + 1 then { l with bcnSlot := none, bcnAttempts := 0 }
  else { l with bcnAttempts := l.bcnAttempts + 1 }

/-- An entry returned to its place after a collision (R166). -/
def QueueEntry.returned (e : QueueEntry) : QueueEntry := { e with inAttempt := false, attempts := e.attempts + 1 }

/-- The General Queue after a collision of the entry in the attempt: it stays, or is removed at the eighth (R166). -/
def LinePort.entryCollided (l : LinePort) (e : QueueEntry) : LinePort :=
  if Config.maxAttempts ≤ e.attempts + 1 then { l with queue := l.queue.eraseP QueueEntry.inAttempt }
  else { l with queue := modifyFirst QueueEntry.inAttempt QueueEntry.returned l.queue }

/-- The candidate is returned to its place, or dropped at its eighth collision with LINE_FAULT (R40, R165, R166, R170). -/
def State.candidateCollided (s : State) (c : Candidate) : State :=
  match c with
  | .cab => (s.onLine LinePort.cabCollided).faultAtEight s.line.cabAttempts .cab
  | .bcn => (s.onLine LinePort.bcnCollided).faultAtEight s.line.bcnAttempts .bcn
  | .latch source => (s.setLatch source Latch.collided).faultAtEight (s.latch source).attempts .evt
  | .queued _ =>
    match s.line.queue.find? QueueEntry.inAttempt with
    | some e => (s.onLine fun l => l.entryCollided e).faultAtEight e.attempts e.frame.kind
    | none => s

end Sys2Proof.Machine
end

