-- ==== Sys2Proof/Machine/Transmit.lean ====
section
/-! DEFINITION. The commands of the transmitter: TRANSMIT_START, FRAME_SENT, COLLISION. -/

namespace Sys2Proof.Machine

/-- The transmitter may start: RUNNING, LISTEN, and the idle timer at the required gap (R163). -/
def State.mayStart (s : State) : Bool := s.running && s.line.tx.isNone && s.requiredGap ≤ s.line.idle

/-- The candidate that TRANSMIT_START takes, where it may start and one exists (R163). -/
def State.startCandidate (s : State) : Option Candidate := if s.mayStart then s.pick else none

/-- TRANSMIT_START (R163). -/
def execTransmitStart (s : State) : Host.Outcome State Fault Refusal :=
  .next (match s.startCandidate with
    | some c => s.startAttempt c
    | none => s)

/-- FRAME_SENT's effect: the candidate leaves its place, the frame counts, the receiver drops the own frame
(R163, R165, R167). -/
def State.endSent (s : State) (c : Candidate) : State :=
  ((s.candidateSent c).count .framesSent).onLine fun l => { l with tx := none, rx := .watching }

/-- FRAME_SENT (R163): stands once the frame, to its last CRC byte, is read back as sent. -/
def execFrameSent (s : State) : Host.Outcome State Fault Refusal :=
  .next (match s.line.tx.filter Attempt.isWhole with
    | some a => s.endSent a.candidate
    | none => s)

/-- COLLISION's effect: the collisions counter, the backoff mark, the candidate's place; the receiver goes on with the frame
it began (R165, R166). -/
def State.endCollided (s : State) (c : Candidate) : State :=
  ((s.count .collisions).onLine fun l => { l with tx := none, backoff := true }).candidateCollided c

/-- COLLISION (R165): stands once the start mark or a byte sent whole is read back differently. -/
def execCollision (s : State) : Host.Outcome State Fault Refusal :=
  .next (match s.line.tx.filter Attempt.collides with
    | some a => s.endCollided a.candidate
    | none => s)

end Sys2Proof.Machine
end

