-- ==== Sys2Proof/Machine/Dispatch.lean ====
section
/-! DEFINITION. The meaning of every command: one arm for each constructor of Instr. -/

namespace Sys2Proof.Machine

/-- The effect of a command on everything but the queue. -/
def exec (i : Instr) (s : State) : Host.Outcome State Fault Refusal :=
  match i with
  | .powerOnReset => Sys2Proof.Machine.execPowerOnReset s
  | .resetPin => Sys2Proof.Machine.execResetPin s
  | .resetRelease rstHigh => Sys2Proof.Machine.execResetRelease rstHigh s
  | .imageRejected image => Sys2Proof.Machine.execImageRejected image s
  | .endOfLoading image => Sys2Proof.Machine.execEndOfLoading image s
  | .endOfJoining => Sys2Proof.Machine.execEndOfJoining s
  | .localMicrosecond pins => Sys2Proof.Machine.execLocalMicrosecond pins s
  | .roundEnd => Sys2Proof.Machine.execRoundEnd s
  | .startMark => Sys2Proof.Machine.execStartMark s
  | .checkError failure => Sys2Proof.Machine.execCheckError failure s
  | .frameDiscarded dest src kind payload => Sys2Proof.Machine.execFrameDiscarded dest src kind payload s
  | .bcn dest src body => Sys2Proof.Machine.execBcn dest src body s
  | .cab dest src values => Sys2Proof.Machine.execCab dest src values s
  | .hnd dest src body => Sys2Proof.Machine.execHnd dest src body s
  | .crp dest src payload => Sys2Proof.Machine.execCrp dest src payload s
  | .evt dest src payload => Sys2Proof.Machine.execEvt dest src payload s
  | .arp dest src payload => Sys2Proof.Machine.execArp dest src payload s
  | .ans dest src payload => Sys2Proof.Machine.execAns dest src payload s
  | .arq dest src level span seconds => Sys2Proof.Machine.execArq dest src level span seconds s
  | .arl dest src number => Sys2Proof.Machine.execArl dest src number s
  | .jog dest src head count => Sys2Proof.Machine.execJog dest src head count s
  | .lck dest src => Sys2Proof.Machine.execLck dest src s
  | .qry dest src table start count clear => Sys2Proof.Machine.execQry dest src table start count clear s
  | .transmitStart => Sys2Proof.Machine.execTransmitStart s
  | .frameSent => Sys2Proof.Machine.execFrameSent s
  | .collision => Sys2Proof.Machine.execCollision s
  | .rawInputChange input => Sys2Proof.Machine.execRawInputChange input s
  | .switchChannelChange => Sys2Proof.Machine.execSwitchChannelChange s
  | .discrepancy => Sys2Proof.Machine.execDiscrepancy s
  | .restoreTimerExpiry => Sys2Proof.Machine.execRestoreTimerExpiry s
  | .doorChange => Sys2Proof.Machine.execDoorChange s
  | .keyChange => Sys2Proof.Machine.execKeyChange s
  | .capture => Sys2Proof.Machine.execCapture s
  | .pitch => Sys2Proof.Machine.execPitch s
  | .arrivalLost position => Sys2Proof.Machine.execArrivalLost position s
  | .decide => Sys2Proof.Machine.execDecide s
  | .doseStart head => Sys2Proof.Machine.execDoseStart head s
  | .lowPhaseEnd head => Sys2Proof.Machine.execLowPhaseEnd head s
  | .pulseEmitted head => Sys2Proof.Machine.execPulseEmitted head s
  | .driveReadyChange head high => Sys2Proof.Machine.execDriveReadyChange head high s
  | .meterPulse head => Sys2Proof.Machine.execMeterPulse head s
  | .doseTimeout head => Sys2Proof.Machine.execDoseTimeout head s
  | .resumeLimit head => Sys2Proof.Machine.execResumeLimit head s
  | .settleEnd head => Sys2Proof.Machine.execSettleEnd head s
  | .driveFaultActive head => Sys2Proof.Machine.execDriveFaultActive head s
  | .driveFaultInactive head => Sys2Proof.Machine.execDriveFaultInactive head s
  | .grantExpiry number => Sys2Proof.Machine.execGrantExpiry number s
  | .triggerTime port busy => Sys2Proof.Machine.execTriggerTime port busy s
  | .triggerPulseEnd port => Sys2Proof.Machine.execTriggerPulseEnd port s
  | .guardEnd port => Sys2Proof.Machine.execGuardEnd port s
  | .strobeDue port => Sys2Proof.Machine.execStrobeDue port s
  | .strobeEnd port => Sys2Proof.Machine.execStrobeEnd port s
  | .strobeOffExpiry port => Sys2Proof.Machine.execStrobeOffExpiry port s
  | .resultMessage port byte => Sys2Proof.Machine.execResultMessage port byte s
  | .framingError port => Sys2Proof.Machine.execFramingError port s
  | .interByteTimeout port => Sys2Proof.Machine.execInterByteTimeout port s
  | .firingStart => Sys2Proof.Machine.execFiringStart s
  | .firingEnd => Sys2Proof.Machine.execFiringEnd s
  | .confirmEdge => Sys2Proof.Machine.execConfirmEdge s
  | .confirmWindowEnd => Sys2Proof.Machine.execConfirmWindowEnd s
  | .resultByte port byte => Sys2Proof.Machine.execResultByte port byte s
  | .debounceTimerExpiry input => Sys2Proof.Machine.execDebounceTimerExpiry input s

end Sys2Proof.Machine
end

