-- ==== Sys2Proof/Safety.lean ====
section
/-! DEFINITION. What a safe run is: a run that is timely (log 3), and the conditions that every command keeps. -/

namespace Sys2Proof.Machine

/-! ## Timely runs (R4, R5, log 3) -/

/-- The commands that the Loader, the Hall Clock, the Line Port, the debouncers, the Tracking Unit and the Reject Gate give of
themselves; what the memory holds beyond the bytes read comes from outside. -/
def blockCommands (image : List Byte) : List Instr :=
  [.resetRelease true, .imageRejected image, .endOfLoading image, .endOfJoining, .roundEnd, .startMark, .transmitStart,
    .frameSent, .collision, .switchChannelChange, .discrepancy, .restoreTimerExpiry, .doorChange, .keyChange, .capture, .pitch, .decide,
    .firingStart, .firingEnd, .confirmEdge, .confirmWindowEnd, .debounceTimerExpiry .infeed, .debounceTimerExpiry .pitch,
    .debounceTimerExpiry .confirm]

/-- The character that a port's receiver has completed, as its command (R111, R112). -/
def characterCommands (s : State) (p : Port) : List Instr :=
  match (s.port p).receiver with
  | .complete (some b) => [.resultByte p b]
  | .complete none => [.framingError p]
  | _ => []

/-- INTER_BYTE_TIMEOUT, but for a limit that came with a start bit, which may be taken first (R113). -/
def timeoutCommands (s : State) (p : Port) : List Instr :=
  match (s.port p).receiver with
  | .inCharacter _ _ => if (s.port p).interByte = some (interByteLimit (s.camera p).baud) then [] else [.interByteTimeout p]
  | _ => [.interByteTimeout p]

/-- The frame that the receiver has collected to its end, as its command (R161, R162). -/
def frameCommands (s : State) : List Instr := s.collected.toList.map commandCollected

/-- The commands that a camera port gives of itself; the busy input comes from outside. -/
def portCommands (s : State) (busy : Bool) (p : Port) : List Instr :=
  [.triggerTime p busy, .triggerPulseEnd p, .guardEnd p, .strobeDue p, .strobeEnd p, .strobeOffExpiry p] ++
    characterCommands s p ++ timeoutCommands s p

/-- The commands that a head gives of itself. -/
def headCommands (h : Nat) : List Instr :=
  [.doseStart h, .lowPhaseEnd h, .pulseEmitted h, .doseTimeout h, .resumeLimit h, .settleEnd h, .driveFaultActive h,
    .driveFaultInactive h, .driveReadyChange h true, .driveReadyChange h false, .meterPulse h]

/-- The commands that the part's own timers and due points give, with every operand they may carry. -/
def ownCommands (s : State) (image : List Byte) (busy : Bool) : List Instr :=
  List.flatten [blockCommands image, frameCommands s, (List.range Config.arrivalCapacity).map Instr.arrivalLost,
    (List.range 256).map Instr.grantExpiry, portCommands s busy .a, portCommands s busy .b,
    (List.range Config.headControllers).flatMap headCommands]

/-- A command is due: it would change the state. -/
def State.isDue (s : State) (i : Instr) : Bool :=
  match exec i s with
  | .next t => t != s
  | .fault _ => false
  | .refused _ => false

/-- No command of the part's own is due, so the next local microsecond may begin. -/
def State.timely (s : State) (image : List Byte) (busy : Bool) : Bool :=
  (ownCommands s image busy).all fun i => !s.isDue i

/-- A step that a timely run may take: a local microsecond begins only when nothing is due. -/
def State.mayTake (s : State) (i : Instr) (image : List Byte) (busy : Bool) : Bool :=
  match i with
  | .localMicrosecond _ => s.timely image busy
  | _ => true

/-! ## What every command keeps -/

/-- The fixed tables keep their sizes (R25, R76, R174, R179), the lists their capacities (R54, R60, R107, R121, R168), the counts
of the Counter Bank and the latches their tops (R174, R179), what is sampled of the image its length (R188, R204), and what is
read back of a frame that of the frame (R159, R165). -/
structure State.Bounded (s : State) : Prop where
  peers : s.peers.length = 30
  heads : s.heads.length = 8
  latches : s.latches.length = 24
  counters : s.counters.length = 20
  records : s.tracking.records.length ≤ 64
  arrivals : s.tracking.arrivals.length ≤ 32
  firings : s.gate.firings.length ≤ 16
  queue : s.line.queue.length ≤ 16
  pendingA : s.portA.pending.length ≤ 16
  pendingB : s.portB.pending.length ≤ 16
  counts : ∀ n ∈ s.counters, n ≤ 65535
  gathered : ∀ l ∈ s.latches, l.content.count ≤ 255 ∧ l.sending.count ≤ 255
  sampled : s.loader.sampled.length ≤ 1072
  readBack : ∀ a, s.line.tx = some a → a.readBack.length ≤ (frameLevels a.bytes).length

/-- The figures of the Hall Clock stay in their ranges (R2, R3, R15, R21). -/
structure State.ClockSound (s : State) : Prop where
  trim : -4096 ≤ s.clock.trim ∧ s.clock.trim ≤ 4096
  slew : -19200 ≤ s.clock.slew ∧ s.clock.slew ≤ 19200
  good : s.clock.goodRounds ≤ 255
  empty : s.clock.emptyRounds ≤ 65535

/-- A stability timer runs only where its input is read, and only while the raw input disagrees with the debounced state
(R32, R33). -/
def Debouncer.Sound (d : Debouncer) (reads : Bool) : Prop := d.timer.isSome = true → reads = true ∧ d.raw ≠ d.state

/-- Every debouncer is sound: the confirm input is read where a gate is fitted, a drive fault input where its head is
(R33, R48, R76, R98, R120). -/
structure State.InputsSound (s : State) : Prop where
  swA : s.cabinet.swA.Sound s.listening
  swB : s.cabinet.swB.Sound s.listening
  door : s.cabinet.door.Sound s.listening
  key : s.cabinet.key.Sound s.listening
  infeed : s.tracking.infeed.Sound s.listening
  pitch : s.tracking.pitch.Sound s.listening
  confirm : s.gate.confirm.Sound s.readsConfirm
  faults : ∀ h, h < 8 → (s.head h).fault.Sound (s.listening && s.fitted h)

/-- The records of the Tracking Queue carry consecutive sequence numbers, none 0 and none twice, and the next number follows the
newest (R53, R54); the figures of the configuration that order its decides stay in their ranges (R192, R193). -/
structure State.TrackingSound (s : State) : Prop where
  order : (s.tracking.records.map Record.sequence ++ [s.tracking.nextSequence]).IsChain fun n k => k = nextSequenceAfter n
  nonzero : s.tracking.nextSequence ≠ 0 ∧ ∀ r ∈ s.tracking.records, r.sequence ≠ 0
  distinct : (s.tracking.records.map Record.sequence).Nodup
  delays : ∀ r, s.loader.record = some r →
    r.track.decideMarginMs < r.track.rejectDelayMs ∧ r.track.rejectDelayMs ≤ 30000

/-- The counts of one head (R82, R85, R91, R92, R96, R99): a dose that waits has counted nothing, one in RUN or SUSPENDED has pulses
left, one in SETTLE has emitted its target and no more; a jog that runs has pulses left; a meter count stops at 65535. -/
structure Head.CountsSound (h : Head) (pulses : Nat) : Prop where
  waiting : ∀ d, h.hand = some d → h.dose = .waitStart → d.emitted = 0 ∧ d.meter = 0
  running : ∀ d, h.hand = some d → h.dose = .run ∨ h.dose = .suspended → d.emitted < pulses
  settling : ∀ d, h.hand = some d → h.dose = .settle → d.emitted = pulses
  jog : ∀ j, h.jog = some j → j.emitted < j.target ∧ j.target ≤ 65535 ∧ j.meter ≤ 65535
  meter : ∀ d, h.hand = some d → d.meter ≤ 65535

/-- No head emits more pulses than its target, which is at least 1 in every configuration (R85, R192). -/
structure State.TargetsSound (s : State) : Prop where
  pulses : ∀ r, s.loader.record = some r → 1 ≤ r.dosing.pulses
  each : ∀ h, h < 8 → (s.head h).CountsSound s.cfg.dosing.pulses

/-- The sequences of the records whose verdict for a port is PENDING, in queue order (R57, R103). -/
def State.awaiting (s : State) (p : Port) : List Word32 :=
  (s.tracking.records.filter fun r => r.verdict p = .pending).map Record.sequence

/-- The pending-trigger list of a port is a run of consecutive tags, all different, that ends before the tag counter, and its
entries name the first of the tracked records whose verdict is PENDING, in queue order (R103, R106, R107, R116). -/
structure State.TriggersSound (s : State) (p : Port) : Prop where
  tags : (s.port p).pending.map PendingTrigger.tag = (List.range (s.port p).pending.length).map fun i =>
    (s.port p).tag - BitVec.ofNat 8 ((s.port p).pending.length - i)
  distinct : ((s.port p).pending.map PendingTrigger.tag).Nodup
  named : ∀ e ∈ (s.port p).pending, ∃ r ∈ s.tracking.records, r.sequence = e.sequence ∧ r.verdict p = .pending
  order : (s.port p).pending.map PendingTrigger.sequence <+: s.awaiting p

/-- Run permission is true only while the run conditions hold, the restore timer runs only while they hold and permission is
false, and the run lamp shows run permission (R43, R44, R45). -/
structure State.PermissionSound (s : State) : Prop where
  conditions : s.cabinet.permission = true → s.runConditions = true
  waiting : s.cabinet.restore.isSome = true → s.runConditions = true ∧ s.cabinet.permission = false
  lamp : s.loader.runLamp = s.cabinet.permission

/-- Two grants share no head, do not both have level DOOR, and bear different numbers (R142 step 7, R144). -/
def Grant.Apart (g k : Grant) : Prop :=
  g.heads &&& k.heads = 0 ∧ ¬(g.level = .door ∧ k.level = .door) ∧ g.number ≠ k.number

/-- At most four grants, apart from each other, in ascending order of number, each with a number 1..255; none while the lock
mode is HELD or FIXED, and none outside RUNNING; the held-lock flag is set while the lock mode is HELD (R136, R137, R141,
R142, R144). The order is the model's own way of holding the table, which has no order of meaning (R141). -/
structure State.GrantsSound (s : State) : Prop where
  capacity : s.access.grants.length ≤ 4
  apart : s.access.grants.Pairwise Grant.Apart
  ascending : s.access.grants.Pairwise fun g k => g.number < k.number
  numbers : ∀ g ∈ s.access.grants, 1 ≤ g.number ∧ g.number ≤ 255
  next : 1 ≤ s.access.nextGrant ∧ s.access.nextGrant ≤ 255
  locked : s.access.lockMode = some .held ∨ s.access.lockMode = some .fixed → s.access.grants = []
  outside : s.running = false → s.access.grants = []
  held : s.access.lockMode = some .held → s.access.heldLock = true

/-- The states and outputs of one head agree with each other (R77, R80, R82, R85 to R87, R96): drive enable is high exactly
while the dose is in RUN or a jog is running; the train runs exactly then, paused exactly while drive ready is low; the drive
pulse output is high exactly in a high phase; a dose in hand stands exactly outside IDLE; a jog runs only on an OUT head with
no dose; a DRAINING head has a dose and an OUT or FAULTED head has none; the head is FAULTED exactly while its debounced
drive fault is active. -/
structure Head.Sound (h : Head) : Prop where
  enable : h.enableOut = h.emitting
  stopped : h.train = .stopped ↔ h.emitting = false
  paused : h.emitting = true → (h.train = .paused ↔ h.ready = false)
  pulse : h.pulseOut = true ↔ ∃ n, h.train = .high n
  hand : h.hand.isSome = true ↔ h.dose ≠ .idle
  jogs : h.jog.isSome = true → h.dose = .idle ∧ h.production = .out
  draining : h.production = .draining → h.dose ≠ .idle
  out : h.production = .out → h.dose = .idle
  faulted : h.production = .faulted ↔ h.fault.state = true
  faultIdle : h.production = .faulted → h.dose = .idle

/-- Every head is sound, and one that is not FAULTED is DRAINING or OUT exactly while a grant covers it (R77). -/
structure State.HeadsSound (s : State) : Prop where
  each : ∀ h, h < 8 → (s.head h).Sound
  covering : ∀ h, h < 8 → (s.head h).production ≠ .faulted →
    (s.covered h = true ↔ (s.head h).production = .draining ∨ (s.head h).production = .out)

/-- A head emits only while run permission is true, and only where it is fitted; grants hold fitted heads alone
(R43, R87, R98, R141). -/
structure State.DriveSafe (s : State) : Prop where
  driven : ∀ h, h < 8 → (s.head h).emitting = true → s.cabinet.permission = true ∧ s.fitted h = true
  granted : ∀ g ∈ s.access.grants, ∀ h, inSet g.heads h = true → s.fitted h = true

/-- The outputs and the assembler of a camera port agree with its timers: the trigger output is high during a trigger pulse and
the strobe output during a strobe, and the inter-byte timer is stopped in HUNT; a character that is not complete has at most 8
data bits (R100, R105, R110, R111, R113). -/
structure CameraPort.Sound (c : CameraPort) : Prop where
  trigger : c.triggerOut = c.trigger.isSome
  strobe : c.strobeOut = c.strobe.isSome
  hunt : c.assembler = .hunt → c.interByte = none
  bits : ∀ gone taken, c.receiver = .inCharacter gone taken → taken.length ≤ 8

/-- The gate output is high exactly while a firing is ON (R124), and both camera ports are sound. -/
structure State.OutputsSound (s : State) : Prop where
  gate : s.gate.output = true ↔ ∃ f ∈ s.gate.firings, f.phase = .on
  cameraA : s.portA.Sound
  cameraB : s.portB.Sound

/-- Nothing of a camera port is in progress: no trigger or strobe, no character, no message. -/
def CameraPort.still (c : CameraPort) : Prop :=
  c.pending = [] ∧ c.schedule = [] ∧ c.triggerOut = false ∧ c.strobeOut = false ∧ c.receiver = .idle ∧
    c.assembler = .hunt ∧ c.interByte = none

/-- Outside RUNNING the transmitter sends nothing and has nothing to send, no record, arrival, firing or grant stands, no
dose or jog is in hand, the gate, trigger and strobe outputs are low, and no result character or message has begun (R50, R61,
R100, R101, R124, R163, R194, R196). -/
structure State.QuietOutside (s : State) : Prop where
  transmitter : s.running = false → s.line.tx = none
  cab : s.running = false → s.line.cabSlot = .empty
  beacon : s.running = false → s.line.bcnSlot = none
  queue : s.running = false → s.line.queue = []
  records : s.running = false → s.tracking.records = []
  arrivals : s.running = false → s.tracking.arrivals = []
  firings : s.running = false → s.gate.firings = [] ∧ s.gate.output = false
  grants : s.running = false → s.access.grants = []
  heads : s.running = false → ∀ h ∈ s.heads, h.hand = none ∧ h.jog = none
  cameras : s.running = false → s.portA.still ∧ s.portB.still

/-- A latch is pending exactly while it has gathered something, and what has gathered something has a first time and a
detail; only a pending latch is blocked, and only a blocked one has a sending record in use (R164, R170, R174, R175). -/
structure Latch.Sound (l : Latch) (localTime : Nat) : Prop where
  gathered : l.pending = true ↔ 1 ≤ l.content.count
  content : 1 ≤ l.content.count ↔ l.content.first.isSome = true ∧ l.content.detail.isSome = true
  sending : 1 ≤ l.sending.count ↔ l.sending.first.isSome = true ∧ l.sending.detail.isSome = true
  blocked : l.blocked = true → l.pending = true
  idle : l.blocked = false → l.sending = Gathered.none
  ready : l.ready ≤ localTime
  attempts : l.attempts ≤ 7

/-- A frame in collection (R159, R161): its recessive run is what the idle timer counts, a byte has at most 8 data bits, no more than
62 bytes are taken, fewer than 11 recessive microseconds have gone by since a stop bit, and the line is dominant for at most 9 µs
at a stretch, but at the end of the frame. -/
structure Collecting.Sound (c : Collecting) (idle : Nat) : Prop where
  run : c.recessive = idle
  stretch : c.dominant = 0 ∨ c.recessive = 0
  held : c.ended = none → c.dominant ≤ 9
  mark : ∀ gone, c.place = .mark gone → gone < 4
  between : ∀ taken quiet, c.place = .between taken quiet → taken.length ≤ 62 ∧ quiet < 11
  inByte : ∀ taken bits, c.place = .inByte taken bits → taken.length ≤ 62 ∧ bits.length ≤ 8
  ended : ∀ bytes, c.ended = some (.ended bytes) → bytes.length ≤ 62

/-- The General Queue stands in order of class and ready time, with attempt counts below 8; the frame being sent holds its
place, and no other place is held: the CAB slot SENDING, the BCN slot full, the latch blocked, or one entry in an attempt; the
frame in collection is sound, and a start mark stands only in the dominant microsecond that begins it (R39, R40, R159, R161,
R163, R164, R166, R168, R170). -/
structure State.LineSound (s : State) : Prop where
  order : s.line.queue.Pairwise fun x y => x.cls < y.cls ∨ (x.cls = y.cls ∧ x.ready ≤ y.ready)
  entries : ∀ e ∈ s.line.queue, (e.cls = 2 ∨ e.cls = 3) ∧ e.ready ≤ s.clock.localTime ∧ e.attempts ≤ 7
  counts : s.line.cabAttempts ≤ 8 ∧ s.line.bcnAttempts ≤ 7
  cab : s.line.cabSlot = .sending ↔ ∃ b r, s.line.tx = some ⟨.cab, b, r⟩
  renew : s.line.renew = true → s.line.cabSlot = .sending
  beacon : (∃ b r, s.line.tx = some ⟨.bcn, b, r⟩) → s.line.bcnSlot.isSome = true
  blocked : ∀ i, i < 24 → ((s.latch i).blocked = true ↔ ∃ b r, s.line.tx = some ⟨.latch i, b, r⟩)
  marked : (∃ cls b r, s.line.tx = some ⟨.queued cls, b, r⟩) → (s.line.queue.filter QueueEntry.inAttempt).length = 1
  unmarked : (¬∃ cls b r, s.line.tx = some ⟨.queued cls, b, r⟩) → ∀ e ∈ s.line.queue, e.inAttempt = false
  latches : ∀ l ∈ s.latches, l.Sound s.clock.localTime
  receiver : ∀ stamp frame, s.line.rx = .collecting stamp frame → frame.Sound s.line.idle
  startMark : s.line.startMark = true → s.line.idle = 0

/-- All of what every command keeps. -/
structure State.Sound (s : State) : Prop where
  bounded : s.Bounded
  clock : s.ClockSound
  permission : s.PermissionSound
  grants : s.GrantsSound
  heads : s.HeadsSound
  drive : s.DriveSafe
  outputs : s.OutputsSound
  line : s.LineSound
  quiet : s.QuietOutside
  inputs : s.InputsSound
  tracking : s.TrackingSound
  targets : s.TargetsSound
  triggers : ∀ p, s.TriggersSound p

/-! ## What every command of a timely run keeps (R54, log 3) -/

/-- Hall time since the capture of a record, read as R4 compares hall times. -/
def State.sinceCapture (s : State) (r : Record) : Int := (s.now - r.capture).toInt

/-- The records of the Tracking Queue stand in strictly increasing order of capture time, none later than now (R54, read as R4). The
last two conditions are what R48 gives for the next capture: hall time advances by at least 2^24 - 4096 - 2^18 fraction units
(R2) in the microsecond after a capture, and by at least one microsecond before the next capture can be taken. A run in which the
decide of the head record waits without end can break the order, where the difference of R4 changes its sign; a timely run
cannot. -/
structure State.CapturesOrdered (s : State) : Prop where
  order : s.tracking.records.Pairwise fun r k => before r.capture k.capture = true
  recent : ∀ r ∈ s.tracking.records, 0 ≤ s.sinceCapture r ∧ s.sinceCapture r < 2 ^ 46
  apart : ∀ r ∈ s.tracking.records, s.tracking.infeed.state = false ∨ s.tracking.infeed.moved = false →
    16510976 ≤ s.sinceCapture r * 16777216 + s.clock.frac.toNat
  passed : ∀ r ∈ s.tracking.records, s.tracking.infeed.state = false → s.tracking.infeed.moved = false →
    1 ≤ s.sinceCapture r

/-! ## The words of the statements -/

/-- The frame of a command, from one station to another, has been collected and passes the source and destination checks of R162: a
peer's, and for this station. -/
def State.passesLine (s : State) (i : Instr) (dest src : Byte) : Prop :=
  s.hasFrame i = true ∧ src ≠ s.ownAddress ∧ isStation src = true ∧ s.isForUs dest = true

/-- What the Line Port and the Peer Table do when they take a frame from a peer: the receiver lets go of it, the entry of the
source is marked heard, and the frame counts as taken (R27, R162). -/
def State.takenFrom (s : State) (src : Byte) : State := (s.releaseFrame.peerHeard src).count .framesTaken

/-- A frame that was taken and that its owner acts on: passed by the line, in RUNNING, and not sent to 31 (R162, R172). -/
def State.owns (s : State) (i : Instr) (dest src : Byte) : Prop := s.passesLine i dest src ∧ s.running = true ∧ dest ≠ 31

/-- An ARP with these bytes, filled with 00H to its 11, is handed over for this station as a class 2 frame
(R155, R168, R198). -/
def State.answered (s : State) (dest : Byte) (bytes : List Byte) : State :=
  s.handOver ⟨.arp, dest, bytes ++ List.replicate (11 - bytes.length) 0⟩ 2

/-- The latch of a source. -/
def State.latchOf (s : State) (e : EventSource) : Latch := s.latch (sourceNumber e)

/-- A latch is offered in its class: pending, not blocked, with a report address (R164). -/
def State.offersLatch (s : State) (cls i : Nat) : Prop :=
  s.cfg.track.report ≠ 0 ∧ i < 24 ∧ (s.latch i).pending = true ∧ (s.latch i).blocked = false ∧ (s.latch i).cls = cls

/-- The offered latch of a class with the oldest ready time, the lowest source on a tie (R164). -/
def State.offersFirst (s : State) (cls i : Nat) : Prop :=
  s.offersLatch cls i ∧ ∀ j, s.offersLatch cls j → (s.latch i).ready < (s.latch j).ready ∨
    ((s.latch i).ready = (s.latch j).ready ∧ i ≤ j)

/-- The commands that act only in JOINING and RUNNING, or only in RUNNING: the frames, the start mark, the debounced
changes, and the due times of every block (R33, R100, R161, R163, R194). -/
def needsListening : Instr → Bool
  | .powerOnReset => false
  | .resetPin => false
  | .resetRelease _ => false
  | .imageRejected _ => false
  | .endOfLoading _ => false
  | .localMicrosecond _ => false
  | .frameSent => false
  | .collision => false
  | .rawInputChange _ => false
  | .driveReadyChange _ _ => false
  | .triggerPulseEnd _ => false
  | .guardEnd _ => false
  | .strobeEnd _ => false
  | .strobeOffExpiry _ => false
  | .endOfJoining => true
  | .roundEnd => true
  | .startMark => true
  | .checkError _ => true
  | .frameDiscarded _ _ _ _ => true
  | .bcn _ _ _ => true
  | .cab _ _ _ => true
  | .hnd _ _ _ => true
  | .crp _ _ _ => true
  | .evt _ _ _ => true
  | .arp _ _ _ => true
  | .ans _ _ _ => true
  | .arq _ _ _ _ _ => true
  | .arl _ _ _ => true
  | .jog _ _ _ _ => true
  | .lck _ _ => true
  | .qry _ _ _ _ _ _ => true
  | .transmitStart => true
  | .switchChannelChange => true
  | .discrepancy => true
  | .restoreTimerExpiry => true
  | .doorChange => true
  | .keyChange => true
  | .capture => true
  | .pitch => true
  | .arrivalLost _ => true
  | .decide => true
  | .doseStart _ => true
  | .lowPhaseEnd _ => true
  | .pulseEmitted _ => true
  | .meterPulse _ => true
  | .doseTimeout _ => true
  | .resumeLimit _ => true
  | .settleEnd _ => true
  | .driveFaultActive _ => true
  | .driveFaultInactive _ => true
  | .grantExpiry _ => true
  | .triggerTime _ _ => true
  | .strobeDue _ => true
  | .resultMessage _ _ => true
  | .framingError _ => true
  | .interByteTimeout _ => true
  | .firingStart => true
  | .firingEnd => true
  | .confirmEdge => true
  | .confirmWindowEnd => true
  | .resultByte _ _ => true
  | .debounceTimerExpiry _ => true

end Sys2Proof.Machine
end

