-- ==== Sys2Proof/WellFormed.lean ====
section
/-! DEFINITION. Which commands are well formed: the operand ranges that the formats of spec/11 and the capacities of the
blocks give. A meaning is total all the same: an operand out of range names nothing the part has. -/

namespace Sys2Proof

/-- A head controller of the part, 0..7 (R76). -/
def RawInput.wellFormed : RawInput → Bool
  | .driveFault head _ => head < 8
  | _ => true

/-- A frame in collection holds at most 62 bytes (R161). -/
def Collected.wellFormed : Collected → Bool
  | .broken _ => true
  | .ended bytes => bytes.length ≤ 62

/-- The operand ranges of each command: head numbers (R76), payload lengths (R198), the length of the image (R204),
positions in the Arrival List (R60), grant numbers (R141). -/
def Instr.wellFormed : Instr → Bool
  | .imageRejected image => image.length = 134
  | .endOfLoading image => image.length = 134
  | .checkError failure => failure.wellFormed
  | .frameDiscarded _ _ _ payload => payload.length ≤ 56
  | .crp _ _ payload => payload.length = 33
  | .evt _ _ payload => payload.length = 9
  | .arp _ _ payload => payload.length = 11
  | .ans _ _ payload => 4 ≤ payload.length && payload.length ≤ 56
  | .rawInputChange input => input.wellFormed
  | .arrivalLost position => position < 32
  | .doseStart head => head < 8
  | .lowPhaseEnd head => head < 8
  | .pulseEmitted head => head < 8
  | .driveReadyChange head _ => head < 8
  | .meterPulse head => head < 8
  | .doseTimeout head => head < 8
  | .resumeLimit head => head < 8
  | .settleEnd head => head < 8
  | .driveFaultActive head => head < 8
  | .driveFaultInactive head => head < 8
  | .grantExpiry number => 1 ≤ number && number ≤ 255
  | .powerOnReset => true
  | .resetPin => true
  | .resetRelease _ => true
  | .endOfJoining => true
  | .localMicrosecond _ => true
  | .roundEnd => true
  | .startMark => true
  | .bcn _ _ _ => true
  | .cab _ _ _ => true
  | .hnd _ _ _ => true
  | .arq _ _ _ _ _ => true
  | .arl _ _ _ => true
  | .jog _ _ _ _ => true
  | .lck _ _ => true
  | .qry _ _ _ _ _ _ => true
  | .transmitStart => true
  | .frameSent => true
  | .collision => true
  | .switchChannelChange => true
  | .discrepancy => true
  | .restoreTimerExpiry => true
  | .doorChange => true
  | .keyChange => true
  | .capture => true
  | .pitch => true
  | .decide => true
  | .triggerTime _ _ => true
  | .triggerPulseEnd _ => true
  | .guardEnd _ => true
  | .strobeDue _ => true
  | .strobeEnd _ => true
  | .strobeOffExpiry _ => true
  | .resultMessage _ _ => true
  | .framingError _ => true
  | .interByteTimeout _ => true
  | .firingStart => true
  | .firingEnd => true
  | .confirmEdge => true
  | .confirmWindowEnd => true
  | .resultByte _ _ => true
  | .debounceTimerExpiry _ => true

end Sys2Proof
end

