-- ==== Sys2Proof/Certificates/Slice0/Obligations.lean ====
section
/-! DEFINITION. The statements about the 620 that are put to the provers. -/

open Sys2Proof Sys2Proof.Machine

/-! ## The queue of commands -/

/-- A step takes the command at the front of the queue and runs it with the queue's rest; an empty queue idles. The queue and
idling on it are the model's own (log 4, log 5). -/
def Obligations.StepRunsFrontCommand : Prop :=
  ∀ (s : State) (c : Instr) (rest : List Instr),
    step { s with pending := c :: rest } = exec c { s with pending := rest } ∧
    step { s with pending := [] } = .next { s with pending := [] }

/-- Every command answers a next state and leaves the queue of commands alone: nothing in the manual stops the part. -/
def Obligations.CommandsCompleteAndKeepQueue : Prop :=
  ∀ (c : Instr) (s : State), ∃ t, exec c s = .next t ∧ t.pending = s.pending

/-- In RESET, LOADING and FAULTED no frame, start mark, debounced change or due time of a block changes anything
(R33, R100, R161, R163, R194). That such a command then leaves the state as it is, is log 1. -/
def Obligations.NothingActsBeforeJoining : Prop :=
  ∀ (c : Instr) (s : State), needsListening c = true → s.listening = false → exec c s = .next s

/-! ## Reset, LOADING, JOINING -/

/-- Both resets put every block at its reset values; they differ in the held-lock flag (R137) and in the loader's own marks of
which reset it is. That the levels on the input pins stay is the model's choice (log 7). -/
def Obligations.ResetsTakeResetValues : Prop :=
  ∀ s : State, ∃ t u, exec .powerOnReset s = .next t ∧ exec .resetPin s = .next u ∧
    t.loader = ⟨.reset, none, [], none, false, none, [], some 0, s.loader.rstLow, true, false⟩ ∧
    t.clock = ⟨0, 0, 0, 0, .free, 0, 0, none, 0⟩ ∧
    t.peers = List.replicate 30 ⟨.unknown, 0, false, none, none, false, none, false, false⟩ ∧
    let start := fun d : Debouncer => (⟨d.raw, false, none, false⟩ : Debouncer)
    t.cabinet = ⟨start s.cabinet.swA, start s.cabinet.swB, start s.cabinet.door, start s.cabinet.key, .off, none, false,
      none⟩ ∧
    t.tracking = ⟨start s.tracking.infeed, start s.tracking.pitch, some 0, 1, [], []⟩ ∧
    t.heads = s.heads.map (fun h =>
      ⟨start h.fault, h.readySample, h.readySample, h.meterSample, false, .inProduction, .idle, none, none, .stopped, false,
        false⟩) ∧
    t.portA = ⟨0, [], none, none, false, [], none, false, none, .idle, .hunt, none, false, 0⟩ ∧ t.portB = t.portA ∧
    t.gate = ⟨[], start s.gate.confirm, 0, false, false⟩ ∧
    t.access = ⟨none, false, [], 1⟩ ∧
    t.latches.length = 24 ∧ (∀ l ∈ t.latches, l = Latch.clear l.cls) ∧
    t.counters = List.replicate 20 0 ∧
    t.line = ⟨.watching, 0, false, none, false, .empty, false, 0, none, 0, []⟩ ∧
    u = { t with
      loader := { t.loader with hold := s.loader.hold, rstLow := true }
      access := { t.access with heldLock := s.access.heldLock } }

/-- RESET_RELEASE: a high sample with no power-on hold of 10 ms running takes the station from RESET to LOADING, with the
memory selected; while the hold runs, or RST_N is low, the station stays in RESET. While the read runs the serial clock runs, and
its first 32 microseconds send 03000000H, most significant bit first (R186, R187, R188; log 23, log 24). -/
def Obligations.ResetReleaseEntersLoading : Prop :=
  (∀ s : State, s.loader.station = .reset →
    let released := { s with loader := { s.loader with
      station := .loading, hold := none, rstLow := false, memSelected := true, readTimer := some 0, sampled := [] } }
    exec (.resetRelease false) s = .next { s with loader := { s.loader with rstLow := true } } ∧
    (s.loader.hold = none → exec (.resetRelease true) s = .next released) ∧
    ∀ n, s.loader.hold = some n → exec (.resetRelease true) s = .next
      (if n < 10000 then { s with loader := { s.loader with rstLow := false } } else released)) ∧
  ∀ s : State, (s.loader.readTimer = none → s.memClocks = false ∧ s.memSends = none) ∧
    ∀ gone, s.loader.readTimer = some gone → s.memClocks = true ∧
      s.memSends = if gone < 32 then some ((0x03000000#32).getLsbD (31 - gone)) else none

/-- IMAGE_REJECTED, with what has been read of the image as sampled most significant bit first: the first failing check of R189
decides after how many bytes the read ends; at 32 + 8 µs for each byte the station enters FAULTED with the select released, and
nothing else changes. The sum agrees exactly when the image's 67 words, the stored sum among them, add up to a multiple of FFFFH
that is not 0 (R188, R189, R190, R191, R194, R204; log 1, log 23). -/
def Obligations.RejectedImageFaults : Prop :=
  ∀ (s : State) (image bytes : List Byte) (begun : List Bool) (elapsed : Nat),
    s.loader.station = .loading → s.loader.readTimer = some elapsed → image.length = 134 →
    s.loader.sampled = bytes.flatMap (fun b => (List.range 8).map fun i => b.getLsbD (7 - i)) ++ begun → begun.length < 8 →
    let bytesRead : Option Nat :=
      if image.getD 0 0 ≠ 0x47 ∨ image.getD 1 0 ≠ 0x55 then some 2
      else if image.getD 2 0 ≠ 0x01 then some 3
      else if image.getD 3 0 ≠ 0x00 ∨ image.getD 4 0 ≠ 0x7F then some 5
      else if sumAgrees image = false then some 134
      else if (image.getD 5 0).toNat = 0 ∨ 30 < (image.getD 5 0).toNat then some 134
      else none
    (∀ n, bytesRead = some n → exec (.imageRejected image) s = .next
      (if 32 + 8 * n ≤ elapsed ∧ bytes.take n = image.take n then { s with loader := { s.loader with
        station := .faulted, memSelected := false, readTimer := none, sampled := [] } } else s)) ∧
    (bytesRead = none → exec (.imageRejected image) s = .next s) ∧
    (let words := (List.range 67).map fun i =>
      256 * (image.getD (2 * i) 0).toNat + (image.getD (2 * i + 1) 0).toNat
    (sumAgrees image = true ↔ 0 < words.sum ∧ words.sum % 65535 = 0))

/-- END_OF_LOADING: once the whole image is read, as sampled most significant bit first, and passes, the records are complete, the
lock mode is HELD under the held-lock flag with ACCESS_HELD at FFH and the configured mode otherwise, each Peer Table entry takes
its flags and the own one is SELF, the pocket is absent without heads, JOINING begins with its timer at 0, and every debouncer
compares its raw input with its start value: one that disagrees starts its timer, and with d = 0 changes at that instant
(R26, R33, R48, R76, R120, R135, R137, R188, R195; log 12, log 23). Outside LOADING, before the 1104 µs of the read, or for an
image that fails, it changes nothing (log 1). -/
def Obligations.EndOfLoadingEntersJoining : Prop :=
  (∀ (s : State) (image : List Byte), (s.loader.station ≠ .loading ∨ (∀ n, s.loader.readTimer = some n → n < 1104) ∨
    failsAfter image ≠ none) → exec (.endOfLoading image) s = .next s) ∧
  ∀ (s : State) (image : List Byte) (elapsed : Nat),
    s.loader.station = .loading → s.loader.readTimer = some elapsed → 1104 ≤ elapsed → failsAfter image = none →
    s.loader.sampled = image.flatMap (fun b => (List.range 8).map fun i => b.getLsbD (7 - i)) →
    s.peers.length = 30 → s.latches.length = 24 → s.access.grants = [] →
    s.cabinet.door.state = false → s.cabinet.permission = false →
    let compared := fun (steps : Nat) (d : Debouncer) => if d.raw = d.state then { d with timer := none }
      else if steps = 0 ∧ d.moved = false then (⟨d.raw, d.raw, none, true⟩ : Debouncer) else { d with timer := some 0 }
    ∃ t, exec (.endOfLoading image) s = .next t ∧
      t.loader = { s.loader with
        station := .joining, record := some (recordOf image), clampRecord := clampRecordOf image, joining := some 0,
        memSelected := false, readTimer := none, sampled := [] } ∧
      t.access = { s.access with
        lockMode := if s.access.heldLock then some .held else some (recordOf image).accessMode } ∧
      (s.access.heldLock = true → (∃ k, s.latchOf .accessHeld = Latch.clear k) →
        (t.latchOf .accessHeld).pending = true ∧ (t.latchOf .accessHeld).content = ⟨1, some s.now, some 0xFF⟩) ∧
      (∀ a, 1 ≤ a → a ≤ 30 → t.peer a = { s.peer a with
        presence := if a = (recordOf image).hall.address then .ownEntry else (s.peer a).presence
        counted := (recordOf image).hall.countedMask.getLsbD a && a != (recordOf image).hall.address
        dependent := (recordOf image).hall.dependentMask.getLsbD a && a != (recordOf image).hall.address }) ∧
      ((recordOf image).track.heads = 0 → t.tracking.pocket = none) ∧
      (∀ i, i < 24 → (t.latch i).cls = (recordOf image).classes.getD i 2) ∧
      t.cabinet.swA = compared (recordOf image).hall.switchDebounce s.cabinet.swA ∧
      t.cabinet.swB = compared (recordOf image).hall.switchDebounce s.cabinet.swB ∧
      t.cabinet.door = compared (recordOf image).hall.doorDebounce s.cabinet.door ∧
      t.cabinet.key = compared (recordOf image).hall.keyDebounce s.cabinet.key ∧
      t.tracking.infeed = compared (recordOf image).track.infeedDebounce s.tracking.infeed ∧
      t.tracking.pitch = compared (recordOf image).track.pitchDebounce s.tracking.pitch ∧
      ((recordOf image).track.gateFitted = true →
        t.gate.confirm = compared (recordOf image).track.confirmDebounce s.gate.confirm) ∧
      ((recordOf image).track.gateFitted = false → s.gate.confirm.timer = none → t.gate.confirm = s.gate.confirm) ∧
      t.heads = s.heads.mapIdx (fun h x =>
        if h < (recordOf image).track.heads then { x with fault := compared 10 x.fault } else x) ∧
      t.clock = s.clock ∧ t.line = s.line ∧ t.portA = s.portA ∧ t.portB = s.portB ∧
      t.gate.firings = s.gate.firings ∧ t.tracking.records = s.tracking.records ∧
      t.tracking.arrivals = s.tracking.arrivals

/-- The configuration record of an image with a station address keeps every range of R192, the cross clamps of R193, the
classes of R177, and E = floor(T × K / 256). The clamp record holds, in ascending order and each once, the fields whose value
in use differs from the value written, and no field of the four fixed event sources. For an image of 134 bytes every item of the
record is its field of R204, read at its offset and width, high byte first: a value in range is used as written, one below by the
lower limit, one above by the upper limit, and then the cross clamps act; and the clamp record is the list of the field numbers
whose value they changed (R93, R177, R192, R193, R204). -/
def Obligations.ConfigurationStaysInRange : Prop :=
  ∀ image : List Byte, 1 ≤ imageAddress image → imageAddress image ≤ 30 →
    let r := recordOf image
    (r.hall.address = imageAddress image ∧ 5 ≤ r.hall.intervalMs ∧ r.hall.intervalMs ≤ 100 ∧ r.hall.lineDelay ≤ 15 ∧
      2 ≤ r.hall.absentLimit ∧ r.hall.absentLimit ≤ 15 ∧ r.hall.switchDebounce ≤ 1000 ∧ r.hall.doorDebounce ≤ 1000 ∧
      r.hall.keyDebounce ≤ 1000 ∧ 20 ≤ r.hall.discrepancyMs ∧ r.hall.discrepancyMs ≤ 2000 ∧ r.hall.restoreMs ≤ 5000) ∧
    (r.track.heads ≤ 8 ∧ r.track.infeedDebounce ≤ 1000 ∧ r.track.pitchDebounce ≤ 1000 ∧ r.track.transferMs ≤ 60000 ∧
      1 ≤ r.track.windowMs ∧ r.track.windowMs ≤ 1000 ∧ r.track.rejectDelayMs ≤ 30000 ∧
      1 ≤ r.track.decideMarginMs ∧ r.track.decideMarginMs ≤ 1000 ∧ r.track.decideMarginMs < r.track.rejectDelayMs ∧
      1 ≤ r.track.gatePulseMs ∧ r.track.gatePulseMs ≤ 1000 ∧ r.track.confirmWindowMs ≤ 1000 ∧
      r.track.confirmDebounce ≤ 1000) ∧
    (∀ a ∈ [r.track.upstream, r.track.downstream, r.track.report], a ≤ 30 ∧ a ≠ r.hall.address) ∧
    (1 ≤ r.dosing.pulses ∧ r.dosing.pulses ≤ 65535 ∧ 2 ≤ r.dosing.highTime ∧ r.dosing.highTime ≤ 65535 ∧
      2 ≤ r.dosing.lowTime ∧ r.dosing.lowTime ≤ 65535 ∧ 16 ≤ r.dosing.meterFactor ∧ r.dosing.meterFactor ≤ 4095 ∧
      r.dosing.tolerance ≤ 255 ∧ r.dosing.fillDelayMs ≤ 10000 ∧ 10 ≤ r.dosing.timeoutMs ∧ r.dosing.timeoutMs ≤ 30000 ∧
      r.dosing.settleMs ≤ 2000 ∧ r.dosing.resumeMs ≤ 10000 ∧
      r.dosing.expected = r.dosing.pulses * r.dosing.meterFactor / 256) ∧
    (∀ c ∈ [r.cameraA, r.cameraB], c.baud ≤ 4 ∧ c.triggerDelay ≤ 10000000 ∧ 10 ≤ c.triggerWidth ∧
      c.triggerWidth ≤ 1000 ∧ c.strobeDelay ≤ 1000 ∧ 1 ≤ c.strobeDuration ∧ c.strobeDuration ≤ 2000 ∧
      c.strobeOff ≤ 100000) ∧
    1 ≤ r.patternPeriod ∧ r.patternPeriod ≤ 16 ∧ 60 ≤ r.maxGrantS ∧ r.maxGrantS ≤ 7200 ∧ r.accessMode ≠ .held ∧
    r.classes.length = 24 ∧ (∀ c ∈ r.classes, c = 1 ∨ c = 2) ∧ (∀ i ∈ fixedClassOne, r.classes.getD i 0 = 1) ∧
    (clampRecordOf image).Pairwise (· < ·) ∧
    (∀ n, n ∈ clampRecordOf image ↔ ∃ row ∈ fieldRows, row.number = n ∧
      ¬(64 ≤ n ∧ n - 64 ∈ fixedClassOne) ∧ finalField image n ≠ row.written image) ∧
    (image.length = 134 →
      let byte := fun (place : Nat) => (image.getD place 0).toNat
      let word := fun (place : Nat) => 256 * byte place + byte (place + 1)
      let long := fun (place : Nat) => 65536 * word place + word (place + 2)
      let within := fun (low high v : Nat) => if v < low then low else if high < v then high else v
      let yes := fun (place : Nat) => decide (byte place ≠ 0)
      let partner := fun (place : Nat) => if within 0 30 (byte place) = byte 5 then 0 else within 0 30 (byte place)
      let delay := within 1 30000 (word 39)
      let margin := within 1 1000 (word 41)
      let event := fun (source : Nat) => if source ∈ [0, 1, 14, 22] ∨ byte (108 + source) = 1 then 1 else 2
      let camera := fun (place : Nat) => ({
        enabled := yes place, baud := within 0 4 (byte (place + 1)), triggerDelay := within 0 10000000 (long (place + 2))
        triggerWidth := within 10 1000 (word (place + 6)), strobeDelay := within 0 1000 (word (place + 8))
        strobeDuration := within 1 2000 (word (place + 10)), strobeOff := within 0 100000 (long (place + 12)) } : CameraConfig)
      let changes := fun (c : CameraConfig) (first place : Nat) => [
        (first, byte place, within 0 1 (byte place)), (first + 1, byte (place + 1), c.baud),
        (first + 2, long (place + 2), c.triggerDelay), (first + 3, word (place + 6), c.triggerWidth),
        (first + 4, word (place + 8), c.strobeDelay), (first + 5, word (place + 10), c.strobeDuration),
        (first + 6, long (place + 12), c.strobeOff)]
      r.hall = {
        address := byte 5, intervalMs := within 5 100 (byte 6), lineDelay := within 0 15 (byte 7)
        countedMask := BitVec.ofNat 32 (long 8), dependentMask := BitVec.ofNat 32 (long 12)
        absentLimit := within 2 15 (byte 16), switchDebounce := within 0 1000 (word 17)
        doorDebounce := within 0 1000 (word 19), keyDebounce := within 0 1000 (word 21)
        discrepancyMs := within 20 2000 (word 23), restoreMs := within 0 5000 (word 25) } ∧
      r.track = {
        heads := within 0 8 (byte 27), infeedDebounce := within 0 1000 (word 28), pitchDebounce := within 0 1000 (word 30)
        upstream := partner 32, downstream := partner 33, report := partner 34
        transferMs := within 0 60000 (word 35), windowMs := within 1 1000 (word 37)
        rejectDelayMs := if delay = 1 then 2 else delay
        decideMarginMs := if delay = 1 then 1 else if delay - 1 < margin then delay - 1 else margin
        rejectUnknown := yes 43, reportAll := yes 44, gateFitted := yes 45, gatePulseMs := within 1 1000 (word 46)
        confirmWindowMs := within 0 1000 (word 48), confirmDebounce := within 0 1000 (word 50) } ∧
      r.dosing = {
        pulses := within 1 65535 (word 52), highTime := within 2 65535 (word 54), lowTime := within 2 65535 (word 56)
        meterFactor := within 16 4095 (word 58), tolerance := byte 60, fillDelayMs := within 0 10000 (word 61)
        timeoutMs := within 10 30000 (word 63), settleMs := within 0 2000 (word 65), resumeMs := within 0 10000 (word 67)
        expected := within 1 65535 (word 52) * within 16 4095 (word 58) / 256 } ∧
      r.cameraA = camera 69 ∧ r.cameraB = camera 85 ∧
      r.patternPeriod = within 1 16 (byte 101) ∧ r.patternMask = BitVec.ofNat 16 (word 102) ∧
      r.accessMode = (match byte 104 with
        | 0 => .free
        | 1 => .keyed
        | _ => .fixed) ∧
      r.intrusionLocks = yes 105 ∧ r.maxGrantS = within 60 7200 (word 106) ∧ r.classes = (List.range 24).map event ∧
      clampRecordOf image = (([
          (2, byte 6, r.hall.intervalMs), (3, byte 7, r.hall.lineDelay), (6, byte 16, r.hall.absentLimit),
          (7, word 17, r.hall.switchDebounce), (8, word 19, r.hall.doorDebounce), (9, word 21, r.hall.keyDebounce),
          (10, word 23, r.hall.discrepancyMs), (11, word 25, r.hall.restoreMs), (12, byte 27, r.track.heads),
          (13, word 28, r.track.infeedDebounce), (14, word 30, r.track.pitchDebounce), (15, byte 32, r.track.upstream),
          (16, byte 33, r.track.downstream), (17, byte 34, r.track.report), (18, word 35, r.track.transferMs),
          (19, word 37, r.track.windowMs), (20, word 39, r.track.rejectDelayMs), (21, word 41, r.track.decideMarginMs),
          (22, byte 43, within 0 1 (byte 43)), (23, byte 44, within 0 1 (byte 44)), (24, byte 45, within 0 1 (byte 45)),
          (25, word 46, r.track.gatePulseMs), (26, word 48, r.track.confirmWindowMs), (27, word 50, r.track.confirmDebounce),
          (28, word 52, r.dosing.pulses), (29, word 54, r.dosing.highTime), (30, word 56, r.dosing.lowTime),
          (31, word 58, r.dosing.meterFactor), (33, word 61, r.dosing.fillDelayMs), (34, word 63, r.dosing.timeoutMs),
          (35, word 65, r.dosing.settleMs), (36, word 67, r.dosing.resumeMs)] ++
        changes r.cameraA 37 69 ++ changes r.cameraB 44 85 ++ [
          (51, byte 101, r.patternPeriod), (53, byte 104, within 0 2 (byte 104)), (54, byte 105, within 0 1 (byte 105)),
          (55, word 106, r.maxGrantS)] ++
        ((List.range 24).filter fun i => decide (i ∉ [0, 1, 14, 22])).map fun i => (64 + i, byte (108 + i), event i) :
          List (Nat × Nat × Nat)).filter fun field => decide (field.2.1 ≠ field.2.2)).map Prod.fst)

/-- END_OF_JOINING: at 3 × I_µs the station converges once, enters RUNNING with its first round ending one interval later,
places a beacon with its interval, lock mode, gate fault and Tracking Queue fill, makes the CAB slot PENDING, latches
CONFIG_CLAMPED for each clamped field and empties the clamp record, darkens the fault lamp, and the restore delay begins where the
run conditions hold. Where an offset was included the quality is ACQUIRE, a change to it latches TIME_QUALITY with detail 1, and
the start-mark stamp of a frame in collection moves with hall time (R7, R17, R22, R41, R44, R196, R199, R202; log 15). Before its due
time the state stays (log 1). -/
def Obligations.EndOfJoiningEntersRunning : Prop :=
  (∀ s : State, (s.loader.station ≠ .joining ∨ ∀ n, s.loader.joining = some n → n < 3 * s.intervalMicros) →
    exec .endOfJoining s = .next s) ∧
  ∀ (s : State) (elapsed : Nat),
    s.loader.station = .joining → s.loader.joining = some elapsed → 3 * s.intervalMicros ≤ elapsed →
    s.cabinet.permission = false → s.cabinet.restore = none → s.latches.length = 24 →
    ∃ t, exec .endOfJoining s = .next t ∧
      t.loader.station = .running ∧ t.loader.joining = none ∧ t.loader.clampRecord = [] ∧ t.loader.faultLamp = false ∧
      t.loader.record = s.loader.record ∧
      t.clock = (match roundOutcome s.includedOffsets with
        | none => { s.clock with
            goodRounds := 0, emptyRounds := 0, nextDue := some (after s.now s.intervalMicros) }
        | some c => { s.clock with
            time := movedBy s.now c, slew := 0, quality := .acquire, goodRounds := 0, emptyRounds := 0
            nextDue := some (after (movedBy s.now c) s.intervalMicros) }) ∧
      t.line.rx = (match s.line.rx, roundOutcome s.includedOffsets with
        | .collecting stamp frame, some c => .collecting (movedBy stamp c) frame
        | rx, _ => rx) ∧
      t.peers = s.peers.map (fun p => { p with inRound := false }) ∧
      (∀ k, s.latchOf .timeQuality = Latch.clear k → t.latchOf .timeQuality =
        if s.includedOffsets = [] ∨ s.clock.quality = .acquire then Latch.clear k
        else { Latch.clear k with
          pending := true, content := ⟨1, some t.clock.time, some 1⟩, ready := s.clock.localTime }) ∧
      t.line.bcnSlot.isSome = true ∧ t.line.cabSlot = .pending ∧
      (∀ mode, s.line.bcnSlot = none → s.access.lockMode = some mode → t.line.bcnSlot = some
        ⟨BitVec.ofNat 16 s.cfg.hall.intervalMs, (match mode with
          | .free => 0
          | .keyed => 1
          | .fixed => 2
          | .held => 3), if s.gate.fault then 1 else 0, byte s.tracking.records.length⟩) ∧
      (∀ k, s.latchOf .configClamped = Latch.clear k → ∀ n ∈ s.loader.clampRecord.getLast?,
        (t.latchOf .configClamped).content =
          ⟨min 255 s.loader.clampRecord.length, some t.clock.time, some (byte n)⟩) ∧
      t.cabinet = { s.cabinet with
        permission := t.runConditions && s.cfg.hall.restoreMs = 0
        restore := if t.runConditions = true ∧ s.cfg.hall.restoreMs ≠ 0 then some 0 else none } ∧
      t.tracking = s.tracking ∧ t.gate = s.gate ∧ t.access = s.access ∧ t.portA = s.portA ∧ t.portB = s.portB ∧
      t.counters = s.counters ∧ t.line.queue = s.line.queue

/-! ## Hall time and rounds -/

/-- LOCAL_MICROSECOND outside RESET: hall time, counted with its fraction, advances by 2^24 + trim + slew term modulo 2^72,
its integer part rises by 0, 1 or 2, and slew remaining moves one unit toward zero (R1, R2, R3). -/
def Obligations.HallTimeAdvancesByIncrement : Prop :=
  ∀ (s : State) (pins : PinSamples), s.loader.station ≠ .reset → -4096 ≤ s.clock.trim → s.clock.trim ≤ 4096 →
    ∃ t, exec (.localMicrosecond pins) s = .next t ∧
      let term : Int := if 0 < s.clock.slew then 262144 else if s.clock.slew < 0 then -262144 else 0
      let before : Int := s.clock.time.toNat * 16777216 + s.clock.frac.toNat
      (t.clock.time.toNat * 16777216 + t.clock.frac.toNat : Int) =
        (before + (16777216 + s.clock.trim + term)) % (2 ^ 72) ∧
      (t.clock.time = s.clock.time ∨ t.clock.time = s.clock.time + 1 ∨ t.clock.time = s.clock.time + 2) ∧
      t.clock.slew = (if 0 < s.clock.slew then s.clock.slew - 1 else if s.clock.slew < 0 then s.clock.slew + 1 else 0) ∧
      t.clock.trim = s.clock.trim ∧ t.clock.quality = s.clock.quality ∧ t.clock.goodRounds = s.clock.goodRounds ∧
      t.clock.emptyRounds = s.clock.emptyRounds ∧ t.clock.nextDue = s.clock.nextDue

/-- LOCAL_MICROSECOND: every duration that runs counts one, hall time stands still in RESET, and the pins are read. The line: the
idle timer, a start mark where it goes dominant after 11 recessive microseconds, a receiver that waits for 11 of them, the
read-back of a frame being sent, and the frame in collection: after the 4 of the start mark its bytes, bit by bit, until 11
recessive microseconds have passed after a stop bit or run before a dominant one, a stop bit reads dominant, a 63rd byte is taken,
or the line is dominant for more than 9 at a stretch. A port that works: its result line, by bit middles at the baud rate, with the inter-byte timer
stopped by a start bit; a limit that comes with the start bit lapses a microsecond later (log 9). A head: its drive ready and meter
inputs, a meter pulse being a sample high following a sample low. The memory: one bit each microsecond after 32, to 134 bytes.
Nothing else changes but hall time (R1, R5, R48, R76, R100, R111, R113, R159, R161, R163, R165, R188; log 2, log 30, log 41,
log 42, log 44). That a character not yet complete has at most 8 bits is kept by every step (StepsKeepHeadsSound). -/
def Obligations.DurationsCountLocalMicroseconds : Prop :=
  ∀ (s : State) (pins : PinSamples),
    (∀ p gone bits, (s.port p).receiver = .inCharacter gone bits → bits.length ≤ 8) →
    ∃ t, exec (.localMicrosecond pins) s = .next t ∧
    (s.loader.station = .reset → t.clock = { s.clock with localTime := s.clock.localTime + 1 }) ∧
    t.clock.localTime = s.clock.localTime + 1 ∧
    let counted : Timer → Timer := Option.map (· + 1)
    let debounced := fun d : Debouncer => { d with timer := counted d.timer, moved := false }
    let rate := fun cfg : CameraConfig => [9600, 19200, 38400, 57600, 115200].getD cfg.baud 115200
    let reads := fun (cfg : CameraConfig) (high : Bool) (c : CameraPort) =>
      let limit := 40000000 / rate cfg
      let middle := fun k => (2 * k + 1) * 500000 / rate cfg + 1
      match c.receiver with
      | .idle => if high then { c with interByte := counted c.interByte } else { c with
          receiver := .inCharacter 1 []
          interByte := match c.interByte with
            | none => none
            | some n => if limit ≤ n + 1 then some (n + 1) else none }
      | .inCharacter gone bits => { c with
          receiver := if gone + 1 < middle (bits.length + 1) then .inCharacter (gone + 1) bits
            else if bits.length < 8 then .inCharacter (gone + 1) (high :: bits)
            else .complete (if high then some (byteOfBits bits.reverse) else none)
          interByte := if c.interByte = some limit then none else c.interByte }
      | .complete _ => c
      | .waitHigh => { c with receiver := if high then .idle else .waitHigh, interByte := counted c.interByte }
    let port := fun (cfg : CameraConfig) (high : Bool) (c : CameraPort) =>
      let timed := { c with
        trigger := counted c.trigger, guard := counted c.guard, strobe := counted c.strobe, offTimer := counted c.offTimer
        schedule := c.schedule.map fun d => ⟨d.elapsed + 1, d.sequence⟩ }
      if s.running = true ∧ cfg.enabled = true then reads cfg high timed else timed
    let head := fun (i : Nat) (h : Head) => { h with
      fault := debounced h.fault
      readySample := pins.ready.getLsbD i
      meterSample := pins.meter.getLsbD i
      meterRose := pins.meter.getLsbD i && !h.meterSample
      hand := h.hand.map fun d => { d with
        doseTimer := counted d.doseTimer, resumeTimer := counted d.resumeTimer, settleTimer := counted d.settleTimer }
      train := match h.train with
        | .low n => .low (n + 1)
        | .high n => .high (n + 1)
        | other => other }
    let recessive := decide (pins.line = .recessive)
    let idle := if recessive then s.line.idle + 1 else 0
    let collected := fun f : Collecting =>
      let dominant := if recessive then 0 else f.dominant + 1
      let place : Collector := match f.place with
        | .mark gone => if gone < 3 then .mark (gone + 1) else .between [] 0
        | .between taken quiet =>
          if recessive then (if quiet < 10 then .between taken (quiet + 1) else .over (.ended taken.reverse))
          else if f.recessive < 11 then .inByte taken [] else .over (.ended taken.reverse)
        | .inByte taken bits =>
          if bits.length < 8 then .inByte taken (recessive :: bits)
          else if recessive then
            (if taken.length < 62 then .between (byteOfBits bits.reverse :: taken) 0 else .over (.broken false))
          else .over (.broken true)
        | .over got => .over got
      (⟨match place with
        | .over got => .over got
        | other => if 9 < dominant then .over (.broken true) else other, dominant,
        if recessive then f.recessive + 1 else 0⟩ : Collecting)
    t = { s with
      clock := t.clock
      loader := { s.loader with
        joining := counted s.loader.joining, readTimer := counted s.loader.readTimer, hold := counted s.loader.hold
        sampled := if (∃ n, s.loader.readTimer = some n ∧ 32 ≤ n) ∧ s.loader.sampled.length < 8 * 134 then
          s.loader.sampled ++ [pins.memory] else s.loader.sampled }
      cabinet := { s.cabinet with
        swA := debounced s.cabinet.swA, swB := debounced s.cabinet.swB, door := debounced s.cabinet.door
        key := debounced s.cabinet.key, discrepancy := counted s.cabinet.discrepancy, restore := counted s.cabinet.restore }
      tracking := { s.tracking with infeed := debounced s.tracking.infeed, pitch := debounced s.tracking.pitch }
      heads := s.heads.mapIdx head
      portA := port s.cfg.cameraA pins.resultA s.portA
      portB := port s.cfg.cameraB pins.resultB s.portB
      gate := { s.gate with confirm := debounced s.gate.confirm }
      line := if s.listening then { s.line with
        idle := idle
        startMark := pins.line = .dominant ∧ 11 ≤ s.line.idle
        rx := match s.line.rx with
          | .watching => .watching
          | .collecting stamp frame => .collecting stamp (collected frame)
          | .waitRecessive => if 11 ≤ idle then .watching else .waitRecessive
        tx := s.line.tx.map fun a => if a.readBack.length < 4 + 10 * a.bytes.length then
          { a with readBack := a.readBack ++ [recessive] } else a } else s.line }

/-- The correction of a heard round is the trimmed mean: of own offset 0 and the included offsets, in any ascending order, the
k lowest and k highest removed, the sum divided by the members left and truncated toward zero; with no offset included the
round is empty. Included is the offset of every peer whose in-round mark and counted flag are set and whose announced quality
fits: any for FREE and ACQUIRE, all but FREE for SYNCED and HOLDOVER (R12, R13, R14). -/
def Obligations.CorrectionIsTrimmedMean : Prop :=
  (∀ (offsets members : List Int), members.Perm (0 :: offsets) → members.Pairwise (· ≤ ·) →
    let n := members.length
    let k := if n ≤ 2 then 0 else if n ≤ 6 then 1 else 2
    let kept := (members.drop k).take (n - 2 * k)
    correction offsets = kept.sum.tdiv ((n - 2 * k : Nat) : Int) ∧
    roundOutcome offsets = if offsets = [] then none else some (correction offsets)) ∧
  ∀ s : State, s.includedOffsets = s.peers.filterMap fun p => match p.quality with
    | none => none
    | some q => if p.inRound = true ∧ p.counted = true ∧
        (s.clock.quality = .free ∨ s.clock.quality = .acquire ∨ q ≠ .free) then p.offset else none

/-- ROUND_END moves the quality by the table of R16, from the outcome of the round and the counters as R15 updates them, and
sets the good-round count to 0 where the quality has changed. A change latches TIME_QUALITY with the new quality's code, and the
move of a SYNCED station on |c| > 1000 µs latches TIME_DISAGREE with the number of included offsets (R17; first times: log 15).
Outside RUNNING, or with the next due point not reached (R7, R11), it changes nothing (log 1). -/
def Obligations.RoundEndMovesQuality : Prop :=
  (∀ s : State, (s.running = false ∨ ∀ due, s.clock.nextDue = some due → reached due s.now = false) →
    exec .roundEnd s = .next s) ∧
  ∀ (s : State) (due : Time), s.running = true → s.clock.nextDue = some due → reached due s.now = true →
    ∃ t, exec .roundEnd s = .next t ∧
      let outcome := roundOutcome s.includedOffsets
      let good : Nat := match outcome with
        | none => 0
        | some c => if c.natAbs ≤ 50 then min 255 (s.clock.goodRounds + 1) else 0
      let empty : Nat := match outcome with
        | none => min 65535 (s.clock.emptyRounds + 1)
        | some _ => 0
      t.clock.quality = (match s.clock.quality, outcome with
        | .free, some _ => .acquire
        | .free, none => .free
        | .acquire, some c => if c.natAbs ≤ 50 ∧ 8 ≤ good then .synced else .acquire
        | .acquire, none => if 3 ≤ empty then .free else .acquire
        | .synced, some c => if c.natAbs ≤ 1000 then .synced else .acquire
        | .synced, none => .holdover
        | .holdover, some c => if c.natAbs ≤ 50 then .synced else .acquire
        | .holdover, none => if 500 ≤ empty then .free else .holdover) ∧
      t.clock.goodRounds = (if t.clock.quality = s.clock.quality then good else 0) ∧ t.clock.emptyRounds = empty ∧
      (s.latches.length = 24 → ∀ k, s.latchOf .timeQuality = Latch.clear k → t.latchOf .timeQuality =
        if t.clock.quality = s.clock.quality then Latch.clear k else { Latch.clear k with
          pending := true
          content := ⟨1, some s.now, some (match t.clock.quality with
            | .free => 0
            | .acquire => 1
            | .synced => 2
            | .holdover => 3)⟩
          ready := s.clock.localTime }) ∧
      (s.latches.length = 24 → ∀ k, s.latchOf .timeDisagree = Latch.clear k →
        ((t.latchOf .timeDisagree).pending = true ↔
          s.clock.quality = .synced ∧ ∃ c, outcome = some c ∧ 1000 < c.natAbs) ∧
        ((t.latchOf .timeDisagree).pending = true →
          (t.latchOf .timeDisagree).content = ⟨1, some s.now, some (byte s.includedOffsets.length)⟩))

/-- ROUND_END steps hall time by c where the quality is then FREE or ACQUIRE, |c| > 1000 µs and no timed work is pending,
and slews otherwise, writing 64 × cc and correcting the trim by Δ; an empty round leaves time, slew and trim alone. The next
due point is the due point, moved by a step, plus I_µs; a beacon stands in its slot, one placed in the empty slot with its interval,
lock mode, gate fault and Tracking Queue fill, and the marks are cleared. Timed work is a record, an arrival, a firing, a pending
trigger, a dose in flight, a jog or a grant (R7, R11, R18, R19, R20, R21, R199, R202). -/
def Obligations.RoundEndStepsOrSlews : Prop :=
  ∀ (s : State) (due : Time), s.running = true → s.clock.nextDue = some due → reached due s.now = true →
    ∃ t, exec .roundEnd s = .next t ∧
      t.clock.frac = s.clock.frac ∧ t.line.bcnSlot.isSome = true ∧
      (∀ p, s.line.bcnSlot = some p → t.line.bcnSlot = some p) ∧
      (∀ mode, s.line.bcnSlot = none → s.access.lockMode = some mode → t.line.bcnSlot = some
        ⟨BitVec.ofNat 16 s.cfg.hall.intervalMs, (match mode with
          | .free => 0
          | .keyed => 1
          | .fixed => 2
          | .held => 3), if s.gate.fault then 1 else 0, byte s.tracking.records.length⟩) ∧
      (∀ p ∈ t.peers, p.inRound = false ∧ p.heard = false) ∧
      (s.timedWork = true ↔ s.tracking.records ≠ [] ∨ s.tracking.arrivals ≠ [] ∨ s.gate.firings ≠ [] ∨
        s.portA.pending ≠ [] ∨ s.portB.pending ≠ [] ∨ (∃ h ∈ s.heads, h.dose ≠ .idle ∨ h.jog.isSome = true) ∨
        s.access.grants ≠ []) ∧
      match roundOutcome s.includedOffsets with
      | none => t.clock.time = s.clock.time ∧ t.clock.slew = s.clock.slew ∧ t.clock.trim = s.clock.trim ∧
          t.clock.nextDue = some (after due s.intervalMicros)
      | some c =>
        if (t.clock.quality = .free ∨ t.clock.quality = .acquire) ∧ 1000 < c.natAbs ∧ s.timedWork = false then
          t.clock.time = s.clock.time + BitVec.ofInt 48 c ∧ t.clock.slew = 0 ∧ t.clock.trim = s.clock.trim ∧
          t.clock.nextDue = some (after (due + BitVec.ofInt 48 c) s.intervalMicros) ∧
          (∀ stamp frame, s.line.rx = .collecting stamp frame →
            t.line.rx = .collecting (stamp + BitVec.ofInt 48 c) frame)
        else
          let limit : Int := min 300 (s.intervalMicros / 64 : Nat)
          let cc := max (-limit) (min limit c)
          t.clock.time = s.clock.time ∧ t.clock.slew = 64 * cc ∧
          t.clock.trim = max (-4096) (min 4096 (s.clock.trim + (cc * 2 ^ 24).tdiv (4 * s.intervalMicros))) ∧
          t.clock.nextDue = some (after due s.intervalMicros) ∧ t.line.rx = s.line.rx

/-- ROUND_END, whole: beside the clock, the beacon and a stamp moved by a step (RoundEndMovesQuality, RoundEndStepsOrSlews) it
advances silence and changes nothing but the latches of TIME_QUALITY, TIME_DISAGREE and PEER_ABSENT, and run permission then follows
the run conditions (PermissionFollowsConditions says how). An unheard PRESENT peer's count rises, at the absent limit it becomes ABSENT
without a report and PEER_ABSENT is latched with its address, and every other entry keeps presence, count and report (R28). Where
such a peer is dependent, run permission is false after it with its restore timer stopped, and a fall darkens the run lamp and leaves
drive enable and drive pulse of every sound fitted head low (R43, R44, R89, R97). What the latch takes is said where one peer
alone falls silent; the order of several is the model's (log 40). -/
def Obligations.RoundEndAdvancesSilence : Prop :=
  ∀ (s : State) (due : Time), s.running = true → s.clock.nextDue = some due → reached due s.now = true →
    s.peers.length = 30 → s.latches.length = 24 →
    let silent := fun p : Peer => p.presence = .present ∧ p.heard = false
    let falls := fun p : Peer => silent p ∧ p.silence + 1 = s.cfg.hall.absentLimit
    ∃ t u : State, exec .roundEnd s = .next t ∧ t = u.followConditions ∧
      u = { s with
        clock := t.clock
        line := { s.line with bcnSlot := t.line.bcnSlot, rx := t.line.rx }
        latches := u.latches
        peers := s.peers.map fun p => { p with
          inRound := false, heard := false
          silence := if silent p then p.silence + 1 else p.silence
          presence := if falls p then .absent else p.presence
          report := if falls p then none else p.report } } ∧
      (∀ e, e ≠ .timeQuality → e ≠ .timeDisagree → e ≠ .peerAbsent → u.latchOf e = s.latchOf e) ∧
      t.peers = u.peers ∧ t.gate = s.gate ∧ t.portA = s.portA ∧ t.portB = s.portB ∧
      t.tracking.arrivals = s.tracking.arrivals ∧ t.tracking.pocket = s.tracking.pocket ∧ t.access.lockMode = s.access.lockMode ∧
      ((∃ p ∈ s.peers, p.dependent = true ∧ falls p) → t.cabinet.permission = false ∧ t.cabinet.restore = none ∧
        (s.cabinet.permission = true → t.loader.runLamp = false ∧ ∀ h, h < 8 → h < s.cfg.track.heads →
          (s.head h).Sound → (t.head h).enableOut = false ∧ (t.head h).pulseOut = false)) ∧
      ∀ k, s.latchOf .peerAbsent = Latch.clear k →
        (∀ a, 1 ≤ a → a ≤ 30 → (∀ b, 1 ≤ b → b ≤ 30 →
            ((s.peer b).presence = .present ∧ (s.peer b).heard = false ∧
              (s.peer b).silence + 1 = s.cfg.hall.absentLimit ↔ b = a)) →
          (t.latchOf .peerAbsent).content = ⟨1, some t.now, some (byte a)⟩)

/-! ## Reception -/

/-- An occurrence is merged into its latch by the four rows of R175: a clear latch becomes pending with count 1, its stamp and
detail; a pending one keeps its first time, with the count rising to at most 255 and the new detail; a blocked one gathers in
its sending record. A counter that is counted rises by one and stops at 65535. Sources and counters are numbered in the order of
their tables (R174 to R176, R179). -/
def Obligations.OccurrencesAndCountsSaturate : Prop :=
  ∀ (s : State) (e : EventSource) (detail : Byte) (c : Counter), s.latches.length = 24 →
    let l := s.latchOf e
    let merged := fun g : Gathered =>
      if g.count = 0 then (⟨1, some s.now, some detail⟩ : Gathered) else ⟨min 255 (g.count + 1), g.first, some detail⟩
    let latched := fun m : Latch => { s with latches := s.latches.set (sourceNumber e) m }
    (l.blocked = true → s.occur e detail = latched { l with sending := merged l.sending }) ∧
    (l.blocked = false → l.pending = false → s.occur e detail = latched { l with
      pending := true, content := ⟨1, some s.now, some detail⟩, ready := s.clock.localTime }) ∧
    (l.blocked = false → l.pending = true → s.occur e detail = latched { l with content := merged l.content }) ∧
    s.count c = { s with counters := s.counters.modify (counterIndex c) fun n => min 65535 (n + 1) } ∧
    [EventSource.intrusion, .discrepancy, .doorOverdue, .peerAbsent, .peerReturned, .timeQuality, .timeDisagree, .addressClash,
      .headFault, .doseLate, .cameraLink, .cameraStray, .strobeSkip, .gateUnconfirmed, .gateFault, .gateOverrun, .trackOverflow,
      .arrivalLost, .arrivalOverflow, .handoverLate, .txDrop, .lineFault, .accessHeld, .configClamped].map sourceNumber =
        List.range 24 ∧
    [Counter.captures, .untracked, .recordsOpened, .rejected, .passed, .rejectsUnexecuted, .hndSent, .hndReceived,
      .arrivalsMatched, .unknownArrivals, .dosesOk, .dosesNotOk, .verdictsMatched, .strayVerdicts, .framesSent, .framesTaken,
      .checkErrors, .discards, .collisions, .txDrops].map counterIndex = List.range 20

/-- A collected frame that the line takes from a peer: the receiver watches again, frames-taken counts, the source's entry is PRESENT
with silence 0 and its heard mark, PEER_RETURNED is latched where it was ABSENT, and nothing else changes (R27, R162). CRP,
EVT, ARP and ANS frames of their lengths do no more than that (R171, R198). -/
def Obligations.TakenFrameMarksItsPeer : Prop :=
  ∀ (s : State) (i : Instr) (dest src : Byte), s.peers.length = 30 → s.passesLine i dest src →
    s.takenFrom src = { s with
      line := { s.line with rx := .watching }
      peers := s.peers.set (src.toNat - 1)
        { s.peer src.toNat with presence := .present, silence := 0, heard := true }
      latches := if (s.peer src.toNat).presence = .absent then (s.occur .peerReturned src).latches else s.latches
      counters := s.counters.modify 15 fun n => min 65535 (n + 1) } ∧
    ∀ payload : List Byte,
      (i = .crp dest src payload → payload.length = 33 → exec i s = .next (s.takenFrom src)) ∧
      (i = .evt dest src payload → payload.length = 9 → exec i s = .next (s.takenFrom src)) ∧
      (i = .arp dest src payload → payload.length = 11 → exec i s = .next (s.takenFrom src)) ∧
      (i = .ans dest src payload → 4 ≤ payload.length → payload.length ≤ 56 → exec i s = .next (s.takenFrom src))

/-- A frame command judges its own source and destination, as FRAME_DISCARDED does (R27, R29, R162; log 10); a taken HND,
ARQ, ARL, JOG or QRY is discarded by its owner in JOINING or when sent to 31, and a taken LCK in JOINING (R172). Unless the
receiver has collected just its bytes, to the end of the frame (R161), it changes nothing (log 1). -/
def Obligations.FrameCommandsAreJudged : Prop :=
  (∀ (s : State) (i : Instr) (bytes : List Byte), frameOf i = some bytes →
    (s.listening = false ∨ ∀ stamp frame, s.line.rx = .collecting stamp frame → frame.place ≠ .over (.ended bytes)) →
    exec i s = .next s) ∧
  ∀ (s : State) (stamp : Time) (dominant recessive : Nat) (i : Instr) (bytes : List Byte),
    frameOf i = some bytes → i.wellFormed = true → s.listening = true →
    s.line.rx = .collecting stamp ⟨.over (.ended bytes), dominant, recessive⟩ →
    let dest := bytes.getD 0 0
    let src := bytes.getD 1 0
    let kind := bytes.getD 2 0
    let freed : State := { s with line := { s.line with rx := .watching } }
    (src = s.ownAddress → exec i s = .next ((freed.occur .addressClash src).count .discards)) ∧
    (src ≠ s.ownAddress → (src.toNat = 0 ∨ 30 < src.toNat) → exec i s = .next (freed.count .discards)) ∧
    (src ≠ s.ownAddress → 1 ≤ src.toNat → src.toNat ≤ 30 → dest ≠ s.ownAddress → dest ≠ 31 →
      exec i s = .next ((freed.peerHeard src).count .discards)) ∧
    (s.passesLine i dest src → kind ∈ [0x03#8, 0x06#8, 0x08#8, 0x09#8, 0x0B#8] → (s.loader.station = .joining ∨ dest = 31) →
      exec i s = .next ((s.takenFrom src).count .discards)) ∧
    (s.passesLine i dest src → kind = 0x0A#8 → s.loader.station = .joining →
      exec i s = .next ((s.takenFrom src).count .discards))

/-- START_MARK begins a frame with the start-mark stamp, one dominant microsecond of it gone by, where the line goes dominant after at
least 11 recessive microseconds and the receiver watches; elsewhere it is none. CHECK_ERROR stands for what has been collected,
where its frame broke off or fails check 1 of R162: counted, not heard. FRAME_DISCARDED, for the bytes collected: a whole frame from the own address latches ADDRESS_CLASH and touches no entry, one from address 0 or 31
touches nothing, one from a peer that is for another station, of no known kind or of a length that R198 does not give its kind is
heard; each counts as a discard and not as taken (R9, R27, R29, R159, R161, R162, R171, R198; log 10; the microsecond of the
stamp: log 43). Either command changes nothing for a frame that has not been collected to its end, or that passes the checks it
reports as failed (log 1). -/
def Obligations.FailedFramesAreCounted : Prop :=
  ∀ s : State, s.listening = true →
    (s.line.rx = .watching → s.line.startMark = true → exec .startMark s = .next { s with line := { s.line with
      rx := .collecting s.now ⟨.mark 1, 1, 0⟩, idle := 0, startMark := false } }) ∧
    (s.line.rx ≠ .watching ∨ s.line.startMark = false → exec .startMark s = .next s) ∧
    (∀ got, (∀ stamp frame, s.line.rx = .collecting stamp frame → frame.place ≠ .over got) →
      exec (.checkError got) s = .next s ∧
      ∀ dest src kind payload, got = .ended (frameBytes dest src kind payload) →
        exec (.frameDiscarded dest src kind payload) s = .next s) ∧
    ∀ (stamp : Time) (got : Collected) (dominant recessive : Nat),
      s.line.rx = .collecting stamp ⟨.over got, dominant, recessive⟩ →
      (∀ onDominant, got = .broken onDominant → exec (.checkError got) s = .next { s with
        line := { s.line with rx := if onDominant then .waitRecessive else .watching }
        counters := s.counters.modify 16 fun n => min 65535 (n + 1) }) ∧
      (∀ bytes : List Byte, got = .ended bytes →
        exec (.checkError got) s = .next (
          if 6 ≤ bytes.length ∧ bytes.length ≤ 62 ∧ (bytes.getD 3 0).toNat + 6 = bytes.length ∧ crc16 bytes = 0 then s
          else { s with
            line := { s.line with rx := .watching }
            counters := s.counters.modify 16 fun n => min 65535 (n + 1) })) ∧
      ∀ (dest src kind : Byte) (payload : List Byte), payload.length ≤ 56 →
        got = .ended (frameBytes dest src kind payload) →
        let lengths : List (Byte × Nat × Nat) := [(0x01, 16, 16), (0x02, 4, 4), (0x03, 19, 19), (0x04, 33, 33), (0x05, 9, 9),
          (0x06, 4, 4), (0x07, 11, 11), (0x08, 1, 1), (0x09, 2, 2), (0x0A, 0, 0), (0x0B, 4, 4), (0x0C, 4, 56)]
        let discarded := fun u : State => u.count .discards
        let freed : State := { s with line := { s.line with rx := .watching } }
        (src = s.ownAddress →
          exec (.frameDiscarded dest src kind payload) s = .next (discarded (freed.occur .addressClash src))) ∧
        (src ≠ s.ownAddress → (src.toNat = 0 ∨ 30 < src.toNat) →
          exec (.frameDiscarded dest src kind payload) s = .next (discarded freed)) ∧
        (src ≠ s.ownAddress → 1 ≤ src.toNat → src.toNat ≤ 30 →
          ((dest ≠ s.ownAddress ∧ dest ≠ 31) ∨
            ¬∃ row ∈ lengths, row.1 = kind ∧ row.2.1 ≤ payload.length ∧ payload.length ≤ row.2.2) →
          exec (.frameDiscarded dest src kind payload) s = .next (discarded (freed.peerHeard src))) ∧
        (src ≠ s.ownAddress → 1 ≤ src.toNat → src.toNat ≤ 30 → (dest = s.ownAddress ∨ dest = 31) →
          (∃ row ∈ lengths, row.1 = kind ∧ row.2.1 ≤ payload.length ∧ payload.length ≤ row.2.2) →
          exec (.frameDiscarded dest src kind payload) s = .next s)

/-- BCN, whole: beside what every taken frame does (TakenFrameMarksItsPeer) a beacon gives its source's offset, stamp + line delay -
start-mark stamp as a signed 48-bit value, its announced quality, FREE for a code above 3, its in-round mark and its cabinet report,
which is absent for a bad code; nothing else changes, but that run permission then follows the run conditions
(PermissionFollowsConditions says how). Where a dependent source reports anything but ON and CLOSED, run permission is false after it
(R9, R10, R30, R43, R44, R199, R200). -/
def Obligations.BeaconGivesOffsetAndReport : Prop :=
  ∀ (s : State) (stamp : Time) (frame : Collecting) (dest src : Byte) (b : BcnBody),
    s.line.rx = .collecting stamp frame → s.passesLine (.bcn dest src b) dest src → s.peers.length = 30 →
    let report : Option CabinetReport :=
      if b.cabinet.switch.toNat ≤ 3 ∧ b.cabinet.door.toNat ≤ 1 ∧ b.cabinet.key.toNat ≤ 1 ∧ b.cabinet.permission.toNat ≤ 1 then
        some ⟨[SwitchState.off, .on, .transit, .fault].getD b.cabinet.switch.toNat .off, b.cabinet.door = 1,
          b.cabinet.key = 1, b.cabinet.permission = 1⟩
      else none
    let peers := s.peers.set (src.toNat - 1) { s.peer src.toNat with
      presence := .present, silence := 0, heard := true
      offset := some (b.stamp + BitVec.ofNat 48 s.cfg.hall.lineDelay - stamp).toInt
      quality := some ([Quality.free, .acquire, .synced, .holdover].getD b.quality.toNat .free)
      inRound := true
      report := report }
    ∃ t, exec (.bcn dest src b) s = .next t ∧
      t = ({ s.takenFrom src with peers := peers } : State).followConditions ∧ t.peers = peers ∧
      ((s.peer src.toNat).dependent = true → (∀ r, report = some r → r.switch ≠ .on ∨ r.door = false) →
        t.cabinet.permission = false ∧ t.cabinet.restore = none) ∧
      t.line.rx = .watching ∧ t.clock = s.clock ∧ t.tracking.arrivals = s.tracking.arrivals ∧ t.portA = s.portA ∧
      t.portB = s.portB ∧ t.gate = s.gate ∧ t.access.lockMode = s.access.lockMode ∧
      t.counter .framesTaken = min 65535 (s.counter .framesTaken + (if s.counters.length ≤ 15 then 0 else 1))

/-- CAB, whole: beside what every taken frame does (TakenFrameMarksItsPeer) a CAB writes its source's cabinet report, absent for a
bad code; nothing else changes, but that run permission then follows the run conditions (PermissionFollowsConditions says how). Where
a dependent source reports anything but ON and CLOSED, run permission is false after it with its restore timer stopped, and a
fall darkens the run lamp and leaves drive enable and drive pulse of every sound fitted head low; where all conditions hold after it,
permission that was false with the restore timer stopped rises with a delay of 0, and else the timer starts from 0
(R30, R43, R44, R45, R89, R97). -/
def Obligations.CabReportMovesPermission : Prop :=
  ∀ (s : State) (dest src : Byte) (v : CabinetCodes),
    s.passesLine (.cab dest src v) dest src → s.peers.length = 30 →
    let report : Option CabinetReport :=
      if v.switch.toNat ≤ 3 ∧ v.door.toNat ≤ 1 ∧ v.key.toNat ≤ 1 ∧ v.permission.toNat ≤ 1 then
        some ⟨[SwitchState.off, .on, .transit, .fault].getD v.switch.toNat .off, v.door = 1, v.key = 1, v.permission = 1⟩
      else none
    let peers := s.peers.set (src.toNat - 1) { s.peer src.toNat with
      presence := .present, silence := 0, heard := true, report := report }
    ∃ t, exec (.cab dest src v) s = .next t ∧
      t = ({ s.takenFrom src with peers := peers } : State).followConditions ∧ t.peers = peers ∧
      (({ s with peers := peers } : State).runConditions = true → s.cabinet.permission = false → s.cabinet.restore = none →
        t.cabinet = { s.cabinet with
          permission := s.cfg.hall.restoreMs = 0, restore := if s.cfg.hall.restoreMs = 0 then none else some 0 }) ∧
      ((s.peer src.toNat).dependent = true →
        (∀ r, report = some r → r.switch ≠ .on ∨ r.door = false) →
        t.cabinet.permission = false ∧ t.cabinet.restore = none ∧
          (s.cabinet.permission = true → t.loader.runLamp = false ∧ ∀ h, h < 8 → h < s.cfg.track.heads →
            (s.head h).Sound → (t.head h).enableOut = false ∧ (t.head h).pulseOut = false)) ∧
      t.clock = s.clock ∧ t.tracking.arrivals = s.tracking.arrivals ∧ t.portA = s.portA ∧ t.portB = s.portB ∧
      t.gate = s.gate ∧ t.line.rx = .watching

/-! ## The General Queue and the transmitter -/

/-- The handover of a frame: with room the frame takes the last place of its class; into a full queue a class 2 frame displaces
the newest class 3 entry that is not in an attempt, and any other frame is dropped; each drop latches TX_DROP with the KIND of
the dropped frame and counts in TX-drops (R168, R169). -/
def Obligations.HandoverFollowsQueueTable : Prop :=
  ∀ (s : State) (frame : OutFrame) (cls : Nat), (cls = 2 ∨ cls = 3) →
    s.line.queue.Pairwise (fun x y => x.cls ≤ y.cls) →
    let entry : QueueEntry := ⟨frame, cls, s.clock.localTime, 0, false⟩
    let placed := fun q : List QueueEntry => { s with line := { s.line with
      queue := q.filter (fun e => e.cls ≤ cls) ++ entry :: q.filter (fun e => cls < e.cls) } }
    let dropped := fun (u : State) (kind : FrameKind) => (u.occur .txDrop (kindCode kind)).count .txDrops
    (s.line.queue.length < 16 → s.handOver frame cls = placed s.line.queue) ∧
    (16 ≤ s.line.queue.length → (cls = 3 ∨ ∀ e ∈ s.line.queue, e.cls = 3 → e.inAttempt = true) →
      s.handOver frame cls = dropped s frame.kind) ∧
    ∀ older newer victim, 16 ≤ s.line.queue.length → cls = 2 → s.line.queue = older ++ victim :: newer →
      victim.cls = 3 → victim.inAttempt = false → (∀ e ∈ newer, e.cls = 3 → e.inAttempt = true) →
      s.handOver frame cls = dropped (placed (older ++ newer)) victim.frame.kind

/-- TRANSMIT_START, in LISTEN with the idle timer at the required gap, takes the first candidate of the send order: a PENDING CAB,
a beacon, the oldest class 1 latch, the oldest of class 2 latches and entries, the first class 3 entry. Its frame is filled
at that instant, its place is held and the backoff mark is cleared; the receiver follows the line, as ever. In LISTEN the line is
left recessive, and the first microsecond of the frame is dominant (R8, R40, R131, R163, R164, R165, R166, R167, R170;
log 37, log 43, log 45). Outside RUNNING, while an attempt is in progress, or with the idle timer below the required gap of 12,
with the backoff mark set 12 + 16 × address, it changes nothing (R163, R166; log 1). -/
def Obligations.TransmitStartFollowsSendOrder : Prop :=
  (∀ s : State, (s.running = false ∨ s.line.tx.isSome = true ∨
    s.line.idle < (if s.line.backoff then 12 + 16 * s.cfg.hall.address else 12)) → exec .transmitStart s = .next s) ∧
  ∀ s : State, s.running = true → s.line.tx = none → s.latches.length = 24 →
    (if s.line.backoff then 12 + 16 * s.cfg.hall.address else 12) ≤ s.line.idle →
    let frame := fun (dest : Byte) (kind : Byte) (payload : List Byte) => frameBytes dest s.ownAddress kind payload
    let started := fun (u : State) (c : Candidate) (bytes : List Byte) => exec .transmitStart s = .next { u with
      line := { u.line with tx := some ⟨c, bytes, []⟩, backoff := false } }
    let latchStarts := fun i : Nat => started { s with latches := s.latches.set i { s.latch i with blocked := true } } (.latch i)
      (frame (byte s.cfg.track.report) 0x05#8 ([byte i, byte (s.latch i).content.count] ++
        timeBytes ((s.latch i).content.first.getD 0) ++ [(s.latch i).content.detail.getD 0]))
    let entryStarts := fun (older newer : List QueueEntry) (e : QueueEntry) =>
      started { s with line := { s.line with queue := older ++ { e with inAttempt := true } :: newer } } (.queued e.cls)
        (frame e.frame.dest (kindCode e.frame.kind)
          (if e.frame.kind = .hnd then e.frame.payload.set 18 (qualityCode s.clock.quality) else e.frame.payload))
    s.drivesDominant = false ∧
    (∀ t c bytes, t.line.tx = some ⟨c, bytes, []⟩ → State.drivesDominant t = true) ∧
    (s.line.cabSlot = .pending → started { s with line := { s.line with cabSlot := .sending, renew := false } } .cab
      (frame 31 0x02#8 s.cabinetBytes)) ∧
    (s.line.cabSlot ≠ .pending → ∀ p, s.line.bcnSlot = some p → started s .bcn
      (frame 31 0x01#8 (timeBytes s.now ++ [qualityCode s.clock.quality] ++ s.cabinetBytes ++
        bytesOf 2 p.intervalMs.toNat ++ [p.lock, p.gateFault, p.fill]))) ∧
    (s.line.cabSlot ≠ .pending → s.line.bcnSlot = none →
      (∀ i, s.offersFirst 1 i → latchStarts i) ∧
      ((∀ i, ¬s.offersLatch 1 i) →
        (∀ i, s.offersFirst 2 i → (∀ e ∈ s.line.queue, e.cls = 2 → (s.latch i).ready ≤ e.ready) → latchStarts i) ∧
        (∀ older newer e, s.line.queue = older ++ e :: newer → (∀ x ∈ older, x.cls ≠ e.cls) → e.cls = 2 →
          (∀ i, s.offersLatch 2 i → e.ready < (s.latch i).ready) → entryStarts older newer e) ∧
        ((∀ i, ¬s.offersLatch 2 i) → (∀ e ∈ s.line.queue, e.cls ≠ 2) →
          (∀ older newer e, s.line.queue = older ++ e :: newer → (∀ x ∈ older, x.cls ≠ e.cls) → e.cls = 3 →
            entryStarts older newer e) ∧
          ((∀ e ∈ s.line.queue, e.cls ≠ 3) → exec .transmitStart s = .next s))))

/-- FRAME_SENT, once the frame is read back as sent, ends the attempt: frames-sent counts, the receiver drops the own frame, and the
candidate leaves its place: the CAB slot is EMPTY, or PENDING where the renew mark was set; the BCN slot is EMPTY; the latch is
clear, or pending with what its sending record gathered; the entry is gone, and HND-sent counts where it was an HND. With no
attempt, or a frame not read back whole, it changes nothing, which is the model's choice of log 1 (R40, R131, R163, R165 to R167, R170). -/
def Obligations.SentFrameLeavesItsPlace : Prop :=
  ∀ (s : State) (bytes : List Byte),
    let whole := frameLevels bytes
    let sent := fun u : State => exec .frameSent s = .next { u with
      line := { u.line with tx := none, rx := .watching }
      counters := u.counters.modify 14 fun n => min 65535 (n + 1) }
    (s.line.tx = some ⟨.cab, bytes, whole⟩ → sent { s with line := { s.line with
      cabSlot := if s.line.renew then .pending else .empty, renew := false, cabAttempts := 0 } }) ∧
    (s.line.tx = some ⟨.bcn, bytes, whole⟩ → sent { s with line := { s.line with bcnSlot := none, bcnAttempts := 0 } }) ∧
    (∀ i, i < s.latches.length → s.line.tx = some ⟨.latch i, bytes, whole⟩ →
      let l := s.latch i
      sent { s with latches := s.latches.set i (if l.sending.count = 0 then Latch.clear l.cls
        else ⟨true, l.sending, l.cls, s.clock.localTime, 0, false, Gathered.none⟩) }) ∧
    (∀ cls older newer e, s.line.tx = some ⟨.queued cls, bytes, whole⟩ → s.line.queue = older ++ e :: newer →
      e.inAttempt = true →
      (∀ x ∈ older ++ newer, x.inAttempt = false) →
      sent { s with
        line := { s.line with queue := older ++ newer }
        counters := if e.frame.kind = .hnd then s.counters.modify 6 fun n => min 65535 (n + 1) else s.counters }) ∧
    (s.line.tx = none → exec .frameSent s = .next s) ∧
    ∀ c readBack, s.line.tx = some ⟨c, bytes, readBack⟩ → readBack ≠ whole → exec .frameSent s = .next s

/-- COLLISION, once the start mark or a byte is read back differently at its end, ends the attempt in a loss: collisions counts,
the backoff mark is set, the receiver goes on, and the candidate keeps its place with its attempt count one higher. At the eighth,
LINE_FAULT is latched with the KIND of the frame: a beacon and a queued frame are dropped, a CAB stays with its count at 8, and a
latch starts a fresh count. With no attempt, or no difference so
far, it changes nothing, which is the model's choice of log 1 (R40, R165, R166, R170; log 31). -/
def Obligations.CollisionReturnsCandidate : Prop :=
  ∀ (s : State) (bytes : List Byte) (readBack : List Bool), s.latches.length = 24 →
    let differs := ∃ k, 4 + 10 * k ≤ readBack.length ∧
      readBack.take (4 + 10 * k) ≠ (frameLevels bytes).take (4 + 10 * k)
    let lost : State := { s with
      line := { s.line with tx := none, backoff := true }
      counters := s.counters.modify 18 fun n => min 65535 (n + 1) }
    let faulted := fun (attempts : Nat) (u : State) (kind : Byte) =>
      exec .collision s = .next (if attempts = 7 then u.occur .lineFault kind else u)
    (differs → s.line.tx = some ⟨.cab, bytes, readBack⟩ → faulted s.line.cabAttempts { lost with line := { lost.line with
      cabSlot := .pending, renew := false, cabAttempts := min 8 (s.line.cabAttempts + 1) } } 0x02#8) ∧
    (differs → s.line.tx = some ⟨.bcn, bytes, readBack⟩ → s.line.bcnAttempts ≤ 7 →
      faulted s.line.bcnAttempts { lost with line := { lost.line with
      bcnSlot := if s.line.bcnAttempts = 7 then none else s.line.bcnSlot
      bcnAttempts := if s.line.bcnAttempts = 7 then 0 else s.line.bcnAttempts + 1 } } 0x01#8) ∧
    (∀ i, i < 24 → differs → s.line.tx = some ⟨.latch i, bytes, readBack⟩ → (s.latch i).attempts ≤ 7 →
      let l := s.latch i
      faulted l.attempts { lost with latches := s.latches.set i { l with
        content := if l.sending.count = 0 then l.content
          else ⟨min 255 (l.content.count + l.sending.count), l.content.first, l.sending.detail⟩
        sending := Gathered.none
        blocked := false
        attempts := if l.attempts = 7 then 0 else l.attempts + 1 } } 0x05#8) ∧
    (∀ cls older newer e, differs → s.line.tx = some ⟨.queued cls, bytes, readBack⟩ → s.line.queue = older ++ e :: newer →
      e.inAttempt = true →
      (∀ x ∈ older, x.inAttempt = false) → e.attempts ≤ 7 →
      faulted e.attempts { lost with line := { lost.line with
        queue := older ++ (if e.attempts = 7 then newer else { e with inAttempt := false, attempts := e.attempts + 1 } :: newer)
        } } (kindCode e.frame.kind)) ∧
    (s.line.tx = none → exec .collision s = .next s) ∧
    (∀ c, s.line.tx = some ⟨c, bytes, readBack⟩ → ¬differs → exec .collision s = .next s)

/-- QRY of a known table: one ANS of class 3 with the table's code, the start index as used, the table's length, and the smallest
of count, length and entries per ANS entries from the start index round to 0; it always fits in 56 bytes. Asked to clear the
counters, the ones carried are set to 0 where the ANS is placed. An unknown table is discarded. The entries of the eight tables are
laid out field by field, with the codes of R199 (R180 to R185, R198 to R200, R203; the SELF entry's address byte: log 16; the order
of the grants: log 38). -/
def Obligations.QueryIsAnswered : Prop :=
  (∀ (s : State) (dest src table start count clear : Byte),
    s.owns (.qry dest src table start count clear) dest src →
    let u := s.takenFrom src
    (7 < table.toNat → exec (.qry dest src table start count clear) s = .next (u.count .discards)) ∧
    (table.toNat ≤ 7 → ∃ entries, u.tableEntries table = some entries ∧
      let n := entries.length
      let first := if n = 0 then 0 else start.toNat % n
      let most := [4, 2, 2, 3, 3, 6, 26, 5].getD table.toNat 0
      let carried := (List.range (min count.toNat (min n most))).map fun i => (first + i) % n
      let payload := [table, byte first, byte n, byte carried.length] ++ carried.flatMap (fun i => entries.getD i [])
      let v := u.handOver ⟨.ans, src, payload⟩ 3
      payload.length ≤ 56 ∧
      exec (.qry dest src table start count clear) s = .next (
        if table = 6 ∧ clear ≠ 0 ∧ s.line.queue.length < 16 then
          { v with counters := v.counters.mapIdx fun i c => if i ∈ carried then 0 else c }
        else v))) ∧
  (∀ s : State,
    let bit := fun (b : Bool) (weight : Nat) => if b then weight else 0
    let flag := fun b : Bool => byte (bit b 1)
    let reasons := fun r : Reasons => byte (bit r.fill 1 + bit r.skipped 2 + bit r.verdictA 4 + bit r.verdictB 8 +
      bit r.noVerdict 16 + bit r.unlit 32 + bit r.unknownOrigin 64 + bit r.upstream 128)
    let peer := fun (i : Nat) (p : Peer) => if p.presence = .ownEntry then [0, 3] ++ List.replicate 11 0 else
      [byte (i + 1), presenceCode p.presence, byte p.silence, byte (bit p.heard 1 + bit p.inRound 2 + bit p.counted 4 +
        bit p.dependent 8 + bit p.offset.isSome 16 + bit p.quality.isSome 32 + bit p.report.isSome 64)] ++
      bytesOf 6 (BitVec.ofInt 48 (p.offset.getD 0)).toNat ++ [(p.quality.map qualityCode).getD 0,
        (p.report.map fun r => switchCode r.switch).getD 0,
        (p.report.map fun r => byte (bit r.door 1 + bit r.key 2 + bit r.permission 4)).getD 0]
    let record := fun r : Record =>
      let own : Byte × Nat := (r.fill.map fun f => (fillCode f.result, f.meter)).getD (0, 0)
      let upstream : Byte × Nat := (r.upstreamFill.map fun f => (f.code, f.meter.toNat)).getD (0, 0)
      bytesOf 4 r.sequence.toNat ++ bytesOf 6 r.capture.toNat ++
      (match r.origin with
        | .localOrigin => [0, 0, 0, 0, 0]
        | .handed address sequence => byte address :: bytesOf 4 sequence.toNat) ++
      [byte (16 * own.1.toNat + if 12 < upstream.1.toNat then 15 else upstream.1.toNat)] ++ bytesOf 2 own.2 ++
      bytesOf 2 upstream.2 ++
      [byte (r.head.getD 15 % 16 + bit r.unlitA 16 + bit r.unlitB 32 + bit r.upstreamReject 64 + bit r.trusted 128)] ++
      [byte (16 * verdictCode r.verdictA + verdictCode r.verdictB), verdictFail r.verdictA, verdictFail r.verdictB,
        reasons r.reasons]
    let arrival := fun a : Arrival => [byte a.address] ++ bytesOf 4 a.sequence.toNat ++
      [(a.fill.map CarriedFill.code).getD 0] ++ bytesOf 2 ((a.fill.map fun f => f.meter.toNat).getD 0) ++
      [byte (16 * a.verdictA.code.toNat + a.verdictB.code.toNat), a.verdictA.failCode, a.verdictB.failCode, a.reasons,
        byte (bit a.rejectPending 1 + bit a.trusted 2)] ++ bytesOf 6 a.windowStart.toNat ++ bytesOf 6 a.windowEnd.toNat
    let grant := fun g : Grant => [byte g.number, byte g.holder, levelCode g.level, g.heads] ++
      bytesOf 6 g.grantedAt.toNat ++ bytesOf 6 g.expiresAt.toNat ++ [flag g.readySent]
    let head := fun (i : Nat) (h : Head) => [byte i, productionCode h.production, doseCode h.dose] ++
      bytesOf 4 ((h.hand.map fun d => d.sequence.toNat).getD 0) ++ bytesOf 2 ((h.hand.map DoseInHand.emitted).getD 0) ++
      bytesOf 2 ((h.hand.map DoseInHand.meter).getD 0) ++ [byte (bit h.jog.isSome 1 + bit h.fault.state 2 + bit h.readySample 4)] ++
      bytesOf 2 ((h.jog.map JogInHand.emitted).getD 0) ++ bytesOf 2 ((h.jog.map JogInHand.meter).getD 0)
    let port := fun (kind : Byte) (enabled : Bool) (pattern : Nat) (c : CameraPort) =>
      [kind, flag enabled, c.tag, byte c.pending.length, assemblerCode c.assembler, flag c.busy, byte pattern, 0]
    let waiting := fun (kind : Byte) (e : PendingTrigger) => [kind, e.tag] ++ bytesOf 4 e.sequence.toNat ++ [0, 0]
    let latch := fun (i : Nat) (l : Latch) => [byte i, byte (l.cls % 4 + bit l.pending 4 + bit l.blocked 8),
      byte l.content.count] ++ bytesOf 6 (l.content.first.getD 0).toNat ++ [l.content.detail.getD 0]
    s.tableEntries 0 = some (s.peers.mapIdx peer) ∧ s.tableEntries 1 = some (s.tracking.records.map record) ∧
    s.tableEntries 2 = some (s.tracking.arrivals.map arrival) ∧
    s.tableEntries 3 = some (([lockCode (s.access.lockMode.getD .free), flag s.access.heldLock, flag s.cabinet.key.state,
      byte s.access.nextGrant, byte s.access.grants.length] ++ List.replicate 12 0) :: s.access.grants.map grant) ∧
    s.tableEntries 4 = some ((s.heads.take s.cfg.track.heads).mapIdx head) ∧
    s.tableEntries 5 = some ([port 0 s.cfg.cameraA.enabled 0 s.portA, port 1 s.cfg.cameraB.enabled s.portB.pattern s.portB] ++
      s.portA.pending.map (waiting 2) ++ s.portB.pending.map (waiting 3)) ∧
    s.tableEntries 6 = some (s.counters.map (bytesOf 2)) ∧ s.tableEntries 7 = some (s.latches.mapIdx latch)) ∧
  ([Quality.free, .acquire, .synced, .holdover].map qualityCode = [0, 1, 2, 3] ∧
    [SwitchState.off, .on, .transit, .fault].map switchCode = [0, 1, 2, 3] ∧
    [LockMode.free, .keyed, .fixed, .held].map lockCode = [0, 1, 2, 3] ∧
    [Presence.unknown, .present, .absent, .ownEntry].map presenceCode = [0, 1, 2, 3] ∧
    [FillResult.pending, .ok, .short, .over, .dry, .busy, .skipped, .noRun, .held, .stalled, .driveFault, .late].map fillCode =
      [1, 2, 3, 4, 5, 6, 7, 8, 9, 10, 11, 12] ∧
    (∀ code : Byte, [Verdict.absent, .pending, .pass, .fail code, .missed, .noVerdict, .notTaken].map verdictCode =
      [0, 1, 2, 3, 4, 5, 6] ∧ [Verdict.absent, .pending, .pass, .fail code, .missed, .noVerdict, .notTaken].map verdictFail =
      [0, 0, 0, code, 0, 0, 0]) ∧
    [Production.inProduction, .draining, .out, .faulted].map productionCode = [0, 1, 2, 3] ∧
    [DoseState.idle, .waitStart, .run, .suspended, .settle].map doseCode = [0, 1, 2, 3, 4] ∧
    [Level.inspect, .jog, .door].map levelCode = [1, 2, 3] ∧
    ∀ tag verdict : Byte, [Assembler.hunt, .tag, .verdict tag, .check tag verdict].map assemblerCode = [0, 1, 2, 3])

/-! ## Handovers from upstream -/

/-- HND: from the configured upstream station it is counted and gives an arrival with its window, trusted where both stations keep
time; one whose window has passed latches HANDOVER_LATE, one that meets a full list latches ARRIVAL_OVERFLOW, both with the
low byte of its sequence; from any other station it is discarded (R60 to R63, R199, R200; log 17). -/
def Obligations.HandoverIsListed : Prop :=
  ∀ (s : State) (dest src : Byte) (h : HndBody), s.owns (.hnd dest src h) dest src →
    let u := s.takenFrom src
    let v := u.count .hndReceived
    let expected := h.capture + BitVec.ofNat 48 (s.cfg.track.transferMs * 1000)
    let half := BitVec.ofNat 48 (s.cfg.track.windowMs * 1000)
    let keepsTime : Bool := s.clock.quality = .synced || s.clock.quality = .holdover
    let trusted : Bool := (h.quality = 2 || h.quality = 3) && keepsTime
    let late : Bool := trusted && before (expected + half) s.now
    let low := h.sequence.setWidth 8
    ((s.cfg.track.upstream = 0 ∨ src.toNat ≠ s.cfg.track.upstream) →
      exec (.hnd dest src h) s = .next (u.count .discards)) ∧
    (src.toNat = s.cfg.track.upstream → late = true → exec (.hnd dest src h) s = .next (v.occur .handoverLate low)) ∧
    (src.toNat = s.cfg.track.upstream → late = false → 32 ≤ s.tracking.arrivals.length →
      exec (.hnd dest src h) s = .next (v.occur .arrivalOverflow low)) ∧
    (src.toNat = s.cfg.track.upstream → late = false → s.tracking.arrivals.length < 32 →
      exec (.hnd dest src h) s = .next { v with tracking := { s.tracking with
        arrivals := s.tracking.arrivals ++ [{
          address := src.toNat
          sequence := h.sequence
          capture := h.capture
          fill := if h.fill = 0 then none else some ⟨h.fill, h.meter⟩
          verdictA := ⟨h.verdicts.extractLsb' 4 4, if h.verdicts.extractLsb' 4 4 = 3 then h.failA else 0⟩
          verdictB := ⟨h.verdicts.extractLsb' 0 4, if h.verdicts.extractLsb' 0 4 = 3 then h.failB else 0⟩
          reasons := h.reasons
          rejectPending := h.flags.getLsbD 0
          expected := expected
          windowStart := expected - half
          windowEnd := expected + half
          trusted := trusted }] } })

/-! ## The Access Unit -/

/-- A span code and invert flag name a set among F fitted heads by the table of R140: code 0 none, 1 to 3 the top one, two or four,
4 to 6 the bottom one, two or four, 7 all, 8 to 15 head code - 8; inverted, the other fitted heads. -/
def Obligations.SpanCodesNameHeadSets : Prop :=
  ∀ fitted code h : Nat, ∀ invert : Bool, fitted ≤ 8 → code < 16 → h < 8 →
    let named := (code = 1 ∧ fitted ≤ h + 1) ∨ (code = 2 ∧ fitted ≤ h + 2) ∨ (code = 3 ∧ fitted ≤ h + 4) ∨
      (code = 4 ∧ h = 0) ∨ (code = 5 ∧ h ≤ 1) ∨ (code = 6 ∧ h ≤ 3) ∨ code = 7 ∨ code = h + 8
    ((resolveSpan fitted code invert).getLsbD h = true ↔ h < fitted ∧ (named ↔ invert = false))

/-- ARQ that passes every step of R142 is GRANTED: the grant takes the first number from the next grant number on that no grant
holds, its heads are handed a covering grant, ready-sent is set where all of them are OUT or FAULTED, and one GRANTED goes
to the holder (R142 to R145, R155, R201; log 38). -/
def Obligations.AccessRequestIsGranted : Prop :=
  ∀ (s : State) (dest src code span : Byte) (seconds : Word16) (level : Level),
    s.owns (.arq dest src code span seconds) dest src → levelCode level = code → s.GrantsSound → s.heads.length = 8 →
    (s.access.lockMode = some .free ∨ s.access.lockMode = some .keyed ∧ s.cabinet.key.state = true) →
    (level = .door → s.cabinet.switch = .off) →
    let heads : HeadSet := if level = .door then 0 else
      resolveSpan s.cfg.track.heads (span.toNat % 16) (span.getLsbD 7)
    (level ≠ .door → heads ≠ 0) →
    (∀ g ∈ s.access.grants, g.heads &&& heads = 0 ∧ ¬(g.level = .door ∧ level = .door)) →
    s.access.grants.length < 4 →
    ∃ n tries : Nat,
      let number := fun i => (s.access.nextGrant - 1 + i) % 255 + 1
      n = number tries ∧ (∀ g ∈ s.access.grants, g.number ≠ n) ∧
      (∀ i, i < tries → ∃ g ∈ s.access.grants, g.number = number i) ∧
      let expires := s.now + BitVec.ofNat 48 ((if seconds = 0 then 1 else min seconds.toNat s.cfg.maxGrantS) * 1000000)
      let covered := fun x : Head => if x.production = .inProduction then
        (if x.dose = .idle then .out else .draining) else x.production
      let ready : Bool := (List.range 8).all fun h => !heads.getLsbD h ||
        covered (s.head h) = .out || covered (s.head h) = .faulted
      exec (.arq dest src code span seconds) s = .next (({ s.takenFrom src with
        access := { s.access with
          grants := s.access.grants.filter (fun g => g.number < n) ++
            ⟨n, src.toNat, level, heads, s.now, expires, ready⟩ :: s.access.grants.filter (fun g => n < g.number)
          nextGrant := n % 255 + 1 }
        heads := s.heads.mapIdx fun h x => if heads.getLsbD h then { x with production := covered x } else x } :
        State).answered src ([0, byte n, code, heads] ++ timeBytes expires ++ [if ready then 1 else 0]))

/-- ARQ is answered by the first step of R142 that applies: REFUSED LOCKED, NO_KEY, BAD_LEVEL, SWITCH_ON or EMPTY; EXTENDED
where the sender holds a grant of this level and set, which takes a new expires-at; then REFUSED OVERLAP or FULL. A refusal
changes nothing else (R140, R142, R143, R147, R155, R201). -/
def Obligations.AccessRequestFollowsSteps : Prop :=
  ∀ (s : State) (dest src code span : Byte) (seconds : Word16),
    s.owns (.arq dest src code span seconds) dest src → s.GrantsSound →
    let u := s.takenFrom src
    let refused := fun (reason : Byte) (heads : HeadSet) => exec (.arq dest src code span seconds) s =
      .next (u.answered src [2, reason, code, heads, 0])
    let lockOpen := s.access.lockMode = some .free ∨ s.access.lockMode = some .keyed ∧ s.cabinet.key.state = true
    (s.access.lockMode = some .fixed ∨ s.access.lockMode = some .held → refused 1 0) ∧
    (s.access.lockMode = some .keyed → s.cabinet.key.state = false → refused 2 0) ∧
    (lockOpen → code.toNat = 0 ∨ 3 < code.toNat → refused 3 0) ∧
    (lockOpen → code = 3 → s.cabinet.switch ≠ .off → refused 4 0) ∧
    ∀ level, lockOpen → levelCode level = code → (level = .door → s.cabinet.switch = .off) →
      let heads : HeadSet := if level = .door then 0 else
        resolveSpan s.cfg.track.heads (span.toNat % 16) (span.getLsbD 7)
      let expires := s.now + BitVec.ofNat 48 ((if seconds = 0 then 1 else min seconds.toNat s.cfg.maxGrantS) * 1000000)
      let same := fun g : Grant => g.holder = src.toNat ∧ g.level = level ∧ g.heads = heads
      let overlaps := fun g : Grant => g.heads &&& heads ≠ 0 ∨ (g.level = .door ∧ level = .door)
      (level ≠ .door → heads = 0 → refused 5 0) ∧
      ((level ≠ .door → heads ≠ 0) →
        (∀ g ∈ s.access.grants, same g → exec (.arq dest src code span seconds) s = .next (({ u with
          access := { s.access with grants := s.access.grants.map fun x =>
            if x.number = g.number then { x with expiresAt := expires } else x } } : State).answered src
            ([1, byte g.number, code, heads] ++ timeBytes expires ++ [if g.readySent then 1 else 0]))) ∧
        ((∀ g ∈ s.access.grants, ¬same g) →
          ((∃ g ∈ s.access.grants, overlaps g) → refused 6 heads) ∧
          ((∀ g ∈ s.access.grants, ¬overlaps g) → 4 ≤ s.access.grants.length → refused 7 heads)))

/-- The end of a grant: each jog on its heads ends GRANT_ENDED in ascending order of head, with JOG_DONE to the jog's holder; the grant
leaves the table; its DRAINING and OUT heads become IN; ENDED goes to the holder, with 1 for EXPIRED, 2 for RELEASED, 3 for KEY_OFF
and 4 for LOCKED; a DOOR grant that ends with the door OPEN latches DOOR_OVERDUE
(R77, R97, R149, R152, R154, R199, R201; log 33). -/
def Obligations.GrantEndsInOrder : Prop :=
  ∀ (s : State) (g : Grant) (reason : EndReason), s.heads.length = 8 →
    let jogEnded := fun (u : State) (h : Nat) => match (u.head h).jog with
      | none => u
      | some j => ({ u with heads := u.heads.set h { u.head h with
          jog := none, train := .stopped, pulseOut := false, enableOut := false } } : State).answered (byte j.holder)
          ([7, byte h, 3] ++ bytesOf 2 j.emitted ++ bytesOf 2 j.meter)
    let jogs := (List.range 8).foldl (fun u h => if g.heads.getLsbD h then jogEnded u h else u) s
    let ended := ({ jogs with
      access := { s.access with grants := s.access.grants.filter fun x => x.number ≠ g.number }
      heads := jogs.heads.mapIdx fun h x => if g.heads.getLsbD h ∧ (x.production = .draining ∨ x.production = .out) then
        { x with production := .inProduction } else x } : State).answered (byte g.holder)
      [4, byte g.number, match reason with
        | .expired => 1
        | .released => 2
        | .keyOff => 3
        | .locked => 4]
    s.endGrant g reason =
      if g.level = .door ∧ s.cabinet.door.state = false then ended.occur .doorOverdue (byte g.number) else ended

/-- ARL of the holder ends its grant RELEASED; of another station it is REFUSED NOT_HOLDER; for a number no grant bears, REFUSED
NO_GRANT. GRANT_EXPIRY ends a grant EXPIRED when its expires-at is reached, and not before; of several grants that expire at one
instant the lowest number ends first, and the expiry of a higher one changes nothing until then (R148, R149, R150; log 1). -/
def Obligations.GrantsEndByReleaseAndExpiry : Prop :=
  ∀ (s : State), s.GrantsSound →
    (∀ dest src number, s.owns (.arl dest src number) dest src → (∀ g ∈ s.access.grants, g.number ≠ number.toNat) →
      exec (.arl dest src number) s = .next ((s.takenFrom src).answered src [2, 9, 0, 0, number])) ∧
    (∀ n, (s.running = false ∨ ∀ g ∈ s.access.grants, g.number ≠ n) → exec (.grantExpiry n) s = .next s) ∧
    ∀ g ∈ s.access.grants,
      (∀ dest src number, s.owns (.arl dest src number) dest src → g.number = number.toNat → g.holder = src.toNat →
        exec (.arl dest src number) s = .next ((s.takenFrom src).endGrant g .released)) ∧
      (∀ dest src number, s.owns (.arl dest src number) dest src → g.number = number.toNat → g.holder ≠ src.toNat →
        exec (.arl dest src number) s = .next ((s.takenFrom src).answered src [2, 8, 0, 0, number])) ∧
      (s.running = true → reached g.expiresAt s.now = true →
        (∀ k ∈ s.access.grants, k.number < g.number → reached k.expiresAt s.now = false) →
        exec (.grantExpiry g.number) s = .next (s.endGrant g .expired)) ∧
      (∀ k ∈ s.access.grants, k.number < g.number → reached k.expiresAt s.now = true →
        exec (.grantExpiry g.number) s = .next s) ∧
      (reached g.expiresAt s.now = false → exec (.grantExpiry g.number) s = .next s)

/-- JOG is decided by the first step of R151 that applies: refused NO_GRANT, NO_PERMISSION, HEAD_FAULT or HEAD_BUSY; count 0 stops
a running jog or is ignored; the count of the running jog is ignored and another is refused JOG_RUNNING; else JOG_TAKEN goes
out and the jog starts with its counts 0, drive enable high and the train on a low phase (R85, R86, R96, R97, R151, R201). A stop
reports the counts reached; together with the completion, the high phase of the last pulse having run its full length, it
reports STOPPED with the counts that COMPLETE would report (R97; other pulses at a stop: log 47). -/
def Obligations.JogFollowsSteps : Prop :=
  ∀ (s : State) (dest src head count : Byte), s.owns (.jog dest src head count) dest src → s.heads.length = 8 →
    let u := s.takenFrom src
    let h := head.toNat
    let result := fun t : State => exec (.jog dest src head count) s = .next t
    let refused := fun reason : Byte => result (u.answered src [6, reason, head, count])
    let holds := ∃ g ∈ s.access.grants, g.holder = src.toNat ∧ g.level = .jog ∧ g.heads.getLsbD h = true
    let target := if count = 255 then 65535 else count.toNat
    let stopped : Head := { s.head h with jog := none, train := .stopped, pulseOut := false, enableOut := false }
    (¬holds → refused 1) ∧
    (holds → s.cabinet.permission = false → refused 2) ∧
    (holds → s.cabinet.permission = true →
      ((s.head h).production = .faulted → refused 3) ∧
      ((s.head h).production = .draining → refused 4) ∧
      ((s.head h).production = .out →
        (∀ j, (s.head h).jog = some j →
          (count = 0 →
            let completes := (∃ n, (s.head h).train = .high n ∧ s.cfg.dosing.highTime ≤ n) ∧ h < s.cfg.track.heads ∧
              j.target ≤ j.emitted + 1
            let reports := fun emitted : Nat => result (({ u with heads := s.heads.set h stopped } : State).answered
              (byte j.holder) ([7, head, 2] ++ bytesOf 2 emitted ++ bytesOf 2 j.meter))
            (completes → reports (j.emitted + 1)) ∧ (¬completes → reports j.emitted)) ∧
          (count ≠ 0 → j.target = target → result u) ∧
          (count ≠ 0 → j.target ≠ target → refused 5)) ∧
        ((s.head h).jog = none →
          (count = 0 → result u) ∧
          (count ≠ 0 → result { u.answered src [5, head, count] with heads := s.heads.set h { s.head h with
            jog := some ⟨target, 0, 0, src.toNat⟩
            enableOut := true
            train := if (s.head h).ready then .low 0 else .paused } }))))

/-- LCK of the report address or of a grant's holder: the lock mode becomes HELD, with every grant ended LOCKED, the held-lock flag
set and ACCESS_HELD latched with the source, unless it is HELD already; HOLD_TAKEN goes to the sender. An LCK of any other
station is discarded (R136, R139, R155). -/
def Obligations.LockOutEntersHeld : Prop :=
  ∀ (s : State) (dest src : Byte), s.passesLine (.lck dest src) dest src → s.running = true → s.GrantsSound →
    let u := s.takenFrom src
    let ended := s.access.grants.foldl (fun v g => v.endGrant g .locked) u
    let qualifies := (s.cfg.track.report = src.toNat) ∨ ∃ g ∈ s.access.grants, g.holder = src.toNat
    (¬qualifies → exec (.lck dest src) s = .next (u.count .discards)) ∧
    (qualifies → s.access.lockMode = some .held → exec (.lck dest src) s = .next (u.answered src [8])) ∧
    (qualifies → s.access.lockMode ≠ some .held → ∃ t, exec (.lck dest src) s = .next t ∧
      t.access = ⟨some .held, true, [], s.access.nextGrant⟩ ∧
      t = ((({ ended with access := t.access } : State).occur .accessHeld src).answered src [8]))

/-! ## The Cabinet Monitor -/

/-- RAW_INPUT_CHANGE: where the debouncers run, a new level that disagrees with the debounced state starts the stability timer from
0 and one that agrees stops it; where they do not run the level alone is kept. With d = 0 the change is due at once, but a
debounced state that has changed in this local microsecond does not change again in it.
DEBOUNCE_TIMER_EXPIRY: the infeed going CLEAR, the pitch sensor going to NO_MARK and the confirm sensor going CLEAR settle
when the timer reaches d, and do nothing else (R31 to R33, R48, R76, R120; log 7, log 11); where no such change is due the
state stays (log 1). -/
def Obligations.RawInputMovesStabilityTimer : Prop :=
  ∀ s : State,
    let goesTo := fun (runs : Bool) (d : Debouncer) (raw : Bool) => (⟨raw, d.state, if runs = false ∨ raw = d.raw then d.timer
      else if raw = d.state then none else some 0, d.moved⟩ : Debouncer)
    let sw := fun a b => { s with cabinet := { s.cabinet with
      swA := goesTo s.listening s.cabinet.swA a, swB := goesTo s.listening s.cabinet.swB (!b) } }
    let door := fun high => { s with cabinet := { s.cabinet with door := goesTo s.listening s.cabinet.door high } }
    let key := fun high => { s with cabinet := { s.cabinet with key := goesTo s.listening s.cabinet.key high } }
    let infeed := fun high => { s with tracking := { s.tracking with infeed := goesTo s.listening s.tracking.infeed high } }
    let pitch := fun high => { s with tracking := { s.tracking with pitch := goesTo s.listening s.tracking.pitch high } }
    let confirm := fun high => { s with gate := { s.gate with
      confirm := goesTo (s.listening && s.cfg.track.gateFitted) s.gate.confirm high } }
    let waits := fun (d : Nat) (moved : Bool) => s.listening = false ∨ d ≠ 0 ∨ moved = true
    let goes := fun (input : RawInput) (t : State) => exec (.rawInputChange input) s = .next t
    (∀ a b, (waits s.cfg.hall.switchDebounce (s.cabinet.swA.moved && s.cabinet.swB.moved) → goes (.switch a b) (sw a b)) ∧
      (¬waits s.cfg.hall.switchDebounce (s.cabinet.swA.moved && s.cabinet.swB.moved) →
        exec (.rawInputChange (.switch a b)) s = exec .switchChannelChange (sw a b))) ∧
    ∀ high,
      (waits s.cfg.hall.doorDebounce s.cabinet.door.moved → goes (.door high) (door high)) ∧
      (¬waits s.cfg.hall.doorDebounce s.cabinet.door.moved →
        exec (.rawInputChange (.door high)) s = exec .doorChange (door high)) ∧
      (waits s.cfg.hall.keyDebounce s.cabinet.key.moved → goes (.key high) (key high)) ∧
      (¬waits s.cfg.hall.keyDebounce s.cabinet.key.moved →
        exec (.rawInputChange (.key high)) s = exec .keyChange (key high)) ∧
      (waits s.cfg.track.infeedDebounce s.tracking.infeed.moved → goes (.infeed high) (infeed high)) ∧
      (¬waits s.cfg.track.infeedDebounce s.tracking.infeed.moved → exec (.rawInputChange (.infeed high)) s =
        exec (if high then .capture else .debounceTimerExpiry .infeed) (infeed high)) ∧
      (waits s.cfg.track.pitchDebounce s.tracking.pitch.moved → goes (.pitch high) (pitch high)) ∧
      (¬waits s.cfg.track.pitchDebounce s.tracking.pitch.moved → exec (.rawInputChange (.pitch high)) s =
        exec (if high then .pitch else .debounceTimerExpiry .pitch) (pitch high)) ∧
      (waits s.cfg.track.confirmDebounce s.gate.confirm.moved → goes (.confirm high) (confirm high)) ∧
      (¬waits s.cfg.track.confirmDebounce s.gate.confirm.moved → exec (.rawInputChange (.confirm high)) s =
        exec (if high then .confirmEdge else .debounceTimerExpiry .confirm) (confirm high)) ∧
      (∀ h, h < s.heads.length → goes (.driveFault h high) { s with heads := s.heads.set h { s.head h with
        fault := goesTo (s.listening && h < s.cfg.track.heads) (s.head h).fault high } }) ∧
      (s.listening = true →
        let due := fun (d : Debouncer) (steps : Nat) =>
          d.raw = false ∧ d.moved = false ∧ ∃ n, d.timer = some n ∧ steps * 100 ≤ n
        (due s.tracking.infeed s.cfg.track.infeedDebounce → exec (.debounceTimerExpiry .infeed) s =
          .next { s with tracking := { s.tracking with infeed := ⟨false, false, none, true⟩ } }) ∧
        (¬due s.tracking.infeed s.cfg.track.infeedDebounce → exec (.debounceTimerExpiry .infeed) s = .next s) ∧
        (due s.tracking.pitch s.cfg.track.pitchDebounce → exec (.debounceTimerExpiry .pitch) s =
          .next { s with tracking := { s.tracking with pitch := ⟨false, false, none, true⟩ } }) ∧
        (¬due s.tracking.pitch s.cfg.track.pitchDebounce → exec (.debounceTimerExpiry .pitch) s = .next s) ∧
        (due s.gate.confirm s.cfg.track.confirmDebounce → exec (.debounceTimerExpiry .confirm) s =
          .next { s with gate := { s.gate with confirm := ⟨false, false, none, true⟩ } }) ∧
        (¬due s.gate.confirm s.cfg.track.confirmDebounce → exec (.debounceTimerExpiry .confirm) s = .next s))

/-- SWITCH_CHANNEL_CHANGE: each channel whose timer has reached d settles, and the switch moves on the new pair by the table of R34,
with its discrepancy timer; a change of switch state is announced and run permission follows. DISCREPANCY in TRANSIT takes
the switch to FAULT with the detail of R35 (R32, R34, R35, R36, R39, R44; the microsecond of its stamp: log 46). Where neither channel's timer has reached d, or the
discrepancy timer its time in TRANSIT, the state stays (log 1). -/
def Obligations.SwitchFollowsTable : Prop :=
  ∀ s : State, s.listening = true →
    let d := s.cfg.hall.switchDebounce * 100
    let due := fun x : Debouncer => !x.moved && x.timer.any fun n => d ≤ n
    let settled := fun x : Debouncer => if due x then (⟨x.raw, x.raw, none, true⟩ : Debouncer) else x
    let a := settled s.cabinet.swA
    let b := settled s.cabinet.swB
    let next : SwitchState := match s.cabinet.switch, a.state, b.state with
      | _, false, false => .off
      | .fault, _, _ => .fault
      | _, true, true => .on
      | _, _, _ => .transit
    let moved : State := { s with cabinet := { s.cabinet with
      swA := a
      swB := b
      switch := next
      discrepancy := if next = .transit then (if s.cabinet.switch = .transit then s.cabinet.discrepancy else some 0)
        else none } }
    ((due s.cabinet.swA || due s.cabinet.swB) = true → exec .switchChannelChange s =
      .next (if next = s.cabinet.switch then moved else moved.announce.followConditions)) ∧
    ((due s.cabinet.swA || due s.cabinet.swB) = false → exec .switchChannelChange s = .next s) ∧
    ((s.cabinet.switch ≠ .transit ∨ ∀ n, s.cabinet.discrepancy = some n → n < s.cfg.hall.discrepancyMs * 1000) →
      exec .discrepancy s = .next s) ∧
    (∀ n, s.cabinet.switch = .transit → s.cabinet.discrepancy = some n → s.cfg.hall.discrepancyMs * 1000 ≤ n →
      let latched := s.occur .discrepancy (if s.cabinet.swA.state then 1 else 2)
      exec .discrepancy s = .next ({ latched with cabinet := { s.cabinet with
        switch := .fault, discrepancy := none } } : State).announce.followConditions)

/-- Run permission follows the run conditions: they begin to hold and the restore timer starts, or permission rises at once with a
delay of 0; they fail and the timer stops, or permission falls at once, its lamp with it, doses in RUN suspended and jogs
ended, head by head in ascending order, each jog with JOG_DONE of cause PERMISSION to its holder; with a resume limit of 0 such a
dose ends HELD at once, with its meter count; RESTORE_TIMER_EXPIRY raises it, and suspended doses run on, but changes nothing with
the restore timer stopped or below the restore delay, or with a condition failing (R44; log 1). Each change is announced
by the slot's state (R39, R43 to R45, R85, R86, R89, R90, R94, R97, R152, R199, R201; log 13, log 21). -/
def Obligations.PermissionFollowsConditions : Prop :=
  ∀ s : State, s.heads.length = 8 → s.cfg.track.heads ≤ 8 → s.running = true →
    let announced := fun u : State => { u with line := match u.line.cabSlot with
      | .empty => { u.line with cabSlot := .pending }
      | .pending => u.line
      | .sending => { u.line with renew := true } }
    let risen := announced { s with
      cabinet := { s.cabinet with permission := true, restore := none }
      loader := { s.loader with runLamp := true }
      heads := s.heads.mapIdx fun h x => if h < s.cfg.track.heads ∧ x.dose = .suspended then { x with
        dose := .run
        hand := x.hand.map fun d => { d with resumeTimer := none }
        enableOut := true
        train := if x.ready then .low 0 else .paused } else x }
    s.announce = announced s ∧
    ((s.runConditions = false ∨ ∀ n, s.cabinet.restore = some n → n < s.cfg.hall.restoreMs * 1000) →
      exec .restoreTimerExpiry s = .next s) ∧
    (s.runConditions = true →
      (s.cabinet.permission = true ∨ s.cabinet.restore.isSome = true → s.followConditions = s) ∧
      (s.cabinet.permission = false → s.cabinet.restore = none → s.followConditions =
        if s.cfg.hall.restoreMs = 0 then risen else { s with cabinet := { s.cabinet with restore := some 0 } }) ∧
      (∀ n, s.cabinet.restore = some n → s.cfg.hall.restoreMs * 1000 ≤ n →
        exec .restoreTimerExpiry s = .next risen)) ∧
    (s.runConditions = false →
      (s.cabinet.permission = false → s.followConditions = { s with cabinet := { s.cabinet with restore := none } }) ∧
      (s.cabinet.permission = true →
        let t := s.followConditions
        let jogEnded := fun (u : State) (h : Nat) => match (u.head h).jog with
          | none => u
          | some j => ({ u with heads := u.heads.set h { u.head h with
              jog := none, train := .stopped, pulseOut := false, enableOut := false } } : State).answered (byte j.holder)
              ([7, byte h, 4] ++ bytesOf 2 j.emitted ++ bytesOf 2 j.meter)
        let suspended := fun (u : State) (h : Nat) => match (u.head h).hand with
          | none => u
          | some d =>
            let v : State := { u with heads := u.heads.set h { u.head h with
              dose := .suspended, hand := some { d with resumeTimer := some 0 }
              train := .stopped, pulseOut := false, enableOut := false } }
            if s.cfg.dosing.resumeMs = 0 then v.endDose h .held d.meter else v
        t = (List.range s.cfg.track.heads).foldl
          (fun u h => if (u.head h).dose = .run then suspended u h else jogEnded u h)
          (announced { s with
            cabinet := { s.cabinet with permission := false, restore := none }
            loader := { s.loader with runLamp := false } }) ∧
        t.cabinet = { s.cabinet with permission := false, restore := none } ∧
        t.loader = { s.loader with runLamp := false } ∧
        t.line.cabSlot = (announced s).line.cabSlot ∧ t.line.renew = (announced s).line.renew ∧
        t.clock = s.clock ∧ t.peers = s.peers ∧ t.gate = s.gate ∧ t.portA = s.portA ∧ t.portB = s.portB ∧
        ∀ h, h < s.cfg.track.heads → (s.head h).Sound →
          (∀ d, (s.head h).dose = .run → (s.head h).hand = some d → s.cfg.dosing.resumeMs ≠ 0 → t.head h =
            { s.head h with
              dose := .suspended, hand := some { d with resumeTimer := some 0 }
              train := .stopped, pulseOut := false, enableOut := false }) ∧
          (∀ d, (s.head h).dose = .run → (s.head h).hand = some d → s.cfg.dosing.resumeMs = 0 →
            t.head h = { s.head h with
              dose := .idle, hand := none, train := .stopped, pulseOut := false, enableOut := false
              production := if (s.head h).production = .draining then .out else (s.head h).production } ∧
            ((∀ k, k ≠ h → ∀ e, (s.head k).hand = some e → e.sequence ≠ d.sequence) →
              ∀ r ∈ t.tracking.records, r.sequence = d.sequence → r.fill = some ⟨.held, d.meter⟩)) ∧
          ((s.head h).dose ≠ .run → t.head h = { s.head h with
            jog := none, train := .stopped, pulseOut := false, enableOut := false })))

/-- DOOR_CHANGE and KEY_CHANGE: the debounced state follows and is announced; run permission follows the door. An OPEN door with no
DOOR grant is an intrusion: it enters HELD with detail 0 where intrusion locks, and latches INTRUSION with the lock mode then.
Key OFF in KEYED ends every grant KEY_OFF, in ascending order of number (R32, R37, R39, R44, R136, R138, R153; log 13, log 39; the microsecond of
the event's stamp: log 46).
Where no change is due the state stays (log 1). -/
def Obligations.DoorAndKeyChangesAct : Prop :=
  (∀ s : State,
    ((s.cabinet.door.moved = true ∨ ∀ n, s.cabinet.door.timer = some n → n < s.cfg.hall.doorDebounce * 100) →
      exec .doorChange s = .next s) ∧
    ((s.cabinet.key.moved = true ∨ ∀ n, s.cabinet.key.timer = some n → n < s.cfg.hall.keyDebounce * 100) →
      exec .keyChange s = .next s)) ∧
  ∀ (s : State) (n : Nat), s.listening = true →
    (s.cabinet.door.moved = false → s.cabinet.door.timer = some n → s.cfg.hall.doorDebounce * 100 ≤ n →
      let raw := s.cabinet.door.raw
      let moved := ({ s with cabinet := { s.cabinet with door := ⟨raw, raw, none, true⟩ } } : State).announce.followConditions
      let judged := if s.cfg.intrusionLocks then moved.enterHeld 0 else moved
      exec .doorChange s = .next (if raw = true ∨ ∃ g ∈ s.access.grants, g.level = .door then moved
        else judged.occur .intrusion (lockCode (judged.access.lockMode.getD .free)))) ∧
    (s.cabinet.key.moved = false → s.cabinet.key.timer = some n → s.cfg.hall.keyDebounce * 100 ≤ n →
      let raw := s.cabinet.key.raw
      let moved := ({ s with cabinet := { s.cabinet with key := ⟨raw, raw, none, true⟩ } } : State).announce
      exec .keyChange s = .next (if raw = false ∧ s.access.lockMode = some .keyed then
        s.access.grants.foldl (fun u g => u.endGrant g .keyOff) moved else moved))

/-! ## The Tracking Unit -/

/-- CAPTURE in RUNNING with room opens a record: the arrival is matched, the pocket's head is asked for a dose and answers SKIPPED,
BUSY or PENDING, camera B's pattern moves on, the sequence number is taken, and UNKNOWN_ORIGIN and UPSTREAM are added
(R50, R52, R53, R55 to R58, R83, R102; the microsecond of the stamp: log 46). Where the infeed reads low, has changed in this local
microsecond, or has no timer at its debounce time, the state stays (R48; log 1). -/
def Obligations.CaptureOpensRecord : Prop :=
  (∀ s : State, (s.tracking.infeed.raw = false ∨ s.tracking.infeed.moved = true ∨
    ∀ n, s.tracking.infeed.timer = some n → n < s.cfg.track.infeedDebounce * 100) → exec .capture s = .next s) ∧
  ∀ (s : State) (n : Nat), s.running = true → s.tracking.infeed.raw = true → s.tracking.infeed.moved = false →
    s.tracking.infeed.timer = some n → s.cfg.track.infeedDebounce * 100 ≤ n → s.tracking.records.length < 64 → s.heads.length = 8 →
    let settled : State := { s with tracking := { s.tracking with infeed := ⟨true, true, none, true⟩ } }
    let matching := (settled.count .captures).matchArrival s.now
    let m := matching.1
    let u := matching.2
    let sequence := s.tracking.nextSequence
    let samplesB := s.cfg.cameraB.enabled && s.cfg.patternMask.getLsbD s.portB.pattern
    let unknown := s.cfg.track.upstream ≠ 0 ∧ s.cfg.track.rejectUnknown = true ∧ m.origin = .localOrigin
    let record : Record := {
      sequence := sequence
      capture := s.now
      origin := m.origin
      upstreamFill := m.upstreamFill
      upstreamReject := m.upstreamReject
      head := s.tracking.pocket
      fill := s.tracking.pocket.map fun h => ⟨if (s.head h).production ≠ .inProduction then .skipped
        else if (s.head h).dose ≠ .idle then .busy else .pending, 0⟩
      verdictA := if s.cfg.cameraA.enabled then .pending else .absent
      verdictB := if samplesB then .pending else .absent
      unlitA := false
      unlitB := false
      reasons := ⟨false, false, false, false, false, false, unknown, m.upstreamReject⟩
      trusted := m.trusted }
    exec .capture s = .next (({ u with
      tracking := { u.tracking with
        nextSequence := if sequence = 0xFFFFFFFF#32 then 1 else sequence + 1
        records := s.tracking.records ++ [record] }
      heads := match s.tracking.pocket with
        | none => s.heads
        | some h => if (s.head h).production = .inProduction ∧ (s.head h).dose = .idle then
            s.heads.modify h fun x => { x with
              dose := .waitStart
              hand := some ⟨sequence, s.now + BitVec.ofNat 48 (s.cfg.dosing.fillDelayMs * 1000), 0, 0, none, none, none⟩ }
          else s.heads
      portB := if s.cfg.cameraB.enabled then
        { s.portB with pattern := (s.portB.pattern + 1) % s.cfg.patternPeriod } else s.portB } : State).count .recordsOpened)

/-- The matching of a capture: with no upstream nothing is matched; otherwise the trusted head entries whose windows have passed
leave as LOST, and the head then matches where it is untrusted or the capture is in its window, giving its origin, fill,
reject and trust; else the record is LOCAL. ARRIVAL_LOST takes a passed entry wherever it stands (R58, R64 to R67); that it names
its entry by position is log 28, and that for an entry not due, for none, or outside RUNNING it changes nothing is log 1. -/
def Obligations.CaptureMatchesHeadArrival : Prop :=
  ∀ s : State,
    let keepsTime : Bool := s.clock.quality = .synced || s.clock.quality = .holdover
    let isLost := fun (capture : Time) (a : Arrival) => a.trusted = true ∧ before a.windowEnd capture = true
    let lose := fun (u : State) (a : Arrival) => u.occur .arrivalLost (a.sequence.setWidth 8)
    let listed := fun (u : State) (l : List Arrival) => { u with tracking := { u.tracking with arrivals := l } }
    (∀ capture, s.cfg.track.upstream = 0 → s.matchArrival capture = (⟨.localOrigin, none, false, keepsTime⟩, s)) ∧
    (∀ capture lost rest, s.cfg.track.upstream ≠ 0 → s.tracking.arrivals = lost ++ rest →
      (∀ a ∈ lost, isLost capture a) → (∀ a ∈ rest.head?, ¬isLost capture a) →
      let u := lost.foldl lose s
      let missed := s.matchArrival capture =
        (⟨.localOrigin, none, false, keepsTime⟩, (listed u rest).count .unknownArrivals)
      (rest = [] → missed) ∧
      ∀ a tail, rest = a :: tail →
        (a.trusted = true → before capture a.windowStart = true → missed) ∧
        ((a.trusted = false ∨ before capture a.windowStart = false) → s.matchArrival capture =
          (⟨.handed a.address a.sequence, a.fill, a.rejectPending, a.trusted⟩,
            (listed u tail).count .arrivalsMatched))) ∧
    (∀ position, (s.running = false ∨ s.tracking.arrivals.length ≤ position) →
      exec (.arrivalLost position) s = .next s) ∧
    ∀ older newer a, s.running = true → s.tracking.arrivals = older ++ a :: newer →
      (isLost s.now a → exec (.arrivalLost older.length) s = .next (listed (lose s a) (older ++ newer))) ∧
      (¬isLost s.now a → exec (.arrivalLost older.length) s = .next s)

/-- CAPTURE that opens no record: in JOINING it is counted and untracked; in RUNNING with 64 records it also latches TRACK_OVERFLOW
with the pocket index or FFH, and hands a fitted gate a blind firing of detail 0. PITCH moves the pocket index on, modulo the
heads fitted (R48 to R51, R123; the microsecond of the stamp that TRACK_OVERFLOW and the blind firing take: log 46). Where the
pitch input reads low, has changed in this local microsecond, or has no timer at its debounce time, the state stays (log 1). -/
def Obligations.UntrackedCapturesAndPitches : Prop :=
  (∀ s : State, (s.tracking.pitch.raw = false ∨ s.tracking.pitch.moved = true ∨
    ∀ n, s.tracking.pitch.timer = some n → n < s.cfg.track.pitchDebounce * 100) → exec .pitch s = .next s) ∧
  ∀ (s : State) (n : Nat),
    (s.tracking.infeed.raw = true → s.tracking.infeed.moved = false → s.tracking.infeed.timer = some n →
      s.cfg.track.infeedDebounce * 100 ≤ n →
      let settled : State := { s with tracking := { s.tracking with infeed := ⟨true, true, none, true⟩ } }
      let untracked := (settled.count .captures).count .untracked
      let overflown := untracked.occur .trackOverflow (match s.tracking.pocket with
        | some h => byte h
        | none => 0xFF)
      (s.loader.station = .joining → exec .capture s = .next untracked) ∧
      (s.running = true → 64 ≤ s.tracking.records.length → exec .capture s = .next
        (if s.cfg.track.gateFitted then (overflown.handFiring s.now 0).2 else overflown))) ∧
    (s.listening = true → s.tracking.pitch.raw = true → s.tracking.pitch.moved = false → s.tracking.pitch.timer = some n →
      s.cfg.track.pitchDebounce * 100 ≤ n →
      exec .pitch s = .next { s with tracking := { s.tracking with
        pitch := ⟨true, true, none, true⟩
        pocket := s.tracking.pocket.map fun h => (h + 1) % s.cfg.track.heads } })

/-- The decide settles a record: a PENDING fill becomes LATE with the meter count its dose has reached, PENDING verdicts become
NO_VERDICT, and the reasons are added by the rows of R70 to those of its opening (R69, R70; log 22). -/
def Obligations.DecideSettlesRecord : Prop :=
  ∀ (s : State) (r : Record),
    let d := s.decided r
    let isFail := fun v : Verdict => match v with
      | .fail _ => true
      | _ => false
    let missing := fun v : Verdict => decide (v = .noVerdict ∨ v = .missed ∨ v = .notTaken)
    d = { r with fill := d.fill, verdictA := d.verdictA, verdictB := d.verdictB, reasons := d.reasons } ∧
    (r.fill = none → d.fill = none) ∧
    (∀ f, r.fill = some f → f.result ≠ .pending → d.fill = some f) ∧
    (∀ f, r.fill = some f → f.result = .pending → ∃ m, d.fill = some ⟨.late, m⟩ ∧
      ∀ h x, r.head = some h → (s.head h).hand = some x → x.sequence = r.sequence → m = x.meter) ∧
    d.verdictA = (if r.verdictA = .pending then .noVerdict else r.verdictA) ∧
    d.verdictB = (if r.verdictB = .pending then .noVerdict else r.verdictB) ∧
    (d.reasons.fill = true ↔ r.reasons.fill = true ∨ (∃ f, d.fill = some f ∧ f.result ≠ .ok) ∨
      ∃ address sequence f, r.origin = .handed address sequence ∧ r.upstreamFill = some f ∧ f.code ≠ 2) ∧
    (d.reasons.skipped = true ↔ r.reasons.skipped = true ∨ ∃ f, d.fill = some f ∧ f.result = .skipped) ∧
    d.reasons.verdictA = (r.reasons.verdictA || isFail d.verdictA) ∧
    d.reasons.verdictB = (r.reasons.verdictB || isFail d.verdictB) ∧
    d.reasons.noVerdict = (r.reasons.noVerdict || missing d.verdictA || missing d.verdictB) ∧
    d.reasons.unlit = (r.reasons.unlit || r.unlitA || r.unlitB) ∧
    d.reasons.unknownOrigin = r.reasons.unknownOrigin ∧ d.reasons.upstream = r.reasons.upstream

/-- DECIDE at capture time + reject delay - decide margin takes the head record out: its pending triggers go; with reasons it is
rejected, to a fitted gate with a CRP, or downstream with reject pending, or unexecuted with a CRP; without, it is passed on
downstream. "Report all" adds a CRP where none is produced otherwise. The payloads of the HND and the CRP are laid out field by
field; the fill of an HND is the record's own, or else its upstream fill
(R68, R69, R71 to R73, R117, R129, R130, R132, R133, R199 to R201, R203). Before that time, outside RUNNING, or with no record, the
state stays (log 1). -/
def Obligations.DecideRoutesRecord : Prop :=
  (∀ s : State, (s.running = false ∨ ∀ r ∈ s.tracking.records.head?,
    reached (r.capture + BitVec.ofNat 48 (s.cfg.track.rejectDelayMs * 1000) -
      BitVec.ofNat 48 (s.cfg.track.decideMarginMs * 1000)) s.now = false) → exec .decide s = .next s) ∧
  ∀ (s : State) (r : Record) (rest : List Record), s.running = true → s.tracking.records = r :: rest →
    let margin := BitVec.ofNat 48 (s.cfg.track.decideMarginMs * 1000)
    reached (r.capture + BitVec.ofNat 48 (s.cfg.track.rejectDelayMs * 1000) - margin) s.now = true →
    let d := s.decided r
    let cleared := fun (v : Verdict) (c : CameraPort) => if v = .pending then
      { c with pending := c.pending.filter fun e => e.sequence ≠ r.sequence } else c
    let settled : State := { s with portA := cleared r.verdictA s.portA, portB := cleared r.verdictB s.portB }
    let firing := r.capture + BitVec.ofNat 48 (s.cfg.track.rejectDelayMs * 1000)
    let bit := fun (b : Bool) (weight : Nat) => if b then weight else 0
    let own : Option (Byte × Nat) := d.fill.map fun f => (fillCode f.result, f.meter)
    let upstream : Option (Byte × Nat) := d.upstreamFill.map fun f => (f.code, f.meter.toNat)
    let fill := (own.or upstream).getD (0, 0)
    let verdicts : List Byte :=
      [byte (16 * verdictCode d.verdictA + verdictCode d.verdictB), verdictFail d.verdictA, verdictFail d.verdictB]
    let reasons := byte (bit d.reasons.fill 1 + bit d.reasons.skipped 2 + bit d.reasons.verdictA 4 + bit d.reasons.verdictB 8 +
      bit d.reasons.noVerdict 16 + bit d.reasons.unlit 32 + bit d.reasons.unknownOrigin 64 + bit d.reasons.upstream 128)
    let nibble := if 12 < (upstream.getD (0, 0)).1.toNat then 15 else (upstream.getD (0, 0)).1.toNat
    let image := bytesOf 4 d.sequence.toNat ++ bytesOf 6 d.capture.toNat ++
      (match d.origin with
        | .localOrigin => [0, 0, 0, 0, 0]
        | .handed address sequence => byte address :: bytesOf 4 sequence.toNat) ++
      [byte (16 * (own.getD (0, 0)).1.toNat + nibble)] ++ bytesOf 2 (own.getD (0, 0)).2 ++ bytesOf 2 (upstream.getD (0, 0)).2 ++
      [byte (d.head.getD 15 % 16 + bit d.unlitA 16 + bit d.unlitB 32 + bit d.upstreamReject 64 + bit d.trusted 128)] ++
      verdicts ++ [reasons]
    let crp := fun (u : State) (outcome : Byte) (hasFiring : Bool) => if s.cfg.track.report = 0 then u else
      u.handOver ⟨.crp, byte s.cfg.track.report, image ++ [outcome, byte (bit u.gate.fault 1 + bit hasFiring 2)] ++
        bytesOf 6 (if hasFiring then firing.toNat else 0)⟩ 2
    let hnd := fun (u : State) (rejectPending : Bool) => u.handOver ⟨.hnd, byte s.cfg.track.downstream,
      bytesOf 4 d.sequence.toNat ++ bytesOf 6 d.capture.toNat ++ [fill.1] ++ bytesOf 2 fill.2 ++ verdicts ++
        [reasons, byte (bit rejectPending 1 + bit d.trusted 2), 0]⟩ 2
    let all := fun (u : State) (outcome : Byte) => if s.cfg.track.reportAll then crp u outcome false else u
    let ends := fun u : State => exec .decide s = .next { u with tracking := { s.tracking with records := rest } }
    (d.reasons ≠ Reasons.none →
      let rejected := settled.count .rejected
      (s.cfg.track.gateFitted = true →
        let fired := rejected.handFiring r.capture 1
        ends (crp fired.2 (match fired.1 with
          | .placed => 1
          | .merged => 2
          | .lost => 3) true)) ∧
      (s.cfg.track.gateFitted = false → s.cfg.track.downstream ≠ 0 →
        ends (all (hnd rejected true) 4)) ∧
      (s.cfg.track.gateFitted = false → s.cfg.track.downstream = 0 →
        ends (crp (rejected.count .rejectsUnexecuted) 5 false))) ∧
    (d.reasons = Reasons.none →
      let passed := settled.count .passed
      ends (all (if s.cfg.track.downstream = 0 then passed else hnd passed false) 0))

/-! ## The Head Controllers -/

/-- DOSE_START reaches RUN with its counts 0, the dose timer from 0, drive enable high and the train on a low phase, or ends NO_RUN
without run permission. LOW_PHASE_END raises the pulse. PULSE_EMITTED counts one: the last of a dose enters SETTLE, the last
of a jog ends it COMPLETE with JOG_DONE, any other begins a low phase (R84 to R87, R91, R96, R97, R152). Before the start
time, before the end of the phase, outside RUNNING or on a head not fitted the state stays (log 1). -/
def Obligations.DosesAndJogsEmitPulses : Prop :=
  (∀ (s : State) (h : Nat),
    let x := s.head h
    let works : Prop := s.running = true ∧ h < s.cfg.track.heads
    let emits : Prop := x.dose = .run ∨ x.jog.isSome = true
    (¬(works ∧ x.dose = .waitStart ∧ ∃ d, x.hand = some d ∧ reached d.startTime s.now = true) →
      exec (.doseStart h) s = .next s) ∧
    (¬(works ∧ emits ∧ ∃ n, x.train = .low n ∧ s.cfg.dosing.lowTime ≤ n) → exec (.lowPhaseEnd h) s = .next s) ∧
    (¬(works ∧ emits ∧ ∃ n, x.train = .high n ∧ s.cfg.dosing.highTime ≤ n) → exec (.pulseEmitted h) s = .next s)) ∧
  ∀ (s : State) (h : Nat), s.running = true → h < s.cfg.track.heads → h < s.heads.length →
    let x := s.head h
    let sets := fun y : Head => { s with heads := s.heads.set h y }
    (∀ d, x.dose = .waitStart → x.hand = some d → reached d.startTime s.now = true →
      (s.cabinet.permission = true → exec (.doseStart h) s = .next (sets { x with
        dose := .run
        hand := some { d with emitted := 0, meter := 0, doseTimer := some 0 }
        enableOut := true
        train := if x.ready then .low 0 else .paused })) ∧
      (s.cabinet.permission = false → exec (.doseStart h) s = .next (s.endDose h .noRun 0))) ∧
    (∀ n, (x.dose = .run ∨ x.jog.isSome = true) → x.train = .low n → s.cfg.dosing.lowTime ≤ n →
      exec (.lowPhaseEnd h) s = .next (sets { x with train := .high 0, pulseOut := true })) ∧
    (∀ n, x.train = .high n → s.cfg.dosing.highTime ≤ n →
      (∀ d, x.dose = .run → x.jog = none → x.hand = some d → exec (.pulseEmitted h) s = .next (sets (
        if s.cfg.dosing.pulses ≤ d.emitted + 1 then { x with
          dose := .settle
          hand := some { d with emitted := d.emitted + 1, doseTimer := none, settleTimer := some 0 }
          train := .stopped, pulseOut := false, enableOut := false }
        else { x with
          hand := some { d with emitted := d.emitted + 1 }, train := .low 0, pulseOut := false }))) ∧
      (∀ j, x.jog = some j → j.emitted + 1 < j.target → exec (.pulseEmitted h) s = .next (sets { x with
        jog := some { j with emitted := j.emitted + 1 }, train := .low 0, pulseOut := false })) ∧
      (∀ j, x.jog = some j → j.target ≤ j.emitted + 1 → exec (.pulseEmitted h) s = .next
        ((sets { x with jog := none, train := .stopped, pulseOut := false, enableOut := false }).answered (byte j.holder)
          ([7, byte h, 1] ++ bytesOf 2 (j.emitted + 1) ++ bytesOf 2 j.meter))))

/-- DRIVE_READY_CHANGE, once for a change of the input's sample: while the train runs, low pauses it with the pulse low and high
restarts it on a low phase; otherwise the level alone is kept. METER_PULSE, once for a sample high following a sample low, is
counted by the dose in RUN, SUSPENDED or SETTLE and by the jog, to at most 65535. Where the samples show no such change or pulse,
and a meter pulse outside RUNNING or on a head not fitted, either command changes nothing, which is the model's choice of log 1 (R76, R86, R92, R96; log 30). -/
def Obligations.ReadyAndMeterActOnTrain : Prop :=
  ∀ (s : State) (h : Nat), h < s.heads.length →
    let x := s.head h
    let sets := fun y : Head => { s with heads := s.heads.set h y }
    let running : Prop := x.dose = .run ∨ x.jog.isSome = true
    (∀ high, x.readySample ≠ high ∨ x.ready = high → exec (.driveReadyChange h high) s = .next s) ∧
    (∀ high, x.readySample = high → x.ready ≠ high → ¬running →
      exec (.driveReadyChange h high) s = .next (sets { x with ready := high })) ∧
    (running → x.readySample = false → x.ready = true → exec (.driveReadyChange h false) s = .next (sets { x with
      ready := false, train := .paused, pulseOut := false })) ∧
    (running → x.readySample = true → x.ready = false → exec (.driveReadyChange h true) s = .next (sets { x with
      ready := true, train := .low 0 })) ∧
    (x.meterRose = false ∨ s.running = false ∨ s.cfg.track.heads ≤ h → exec (.meterPulse h) s = .next s) ∧
    (s.running = true → h < s.cfg.track.heads → x.meterRose = true → exec (.meterPulse h) s = .next (sets { x with
      meterRose := false
      hand := x.hand.map fun d => if x.dose = .run ∨ x.dose = .suspended ∨ x.dose = .settle then
        { d with meter := min 65535 (d.meter + 1) } else d
      jog := x.jog.map fun j => { j with meter := min 65535 (j.meter + 1) } }))

/-- A dose that ends hands its result to its record, or latches DOSE_LATE where that is decided, counts as OK or not OK, leaves the
head IDLE with its outputs low, and frees a DRAINING head to OUT with the readiness test of R146. DOSE_TIMEOUT ends it STALLED,
RESUME_LIMIT HELD, SETTLE_END by the table of R93, each with the meter count (R88, R90 to R94, R146; the microsecond of
the event's stamp: log 46). Before its timer has
reached its figure, in another dose state, outside RUNNING or on a head not fitted each of them leaves the state (log 1). -/
def Obligations.DosesEndWithResult : Prop :=
  (∀ (s : State) (h : Nat),
    let x := s.head h
    let works : Prop := s.running = true ∧ h < s.cfg.track.heads
    let due := fun (t : DoseInHand → Timer) (ms : Nat) => ∃ d n, x.hand = some d ∧ t d = some n ∧ ms * 1000 ≤ n
    (¬(works ∧ (x.dose = .run ∨ x.dose = .suspended) ∧ due DoseInHand.doseTimer s.cfg.dosing.timeoutMs) →
      exec (.doseTimeout h) s = .next s) ∧
    (¬(works ∧ x.dose = .suspended ∧ s.cabinet.permission = false ∧ due DoseInHand.resumeTimer s.cfg.dosing.resumeMs) →
      exec (.resumeLimit h) s = .next s) ∧
    (¬(works ∧ x.dose = .settle ∧ due DoseInHand.settleTimer s.cfg.dosing.settleMs) → exec (.settleEnd h) s = .next s)) ∧
  ∀ (s : State) (h : Nat) (d : DoseInHand), h < s.heads.length → (s.head h).hand = some d →
    let x := s.head h
    let due := fun (t : Timer) (ms : Nat) => t.any (fun n => ms * 1000 ≤ n) = true
    (∀ result meter,
      let delivered := if ∃ r ∈ s.tracking.records, r.sequence = d.sequence then
        { s with tracking := { s.tracking with records := s.tracking.records.map fun r =>
          if r.sequence = d.sequence then { r with fill := some ⟨result, meter⟩ } else r } }
        else s.occur .doseLate (byte h)
      let frees : Prop := x.production = .draining ∧ result ≠ .driveFault
      let ended := ({ delivered with heads := s.heads.set h { x with
        dose := .idle, hand := none, train := .stopped, pulseOut := false, enableOut := false
        production := if frees then .out else x.production } } : State).count
          (if result = .ok then .dosesOk else .dosesNotOk)
      s.endDose h result meter = if frees then ended.testReady h else ended) ∧
    (s.running = true → h < s.cfg.track.heads →
      ((x.dose = .run ∨ x.dose = .suspended) → due d.doseTimer s.cfg.dosing.timeoutMs →
        exec (.doseTimeout h) s = .next (s.endDose h .stalled d.meter)) ∧
      (x.dose = .suspended → s.cabinet.permission = false → due d.resumeTimer s.cfg.dosing.resumeMs →
        exec (.resumeLimit h) s = .next (s.endDose h .held d.meter)) ∧
      (x.dose = .settle → due d.settleTimer s.cfg.dosing.settleMs →
        let lower : Int := max 0 ((s.cfg.dosing.expected : Int) - s.cfg.dosing.tolerance)
        let upper : Int := s.cfg.dosing.expected + s.cfg.dosing.tolerance
        let result : FillResult := if d.meter = 0 ∧ 0 < s.cfg.dosing.expected then .dry
          else if lower ≤ d.meter ∧ d.meter ≤ upper then .ok
          else if (d.meter : Int) < lower then .short
          else .over
        exec (.settleEnd h) s = .next (s.endDose h result d.meter)))

/-- DRIVE_FAULT_ACTIVE ends a dose in flight DRIVE_FAULT and a jog with JOG_DONE of cause DRIVE_FAULT to its holder, leaves the head
FAULTED with its outputs low, latches HEAD_FAULT and tests readiness; DRIVE_FAULT_INACTIVE takes it to OUT under a
covering grant and to IN without one. The test sends READY once, when every head of the covering grant is OUT or FAULTED
(R76 to R78, R92, R95, R97, R146, R152, R155, R199, R201; the microsecond of the event's
stamp: log 46). Where the input reads the other way, or no change of it is due after its 1.0 ms, the state stays (log 1). -/
def Obligations.DriveFaultsTakeHeadsOut : Prop :=
  (∀ (s : State) (h : Nat),
    let fault := (s.head h).fault
    let due : Prop := s.listening = true ∧ h < s.cfg.track.heads ∧ fault.moved = false ∧ ∃ n, fault.timer = some n ∧ 1000 ≤ n
    (¬(due ∧ fault.raw = true) → exec (.driveFaultActive h) s = .next s) ∧
    (¬(due ∧ fault.raw = false) → exec (.driveFaultInactive h) s = .next s)) ∧
  ∀ (s : State) (h n : Nat), s.listening = true → h < s.cfg.track.heads → h < s.heads.length →
    (s.head h).fault.moved = false → (s.head h).fault.timer = some n → 1000 ≤ n →
    let x := s.head h
    let meter := if x.dose = .waitStart then 0 else (x.hand.map DoseInHand.meter).getD 0
    let dosed := s.endDose h .driveFault meter
    let stopped := match x.jog with
      | none => dosed
      | some j => ({ dosed with heads := dosed.heads.set h { dosed.head h with
          jog := none, train := .stopped, pulseOut := false, enableOut := false } } : State).answered (byte j.holder)
          ([7, byte h, 5] ++ bytesOf 2 j.emitted ++ bytesOf 2 j.meter)
    let faulted : Head := { stopped.head h with
      fault := ⟨true, true, none, true⟩, production := .faulted, train := .stopped, pulseOut := false, enableOut := false }
    (x.fault.raw = true → exec (.driveFaultActive h) s = .next
      ((({ stopped with heads := stopped.heads.set h faulted } : State).occur .headFault (byte h)).testReady h)) ∧
    (x.fault.raw = false → x.production = .faulted → exec (.driveFaultInactive h) s = .next
      (({ s with heads := s.heads.set h { x with
        fault := ⟨false, false, none, true⟩
        production := if ∃ g ∈ s.access.grants, g.heads.getLsbD h = true then .out else .inProduction } } :
        State).testReady h)) ∧
    (s.GrantsSound → ∀ g ∈ s.access.grants, g.heads.getLsbD h = true → g.readySent = false →
      let allOut : Prop := ∀ k, k < 8 → g.heads.getLsbD k = true →
        (s.head k).production = .out ∨ (s.head k).production = .faulted
      (allOut → s.testReady h = ({ s with access := { s.access with grants := s.access.grants.map fun y =>
          if y.number = g.number then { y with readySent := true } else y } } : State).answered (byte g.holder)
          [3, byte g.number, g.heads]) ∧
      (¬allOut → s.testReady h = s)) ∧
    ((∀ g ∈ s.access.grants, g.heads.getLsbD h = true → g.readySent = true) → s.testReady h = s)

/-! ## The camera ports -/

/-- TRIGGER_TIME of the first record that awaits its trigger: taken, the pulse begins, the list takes the tag and the sequence, the tag
moves on and a strobe is scheduled; refused, while busy, in the pulse or guard, or with 16 entries, the verdict is NOT_TAKEN.
TRIGGER_PULSE_END starts the guard and GUARD_END ends it after 10 µs (R100, R103 to R108; log 29). Before the trigger time of that
record, with no such record, at a port that does not work, and before the end of the pulse or the guard the state stays (log 1). -/
def Obligations.TriggersAreTakenOrRefused : Prop :=
  ∀ (s : State) (p : Port) (busy : Bool),
    let c := s.port p
    let sets := fun c' : CameraPort => s.setPort p fun _ => c'
    (∀ older newer r, s.running = true → (s.camera p).enabled = true → s.tracking.records = older ++ r :: newer →
      r.verdict p = .pending → (∀ e ∈ c.pending, e.sequence ≠ r.sequence) →
      (∀ o ∈ older, o.verdict p = .pending → ∃ e ∈ c.pending, e.sequence = o.sequence) →
      reached (r.capture + BitVec.ofNat 48 (s.camera p).triggerDelay) s.now = true →
      exec (.triggerTime p busy) s = .next (
        if busy = true ∨ c.trigger.isSome = true ∨ c.guard.isSome = true ∨ 16 ≤ c.pending.length then
          (sets { c with busy := busy }).updateRecord r.sequence fun x => x.withVerdict p .notTaken
        else sets { c with
          busy := false
          trigger := some 0
          triggerOut := true
          pending := c.pending ++ [⟨c.tag, r.sequence⟩]
          tag := c.tag + 1
          schedule := c.schedule ++ [⟨0, r.sequence⟩] })) ∧
    ((s.running = false ∨ (s.camera p).enabled = false ∨
        ∀ older newer r, s.tracking.records = older ++ r :: newer → r.verdict p = .pending →
          (∀ e ∈ c.pending, e.sequence ≠ r.sequence) →
          (∀ o ∈ older, o.verdict p = .pending → ∃ e ∈ c.pending, e.sequence = o.sequence) →
          reached (r.capture + BitVec.ofNat 48 (s.camera p).triggerDelay) s.now = false) →
      exec (.triggerTime p busy) s = .next s) ∧
    ((∀ n, c.trigger = some n → n < (s.camera p).triggerWidth) → exec (.triggerPulseEnd p) s = .next s) ∧
    ((∀ n, c.guard = some n → n < 10) → exec (.guardEnd p) s = .next s) ∧
    (∀ n, c.trigger = some n → (s.camera p).triggerWidth ≤ n →
      exec (.triggerPulseEnd p) s = .next (sets { c with trigger := none, triggerOut := false, guard := some 0 })) ∧
    (∀ n, c.guard = some n → 10 ≤ n → exec (.guardEnd p) s = .next (sets { c with guard := none }))

/-- STROBE_DUE at the oldest scheduled strobe's delay lights the lamp, or skips it while the output is high or the off timer runs:
the record is marked unlit and STROBE_SKIP latched. STROBE_END darkens the lamp and starts the off timer, which
STROBE_OFF_EXPIRY ends; a strobe due as that timer starts is skipped (R108 to R110; log 32, log 49). Before its timer has reached its figure, and with no strobe scheduled or at a port
that does not work, each leaves the state (log 1). -/
def Obligations.StrobesAreGivenOrSkipped : Prop :=
  ∀ (s : State) (p : Port),
    let c := s.port p
    let sets := fun c' : CameraPort => s.setPort p fun _ => c'
    (∀ due rest, s.running = true → (s.camera p).enabled = true → c.schedule = due :: rest →
      (s.camera p).strobeDelay ≤ due.elapsed →
      (c.strobeOut = false → c.offTimer = none →
        exec (.strobeDue p) s = .next (sets { c with schedule := rest, strobe := some 0, strobeOut := true })) ∧
      ((c.strobeOut = true ∨ c.offTimer.isSome = true) → exec (.strobeDue p) s = .next
        (((sets { c with schedule := rest }).updateRecord due.sequence fun r => r.withUnlit p).occur .strobeSkip
          (if p = .a then 0 else 1)))) ∧
    ((s.running = false ∨ (s.camera p).enabled = false ∨ ∀ d ∈ c.schedule.head?, d.elapsed < (s.camera p).strobeDelay) →
      exec (.strobeDue p) s = .next s) ∧
    ((∀ n, c.strobe = some n → n < (s.camera p).strobeDuration) → exec (.strobeEnd p) s = .next s) ∧
    ((∀ n, c.offTimer = some n → n < (s.camera p).strobeOff) → exec (.strobeOffExpiry p) s = .next s) ∧
    (∀ n, c.strobe = some n → (s.camera p).strobeDuration ≤ n → exec (.strobeEnd p) s = .next (sets { c with
      strobe := none
      strobeOut := false
      offTimer := if (s.camera p).strobeOff = 0 then none else some 0 })) ∧
    (∀ n, c.offTimer = some n → (s.camera p).strobeOff ≤ n →
      exec (.strobeOffExpiry p) s = .next (sets { c with offTimer := none }))

/-- RESULT_BYTE, of the byte that the receiver has completed, moves the assembler by the table of R112, and the receiver looks for
the next start bit; FRAMING_ERROR, of a character with a low stop bit, and INTER_BYTE_TIMEOUT abandon the message with CAMERA_LINK.
A byte or framing error whose start bit came after the limit first abandons the message and is then read in HUNT, so that a late
framing error latches CAMERA_LINK twice (log 9). RESULT_MESSAGE in CHECK abandons the message where the check byte is
not A5H XOR tag XOR verdict, and else matches the tag: the entries before it are MISSED and its record takes PASS or FAIL, or the
message is stray (R111 to R116; a character not completed, or a limit not reached, changes nothing: log 1; log 9, log 36,
log 42; the microsecond of the stamp of CAMERA_LINK: log 46). -/
def Obligations.ResultsAreAssembledAndMatched : Prop :=
  ∀ (s : State) (p : Port) (b : Byte), s.running = true → (s.camera p).enabled = true →
    let c := s.port p
    let sets := fun c' : CameraPort => s.setPort p fun _ => c'
    let link := fun u : State => u.occur .cameraLink (if p = .a then 0 else 1)
    let limit := [4166, 2083, 1041, 694, 347].getD (s.camera p).baud 347
    let overdue := c.assembler ≠ .hunt ∧ ∃ n, c.interByte = some n ∧ limit ≤ n
    let hunts := sets { c with assembler := .hunt, interByte := none }
    let freed := sets { c with receiver := .idle, assembler := .hunt, interByte := none }
    (c.receiver = .complete (some b) →
      (¬overdue →
        (c.assembler = .hunt → exec (.resultByte p b) s = .next (sets (
          if b = 0xA5 then { c with receiver := .idle, assembler := .tag, interByte := some 0 }
          else { c with receiver := .idle }))) ∧
        (c.assembler = .tag → exec (.resultByte p b) s =
          .next (sets { c with receiver := .idle, assembler := .verdict b, interByte := some 0 })) ∧
        (∀ tag, c.assembler = .verdict tag → exec (.resultByte p b) s =
          .next (sets { c with receiver := .idle, assembler := .check tag b, interByte := some 0 })) ∧
        (∀ tag verdict, c.assembler = .check tag verdict → exec (.resultByte p b) s = exec (.resultMessage p b) s ∧
          (b ≠ 0xA5 ^^^ tag ^^^ verdict → exec (.resultMessage p b) s = .next (link freed)) ∧
          (b = 0xA5 ^^^ tag ^^^ verdict → (∀ e ∈ c.pending, e.tag ≠ tag) → exec (.resultMessage p b) s =
            .next ((freed.occur .cameraStray (if p = .a then 0 else 1)).count .strayVerdicts)) ∧
          ∀ older newer e, b = 0xA5 ^^^ tag ^^^ verdict → c.pending = older ++ e :: newer → e.tag = tag →
            (∀ o ∈ older, o.tag ≠ tag) → exec (.resultMessage p b) s = .next
              (((older.foldl (fun u o => u.updateRecord o.sequence fun r => r.withVerdict p .missed)
                (sets { c with receiver := .idle, assembler := .hunt, interByte := none, pending := newer })).updateRecord
                  e.sequence fun r => r.withVerdict p (if verdict = 0 then .pass else .fail verdict)).count
                    .verdictsMatched))) ∧
      (overdue → exec (.resultByte p b) s = .next ((link freed).setPort p fun x =>
        if b = 0xA5 then { x with assembler := .tag, interByte := some 0 } else x))) ∧
    (c.receiver ≠ .complete (some b) → exec (.resultByte p b) s = .next s ∧ exec (.resultMessage p b) s = .next s) ∧
    (c.receiver = .complete none →
      let waits := sets { c with receiver := .waitHigh, assembler := .hunt, interByte := none }
      (¬overdue → exec (.framingError p) s = .next (link waits)) ∧
      (overdue → exec (.framingError p) s = .next (link (link waits)))) ∧
    (c.receiver ≠ .complete none → exec (.framingError p) s = .next s) ∧
    (overdue → exec (.interByteTimeout p) s = .next (link hunts)) ∧
    (¬overdue → exec (.interByteTimeout p) s = .next s)

/-! ## The Reject Gate -/

/-- A firing handed to the Reject Gate runs from capture time + reject delay for the gate pulse. Where it meets no listed firing it
takes its place in start order, or is lost with GATE_OVERRUN in a full list; the firings it meets are joined with it: the earliest
start, the latest end, their containers and confirm counts summed to at most 255. The gate output is high exactly while a listed
firing is ON (R68, R121 to R124; log 19, log 20). -/
def Obligations.FiringsArePlacedMergedOrLost : Prop :=
  ∀ (s : State) (capture : Time) (detail : Byte),
    let start := capture + BitVec.ofNat 48 (s.cfg.track.rejectDelayMs * 1000)
    let stop := start + BitVec.ofNat 48 (s.cfg.track.gatePulseMs * 1000)
    let meets := fun f : Firing => before f.stop start = false ∧ before stop f.start = false
    let met := s.gate.firings.filter meets
    let others := s.gate.firings.filter fun f => ¬meets f
    let placed := fun (f : Firing) (l : List Firing) => ∃ older newer, others = older ++ newer ∧ l = older ++ f :: newer ∧
      (∀ o ∈ older, before f.start o.start = false) ∧ ∀ o ∈ newer.head?, before f.start o.start = true
    let listed := fun l : List Firing => { s with gate := { s.gate with
      firings := l, output := l.any fun f => f.phase = .on } }
    let near := fun t : Time => -(2 ^ 46) < (t - start).toInt ∧ (t - start).toInt < 2 ^ 46
    (met = [] → s.gate.firings.length < 16 → ∃ l, placed ⟨start, stop, 1, 0, .waiting⟩ l ∧
      s.handFiring capture detail = (.placed, listed l)) ∧
    (met = [] → 16 ≤ s.gate.firings.length → s.handFiring capture detail = (.lost, s.occur .gateOverrun detail)) ∧
    (met ≠ [] → ∃ f l, placed f l ∧
      f.containers = min 255 (1 + (met.map Firing.containers).sum) ∧ f.count = min 255 (met.map Firing.count).sum ∧
      f.phase = (if reached f.start s.now then .on else .waiting) ∧
      f.start ∈ start :: met.map Firing.start ∧ f.stop ∈ stop :: met.map Firing.stop ∧
      (near stop → (∀ g ∈ met, near g.start ∧ near g.stop) →
        (∀ a ∈ start :: met.map Firing.start, before a f.start = false) ∧
        ∀ b ∈ stop :: met.map Firing.stop, before f.stop b = false) ∧
      s.handFiring capture detail = (.merged, listed l))

/-- FIRING_START turns the oldest WAITING firing ON with the gate output high; at FIRING_END the firing leaves, unjudged with no
confirm window, confirmed with all its edges, or enters TAIL, and the gate output goes low, or stays high where another firing is ON
already. CONFIRM_EDGE counts for the oldest ON or TAIL firing with room; with none, with a confirm window of 0, or in JOINING, it
settles the debouncer alone. CONFIRM_WINDOW_END judges a TAIL firing unconfirmed, with
the gate fault at 3 in a row (R124 to R127; log 18). Before the point of the oldest firing concerned, with none, outside RUNNING, at a
start while a firing is ON, and for an edge that is not due the state stays (log 1). -/
def Obligations.FiringsAreTimedAndJudged : Prop :=
  (∀ s : State,
    let waits := fun (phase : FiringPhase) (point : Firing → Time) =>
      s.running = false ∨ ∀ f, s.gate.firings.find? (fun x => x.phase = phase) = some f → reached (point f) s.now = false
    (waits .waiting Firing.start ∨ (∃ f ∈ s.gate.firings, f.phase = .on) → exec .firingStart s = .next s) ∧
    (waits .on Firing.stop → exec .firingEnd s = .next s) ∧
    (waits .tail (fun f => f.stop + BitVec.ofNat 48 (s.cfg.track.confirmWindowMs * 1000)) →
      exec .confirmWindowEnd s = .next s) ∧
    ((s.gate.confirm.raw = false ∨ s.gate.confirm.moved = true ∨
      ∀ n, s.gate.confirm.timer = some n → n < s.cfg.track.confirmDebounce * 100) → exec .confirmEdge s = .next s)) ∧
  (∀ (s : State) (n : Nat), s.listening = true → s.gate.confirm.raw = true → s.gate.confirm.moved = false →
    s.gate.confirm.timer = some n → s.cfg.track.confirmDebounce * 100 ≤ n →
    (s.cfg.track.confirmWindowMs = 0 ∨ s.loader.station = .joining ∨
      ∀ f ∈ s.gate.firings, f.phase = .waiting ∨ f.containers ≤ f.count) →
    exec .confirmEdge s = .next { s with gate := { s.gate with confirm := ⟨true, true, none, true⟩ } }) ∧
  ∀ (s : State) (older newer : List Firing) (f : Firing), s.running = true → s.gate.firings = older ++ f :: newer →
    let window := s.cfg.track.confirmWindowMs
    let gated := fun (g : Gate) (l : List Firing) => { s with gate := { g with
      firings := l, output := l.any fun x => x.phase = .on } }
    let confirmed : Gate := { s.gate with unconfirmed := 0, fault := false }
    ((∀ o ∈ s.gate.firings, o.phase ≠ .on) → f.phase = .waiting → (∀ o ∈ older, o.phase ≠ .waiting) →
      reached f.start s.now = true → exec .firingStart s =
        .next (gated s.gate (older ++ { f with phase := .on } :: newer))) ∧
    (f.phase = .on → (∀ o ∈ older, o.phase ≠ .on) → reached f.stop s.now = true → exec .firingEnd s = .next (
      if window = 0 then gated s.gate (older ++ newer)
      else if f.containers ≤ f.count then gated confirmed (older ++ newer)
      else gated s.gate (older ++ { f with phase := .tail } :: newer))) ∧
    (∀ n, s.gate.confirm.raw = true → s.gate.confirm.moved = false → s.gate.confirm.timer = some n →
      s.cfg.track.confirmDebounce * 100 ≤ n → window ≠ 0 →
      f.phase ≠ .waiting → f.count < f.containers → (∀ o ∈ older, o.phase = .waiting ∨ o.containers ≤ o.count) →
      exec .confirmEdge s = .next (
        if f.phase = .tail ∧ f.containers ≤ f.count + 1 then
          gated { confirmed with confirm := ⟨true, true, none, true⟩ } (older ++ newer)
        else gated { s.gate with confirm := ⟨true, true, none, true⟩ } (older ++ { f with count := f.count + 1 } :: newer))) ∧
    (f.phase = .tail → (∀ o ∈ older, o.phase ≠ .tail) → reached (f.stop + BitVec.ofNat 48 (window * 1000)) s.now = true →
      let row := min 255 (s.gate.unconfirmed + 1)
      let latched := s.occur .gateUnconfirmed (byte f.count)
      let left : State := { latched with gate := { s.gate with
        firings := older ++ newer, output := (older ++ newer).any fun x => x.phase = .on
        unconfirmed := row, fault := s.gate.fault || row = 3 } }
      exec .confirmWindowEnd s = .next (if row = 3 then left.occur .gateFault 3 else left))

/-! ## What every step keeps -/

/-- The state right after a power-on reset is sound. Its input levels are the model's own (log 6, log 7). -/
def Obligations.ResetIsSound : Prop := State.reset.Sound ∧ State.reset.CapturesOrdered

/-- No step outgrows a table, a list, a counter or the gathered counts of a latch, and none takes a figure of the Hall Clock out of
its range; what is sampled of the image and read back of a frame stays within their lengths. The Tracking Queue stays in order: its
sequences are consecutive after every step (R53), and its capture times rise strictly after every step of a timely run (R48, R54;
log 3: a run that leaves a decide waiting without end is none of the part's)
(R2, R3, R15, R21, R25, R54, R60, R107, R121, R159, R168, R174, R179, R204). -/
def Obligations.StepsKeepBounds : Prop :=
  (∀ s t : State, s.Sound → step s = .next t → t.Bounded ∧ t.ClockSound ∧ t.TrackingSound) ∧
  ∀ (s t : State) (image : List Byte) (busy : Bool), s.Sound → s.CapturesOrdered →
    (∀ i ∈ s.pending.head?, s.mayTake i image busy = true) → step s = .next t → t.CapturesOrdered

/-- No step leaves run permission true where a run condition fails, or lets the run lamp differ from it; none lets two grants share
a head, a number or the door, or leaves a grant standing in HELD, in FIXED or outside RUNNING (R43 to R45, R136, R137, R141,
R142, R144). -/
def Obligations.StepsKeepPermissionAndGrants : Prop :=
  ∀ s t : State, s.Sound → step s = .next t → t.PermissionSound ∧ t.GrantsSound

/-- No step lets a head's states and outputs disagree, lets a head emit without run permission, or leaves a head's production state
at odds with the grants; none leaves the gate output high without an ON firing or low with one, a trigger or strobe output at odds
with its pulse, the inter-byte timer running in HUNT, or a character not yet complete with more than 8 bits. No dose or jog emits
more than its target. The pending tags of a port stay different and consecutive, and each entry names a tracked record whose verdict
is PENDING, in queue order. A stability timer runs only while its input is read and disagrees (R32, R33, R43, R77, R80, R82, R85 to
R87, R91, R92, R96 to R100, R103, R105 to R107, R110, R111, R113, R116, R124; log 19). -/
def Obligations.StepsKeepHeadsSound : Prop :=
  ∀ s t : State, s.Sound → step s = .next t →
    t.HeadsSound ∧ t.DriveSafe ∧ t.OutputsSound ∧ t.TargetsSound ∧ (∀ p, t.TriggersSound p) ∧ t.InputsSound

/-- No step breaks the order of the General Queue, holds another place than that of the frame being sent, or lets a frame in
collection grow past its 62 bytes and its end (R39, R40, R159, R161, R163, R164, R168, R170). -/
def Obligations.StepsKeepLineSound : Prop :=
  ∀ s t : State, s.Sound → step s = .next t → t.LineSound

/-- No step sends, tracks, fires, grants, doses or jogs anything outside RUNNING, leaves a gate, trigger or strobe output high
there, or begins a result character or message there (R50, R61, R100, R101, R124, R163, R194, R196). -/
def Obligations.StepsStayQuietOutsideRunning : Prop :=
  ∀ s t : State, s.Sound → step s = .next t → t.QuietOutside

/-! ## Frames on the line -/

/-- Every received frame command is what its own frame is read as: the layouts of R201, the lengths of R198, the KIND codes of R171
and the CRC of R160 lose no bit of any field (R160, R162, R171, R198, R201). -/
def Obligations.FramesReadBackAsTheirCommands : Prop :=
  ∀ (i : Instr) (bytes : List Byte), frameOf i = some bytes → i.wellFormed = true →
    commandOf bytes = i ∧ crc16 bytes = 0 ∧ bytes.length ≤ 62

/-- A frame put on the line behind its start mark, in start bit, 8 data bits least significant first and stop bit, is collected byte
for byte once 11 µs recessive have passed after it, and not before; a dominant stop bit, a 63rd byte and a line dominant for more
than 9 µs from the start mark on break reception off. What LOCAL_MICROSECONDs after START_MARK leave in the receiver is what a frame
of these levels gives, and CHECK_ERROR or a frame command then reports it. A camera's character, held for its bit times, completes as its byte, and the
bytes of the memory read back as sent (R111, R159, R161, R188; how the frame ends is also
log 41 and log 50, the bit times log 42). -/
def Obligations.LineBytesReadBack : Prop :=
  (∀ bytes : List Byte,
    (bytes.length ≤ 62 → collectFrame (frameLevels bytes ++ List.replicate 11 true) = some (.ended bytes)) ∧
    (bytes.length ≤ 62 → collectFrame (frameLevels bytes ++ List.replicate 10 true) = none) ∧
    (bytes.length = 63 → collectFrame (frameLevels bytes) = some (.broken false)) ∧
    (∀ b : Byte, bytes.length ≤ 62 → collectFrame (frameLevels bytes ++ (lineByte b).take 9 ++ [false]) =
      some (.broken true))) ∧
  (∀ n, collectFrame (List.replicate n false) = if n ≤ 9 then none else some (.broken true)) ∧
  (∀ (s : State) (samples : List PinSamples), s.seesStartMark = true →
    let after := fun (u : State) (i : Instr) => match exec i u with
      | .next t => t
      | .fault _ => u
      | .refused _ => u
    (samples.foldl (fun u pins => after u (.localMicrosecond pins)) (after s .startMark)).collected =
      collectFrame (false :: samples.map fun pins => decide (pins.line = .recessive))) ∧
  (∀ (b : Byte) (code : Nat),
    let rate := [9600, 19200, 38400, 57600, 115200].getD code 115200
    let levels := (List.range (19 * 500000 / rate + 1)).map fun i => (lineByte b).getD (i * rate / 1000000) true
    levels.foldl (SerialReceiver.step code) .idle = .complete (some b)) ∧
  ∀ bytes : List Byte, memoryBytes (bytes.flatMap fun b => (List.range 8).map fun i => b.getLsbD (7 - i)) = bytes
end

