-- ==== Sys2Proof/Laws/State.lean ====
section
/-! SUPPORT. One lemma for each field of State and each shared update: the update leaves the field as it was, or what the field
then holds. -/

namespace Sys2Proof.Machine

/-! `setHead` -/

@[simp] theorem State.setHead_loader (s : State) (h : Nat) (f : Head → Head) :
    (s.setHead h f).loader = s.loader := rfl

@[simp] theorem State.setHead_clock (s : State) (h : Nat) (f : Head → Head) :
    (s.setHead h f).clock = s.clock := rfl

@[simp] theorem State.setHead_peers (s : State) (h : Nat) (f : Head → Head) :
    (s.setHead h f).peers = s.peers := rfl

@[simp] theorem State.setHead_cabinet (s : State) (h : Nat) (f : Head → Head) :
    (s.setHead h f).cabinet = s.cabinet := rfl

@[simp] theorem State.setHead_tracking (s : State) (h : Nat) (f : Head → Head) :
    (s.setHead h f).tracking = s.tracking := rfl

@[simp] theorem State.setHead_portA (s : State) (h : Nat) (f : Head → Head) :
    (s.setHead h f).portA = s.portA := rfl

@[simp] theorem State.setHead_portB (s : State) (h : Nat) (f : Head → Head) :
    (s.setHead h f).portB = s.portB := rfl

@[simp] theorem State.setHead_gate (s : State) (h : Nat) (f : Head → Head) :
    (s.setHead h f).gate = s.gate := rfl

@[simp] theorem State.setHead_access (s : State) (h : Nat) (f : Head → Head) :
    (s.setHead h f).access = s.access := rfl

@[simp] theorem State.setHead_latches (s : State) (h : Nat) (f : Head → Head) :
    (s.setHead h f).latches = s.latches := rfl

@[simp] theorem State.setHead_counters (s : State) (h : Nat) (f : Head → Head) :
    (s.setHead h f).counters = s.counters := rfl

@[simp] theorem State.setHead_line (s : State) (h : Nat) (f : Head → Head) :
    (s.setHead h f).line = s.line := rfl

@[simp] theorem State.setHead_pending (s : State) (h : Nat) (f : Head → Head) :
    (s.setHead h f).pending = s.pending := rfl

/-! `setPeer` -/

@[simp] theorem State.setPeer_loader (s : State) (a : Nat) (f : Peer → Peer) :
    (s.setPeer a f).loader = s.loader := rfl

@[simp] theorem State.setPeer_clock (s : State) (a : Nat) (f : Peer → Peer) :
    (s.setPeer a f).clock = s.clock := rfl

@[simp] theorem State.setPeer_cabinet (s : State) (a : Nat) (f : Peer → Peer) :
    (s.setPeer a f).cabinet = s.cabinet := rfl

@[simp] theorem State.setPeer_tracking (s : State) (a : Nat) (f : Peer → Peer) :
    (s.setPeer a f).tracking = s.tracking := rfl

@[simp] theorem State.setPeer_heads (s : State) (a : Nat) (f : Peer → Peer) :
    (s.setPeer a f).heads = s.heads := rfl

@[simp] theorem State.setPeer_portA (s : State) (a : Nat) (f : Peer → Peer) :
    (s.setPeer a f).portA = s.portA := rfl

@[simp] theorem State.setPeer_portB (s : State) (a : Nat) (f : Peer → Peer) :
    (s.setPeer a f).portB = s.portB := rfl

@[simp] theorem State.setPeer_gate (s : State) (a : Nat) (f : Peer → Peer) :
    (s.setPeer a f).gate = s.gate := rfl

@[simp] theorem State.setPeer_access (s : State) (a : Nat) (f : Peer → Peer) :
    (s.setPeer a f).access = s.access := rfl

@[simp] theorem State.setPeer_latches (s : State) (a : Nat) (f : Peer → Peer) :
    (s.setPeer a f).latches = s.latches := rfl

@[simp] theorem State.setPeer_counters (s : State) (a : Nat) (f : Peer → Peer) :
    (s.setPeer a f).counters = s.counters := rfl

@[simp] theorem State.setPeer_line (s : State) (a : Nat) (f : Peer → Peer) :
    (s.setPeer a f).line = s.line := rfl

@[simp] theorem State.setPeer_pending (s : State) (a : Nat) (f : Peer → Peer) :
    (s.setPeer a f).pending = s.pending := rfl

/-! `setPort` -/

@[simp] theorem State.setPort_loader (s : State) (p : Port) (f : CameraPort → CameraPort) :
    (s.setPort p f).loader = s.loader := by cases p <;> rfl

@[simp] theorem State.setPort_clock (s : State) (p : Port) (f : CameraPort → CameraPort) :
    (s.setPort p f).clock = s.clock := by cases p <;> rfl

@[simp] theorem State.setPort_peers (s : State) (p : Port) (f : CameraPort → CameraPort) :
    (s.setPort p f).peers = s.peers := by cases p <;> rfl

@[simp] theorem State.setPort_cabinet (s : State) (p : Port) (f : CameraPort → CameraPort) :
    (s.setPort p f).cabinet = s.cabinet := by cases p <;> rfl

@[simp] theorem State.setPort_tracking (s : State) (p : Port) (f : CameraPort → CameraPort) :
    (s.setPort p f).tracking = s.tracking := by cases p <;> rfl

@[simp] theorem State.setPort_heads (s : State) (p : Port) (f : CameraPort → CameraPort) :
    (s.setPort p f).heads = s.heads := by cases p <;> rfl

@[simp] theorem State.setPort_gate (s : State) (p : Port) (f : CameraPort → CameraPort) :
    (s.setPort p f).gate = s.gate := by cases p <;> rfl

@[simp] theorem State.setPort_access (s : State) (p : Port) (f : CameraPort → CameraPort) :
    (s.setPort p f).access = s.access := by cases p <;> rfl

@[simp] theorem State.setPort_latches (s : State) (p : Port) (f : CameraPort → CameraPort) :
    (s.setPort p f).latches = s.latches := by cases p <;> rfl

@[simp] theorem State.setPort_counters (s : State) (p : Port) (f : CameraPort → CameraPort) :
    (s.setPort p f).counters = s.counters := by cases p <;> rfl

@[simp] theorem State.setPort_line (s : State) (p : Port) (f : CameraPort → CameraPort) :
    (s.setPort p f).line = s.line := by cases p <;> rfl

@[simp] theorem State.setPort_pending (s : State) (p : Port) (f : CameraPort → CameraPort) :
    (s.setPort p f).pending = s.pending := by cases p <;> rfl

/-! `updateRecord` -/

@[simp] theorem State.updateRecord_loader (s : State) (n : Word32) (f : Record → Record) :
    (s.updateRecord n f).loader = s.loader := rfl

@[simp] theorem State.updateRecord_clock (s : State) (n : Word32) (f : Record → Record) :
    (s.updateRecord n f).clock = s.clock := rfl

@[simp] theorem State.updateRecord_peers (s : State) (n : Word32) (f : Record → Record) :
    (s.updateRecord n f).peers = s.peers := rfl

@[simp] theorem State.updateRecord_cabinet (s : State) (n : Word32) (f : Record → Record) :
    (s.updateRecord n f).cabinet = s.cabinet := rfl

@[simp] theorem State.updateRecord_heads (s : State) (n : Word32) (f : Record → Record) :
    (s.updateRecord n f).heads = s.heads := rfl

@[simp] theorem State.updateRecord_portA (s : State) (n : Word32) (f : Record → Record) :
    (s.updateRecord n f).portA = s.portA := rfl

@[simp] theorem State.updateRecord_portB (s : State) (n : Word32) (f : Record → Record) :
    (s.updateRecord n f).portB = s.portB := rfl

@[simp] theorem State.updateRecord_gate (s : State) (n : Word32) (f : Record → Record) :
    (s.updateRecord n f).gate = s.gate := rfl

@[simp] theorem State.updateRecord_access (s : State) (n : Word32) (f : Record → Record) :
    (s.updateRecord n f).access = s.access := rfl

@[simp] theorem State.updateRecord_latches (s : State) (n : Word32) (f : Record → Record) :
    (s.updateRecord n f).latches = s.latches := rfl

@[simp] theorem State.updateRecord_counters (s : State) (n : Word32) (f : Record → Record) :
    (s.updateRecord n f).counters = s.counters := rfl

@[simp] theorem State.updateRecord_line (s : State) (n : Word32) (f : Record → Record) :
    (s.updateRecord n f).line = s.line := rfl

@[simp] theorem State.updateRecord_pending (s : State) (n : Word32) (f : Record → Record) :
    (s.updateRecord n f).pending = s.pending := rfl

/-! `setGrant` -/

@[simp] theorem State.setGrant_loader (s : State) (n : Nat) (f : Grant → Grant) :
    (s.setGrant n f).loader = s.loader := rfl

@[simp] theorem State.setGrant_clock (s : State) (n : Nat) (f : Grant → Grant) :
    (s.setGrant n f).clock = s.clock := rfl

@[simp] theorem State.setGrant_peers (s : State) (n : Nat) (f : Grant → Grant) :
    (s.setGrant n f).peers = s.peers := rfl

@[simp] theorem State.setGrant_cabinet (s : State) (n : Nat) (f : Grant → Grant) :
    (s.setGrant n f).cabinet = s.cabinet := rfl

@[simp] theorem State.setGrant_tracking (s : State) (n : Nat) (f : Grant → Grant) :
    (s.setGrant n f).tracking = s.tracking := rfl

@[simp] theorem State.setGrant_heads (s : State) (n : Nat) (f : Grant → Grant) :
    (s.setGrant n f).heads = s.heads := rfl

@[simp] theorem State.setGrant_portA (s : State) (n : Nat) (f : Grant → Grant) :
    (s.setGrant n f).portA = s.portA := rfl

@[simp] theorem State.setGrant_portB (s : State) (n : Nat) (f : Grant → Grant) :
    (s.setGrant n f).portB = s.portB := rfl

@[simp] theorem State.setGrant_gate (s : State) (n : Nat) (f : Grant → Grant) :
    (s.setGrant n f).gate = s.gate := rfl

@[simp] theorem State.setGrant_latches (s : State) (n : Nat) (f : Grant → Grant) :
    (s.setGrant n f).latches = s.latches := rfl

@[simp] theorem State.setGrant_counters (s : State) (n : Nat) (f : Grant → Grant) :
    (s.setGrant n f).counters = s.counters := rfl

@[simp] theorem State.setGrant_line (s : State) (n : Nat) (f : Grant → Grant) :
    (s.setGrant n f).line = s.line := rfl

@[simp] theorem State.setGrant_pending (s : State) (n : Nat) (f : Grant → Grant) :
    (s.setGrant n f).pending = s.pending := rfl

/-! `removeGrant` -/

@[simp] theorem State.removeGrant_loader (s : State) (n : Nat) :
    (s.removeGrant n).loader = s.loader := rfl

@[simp] theorem State.removeGrant_clock (s : State) (n : Nat) :
    (s.removeGrant n).clock = s.clock := rfl

@[simp] theorem State.removeGrant_peers (s : State) (n : Nat) :
    (s.removeGrant n).peers = s.peers := rfl

@[simp] theorem State.removeGrant_cabinet (s : State) (n : Nat) :
    (s.removeGrant n).cabinet = s.cabinet := rfl

@[simp] theorem State.removeGrant_tracking (s : State) (n : Nat) :
    (s.removeGrant n).tracking = s.tracking := rfl

@[simp] theorem State.removeGrant_heads (s : State) (n : Nat) :
    (s.removeGrant n).heads = s.heads := rfl

@[simp] theorem State.removeGrant_portA (s : State) (n : Nat) :
    (s.removeGrant n).portA = s.portA := rfl

@[simp] theorem State.removeGrant_portB (s : State) (n : Nat) :
    (s.removeGrant n).portB = s.portB := rfl

@[simp] theorem State.removeGrant_gate (s : State) (n : Nat) :
    (s.removeGrant n).gate = s.gate := rfl

@[simp] theorem State.removeGrant_latches (s : State) (n : Nat) :
    (s.removeGrant n).latches = s.latches := rfl

@[simp] theorem State.removeGrant_counters (s : State) (n : Nat) :
    (s.removeGrant n).counters = s.counters := rfl

@[simp] theorem State.removeGrant_line (s : State) (n : Nat) :
    (s.removeGrant n).line = s.line := rfl

@[simp] theorem State.removeGrant_pending (s : State) (n : Nat) :
    (s.removeGrant n).pending = s.pending := rfl

/-! `occur` -/

@[simp] theorem State.occur_loader (s : State) (e : EventSource) (d : Byte) :
    (s.occur e d).loader = s.loader := rfl

@[simp] theorem State.occur_clock (s : State) (e : EventSource) (d : Byte) :
    (s.occur e d).clock = s.clock := rfl

@[simp] theorem State.occur_peers (s : State) (e : EventSource) (d : Byte) :
    (s.occur e d).peers = s.peers := rfl

@[simp] theorem State.occur_cabinet (s : State) (e : EventSource) (d : Byte) :
    (s.occur e d).cabinet = s.cabinet := rfl

@[simp] theorem State.occur_tracking (s : State) (e : EventSource) (d : Byte) :
    (s.occur e d).tracking = s.tracking := rfl

@[simp] theorem State.occur_heads (s : State) (e : EventSource) (d : Byte) :
    (s.occur e d).heads = s.heads := rfl

@[simp] theorem State.occur_portA (s : State) (e : EventSource) (d : Byte) :
    (s.occur e d).portA = s.portA := rfl

@[simp] theorem State.occur_portB (s : State) (e : EventSource) (d : Byte) :
    (s.occur e d).portB = s.portB := rfl

@[simp] theorem State.occur_gate (s : State) (e : EventSource) (d : Byte) :
    (s.occur e d).gate = s.gate := rfl

@[simp] theorem State.occur_access (s : State) (e : EventSource) (d : Byte) :
    (s.occur e d).access = s.access := rfl

@[simp] theorem State.occur_counters (s : State) (e : EventSource) (d : Byte) :
    (s.occur e d).counters = s.counters := rfl

@[simp] theorem State.occur_line (s : State) (e : EventSource) (d : Byte) :
    (s.occur e d).line = s.line := rfl

@[simp] theorem State.occur_pending (s : State) (e : EventSource) (d : Byte) :
    (s.occur e d).pending = s.pending := rfl

/-! `count` -/

@[simp] theorem State.count_loader (s : State) (c : Counter) :
    (s.count c).loader = s.loader := rfl

@[simp] theorem State.count_clock (s : State) (c : Counter) :
    (s.count c).clock = s.clock := rfl

@[simp] theorem State.count_peers (s : State) (c : Counter) :
    (s.count c).peers = s.peers := rfl

@[simp] theorem State.count_cabinet (s : State) (c : Counter) :
    (s.count c).cabinet = s.cabinet := rfl

@[simp] theorem State.count_tracking (s : State) (c : Counter) :
    (s.count c).tracking = s.tracking := rfl

@[simp] theorem State.count_heads (s : State) (c : Counter) :
    (s.count c).heads = s.heads := rfl

@[simp] theorem State.count_portA (s : State) (c : Counter) :
    (s.count c).portA = s.portA := rfl

@[simp] theorem State.count_portB (s : State) (c : Counter) :
    (s.count c).portB = s.portB := rfl

@[simp] theorem State.count_gate (s : State) (c : Counter) :
    (s.count c).gate = s.gate := rfl

@[simp] theorem State.count_access (s : State) (c : Counter) :
    (s.count c).access = s.access := rfl

@[simp] theorem State.count_latches (s : State) (c : Counter) :
    (s.count c).latches = s.latches := rfl

@[simp] theorem State.count_line (s : State) (c : Counter) :
    (s.count c).line = s.line := rfl

@[simp] theorem State.count_pending (s : State) (c : Counter) :
    (s.count c).pending = s.pending := rfl

/-! `onLine` -/

@[simp] theorem State.onLine_loader (s : State) (f : LinePort → LinePort) :
    (s.onLine f).loader = s.loader := rfl

@[simp] theorem State.onLine_clock (s : State) (f : LinePort → LinePort) :
    (s.onLine f).clock = s.clock := rfl

@[simp] theorem State.onLine_peers (s : State) (f : LinePort → LinePort) :
    (s.onLine f).peers = s.peers := rfl

@[simp] theorem State.onLine_cabinet (s : State) (f : LinePort → LinePort) :
    (s.onLine f).cabinet = s.cabinet := rfl

@[simp] theorem State.onLine_tracking (s : State) (f : LinePort → LinePort) :
    (s.onLine f).tracking = s.tracking := rfl

@[simp] theorem State.onLine_heads (s : State) (f : LinePort → LinePort) :
    (s.onLine f).heads = s.heads := rfl

@[simp] theorem State.onLine_portA (s : State) (f : LinePort → LinePort) :
    (s.onLine f).portA = s.portA := rfl

@[simp] theorem State.onLine_portB (s : State) (f : LinePort → LinePort) :
    (s.onLine f).portB = s.portB := rfl

@[simp] theorem State.onLine_gate (s : State) (f : LinePort → LinePort) :
    (s.onLine f).gate = s.gate := rfl

@[simp] theorem State.onLine_access (s : State) (f : LinePort → LinePort) :
    (s.onLine f).access = s.access := rfl

@[simp] theorem State.onLine_latches (s : State) (f : LinePort → LinePort) :
    (s.onLine f).latches = s.latches := rfl

@[simp] theorem State.onLine_counters (s : State) (f : LinePort → LinePort) :
    (s.onLine f).counters = s.counters := rfl

@[simp] theorem State.onLine_pending (s : State) (f : LinePort → LinePort) :
    (s.onLine f).pending = s.pending := rfl

/-! `setLatch` -/

@[simp] theorem State.setLatch_loader (s : State) (n : Nat) (f : Latch → Latch) :
    (s.setLatch n f).loader = s.loader := rfl

@[simp] theorem State.setLatch_clock (s : State) (n : Nat) (f : Latch → Latch) :
    (s.setLatch n f).clock = s.clock := rfl

@[simp] theorem State.setLatch_peers (s : State) (n : Nat) (f : Latch → Latch) :
    (s.setLatch n f).peers = s.peers := rfl

@[simp] theorem State.setLatch_cabinet (s : State) (n : Nat) (f : Latch → Latch) :
    (s.setLatch n f).cabinet = s.cabinet := rfl

@[simp] theorem State.setLatch_tracking (s : State) (n : Nat) (f : Latch → Latch) :
    (s.setLatch n f).tracking = s.tracking := rfl

@[simp] theorem State.setLatch_heads (s : State) (n : Nat) (f : Latch → Latch) :
    (s.setLatch n f).heads = s.heads := rfl

@[simp] theorem State.setLatch_portA (s : State) (n : Nat) (f : Latch → Latch) :
    (s.setLatch n f).portA = s.portA := rfl

@[simp] theorem State.setLatch_portB (s : State) (n : Nat) (f : Latch → Latch) :
    (s.setLatch n f).portB = s.portB := rfl

@[simp] theorem State.setLatch_gate (s : State) (n : Nat) (f : Latch → Latch) :
    (s.setLatch n f).gate = s.gate := rfl

@[simp] theorem State.setLatch_access (s : State) (n : Nat) (f : Latch → Latch) :
    (s.setLatch n f).access = s.access := rfl

@[simp] theorem State.setLatch_counters (s : State) (n : Nat) (f : Latch → Latch) :
    (s.setLatch n f).counters = s.counters := rfl

@[simp] theorem State.setLatch_line (s : State) (n : Nat) (f : Latch → Latch) :
    (s.setLatch n f).line = s.line := rfl

@[simp] theorem State.setLatch_pending (s : State) (n : Nat) (f : Latch → Latch) :
    (s.setLatch n f).pending = s.pending := rfl

/-! `releaseFrame` -/

@[simp] theorem State.releaseFrame_loader (s : State) :
    (s.releaseFrame).loader = s.loader := rfl

@[simp] theorem State.releaseFrame_clock (s : State) :
    (s.releaseFrame).clock = s.clock := rfl

@[simp] theorem State.releaseFrame_peers (s : State) :
    (s.releaseFrame).peers = s.peers := rfl

@[simp] theorem State.releaseFrame_cabinet (s : State) :
    (s.releaseFrame).cabinet = s.cabinet := rfl

@[simp] theorem State.releaseFrame_tracking (s : State) :
    (s.releaseFrame).tracking = s.tracking := rfl

@[simp] theorem State.releaseFrame_heads (s : State) :
    (s.releaseFrame).heads = s.heads := rfl

@[simp] theorem State.releaseFrame_portA (s : State) :
    (s.releaseFrame).portA = s.portA := rfl

@[simp] theorem State.releaseFrame_portB (s : State) :
    (s.releaseFrame).portB = s.portB := rfl

@[simp] theorem State.releaseFrame_gate (s : State) :
    (s.releaseFrame).gate = s.gate := rfl

@[simp] theorem State.releaseFrame_access (s : State) :
    (s.releaseFrame).access = s.access := rfl

@[simp] theorem State.releaseFrame_latches (s : State) :
    (s.releaseFrame).latches = s.latches := rfl

@[simp] theorem State.releaseFrame_counters (s : State) :
    (s.releaseFrame).counters = s.counters := rfl

@[simp] theorem State.releaseFrame_pending (s : State) :
    (s.releaseFrame).pending = s.pending := rfl

/-! `clearMarks` -/

@[simp] theorem State.clearMarks_loader (s : State) :
    (s.clearMarks).loader = s.loader := rfl

@[simp] theorem State.clearMarks_clock (s : State) :
    (s.clearMarks).clock = s.clock := rfl

@[simp] theorem State.clearMarks_cabinet (s : State) :
    (s.clearMarks).cabinet = s.cabinet := rfl

@[simp] theorem State.clearMarks_tracking (s : State) :
    (s.clearMarks).tracking = s.tracking := rfl

@[simp] theorem State.clearMarks_heads (s : State) :
    (s.clearMarks).heads = s.heads := rfl

@[simp] theorem State.clearMarks_portA (s : State) :
    (s.clearMarks).portA = s.portA := rfl

@[simp] theorem State.clearMarks_portB (s : State) :
    (s.clearMarks).portB = s.portB := rfl

@[simp] theorem State.clearMarks_gate (s : State) :
    (s.clearMarks).gate = s.gate := rfl

@[simp] theorem State.clearMarks_access (s : State) :
    (s.clearMarks).access = s.access := rfl

@[simp] theorem State.clearMarks_latches (s : State) :
    (s.clearMarks).latches = s.latches := rfl

@[simp] theorem State.clearMarks_counters (s : State) :
    (s.clearMarks).counters = s.counters := rfl

@[simp] theorem State.clearMarks_line (s : State) :
    (s.clearMarks).line = s.line := rfl

@[simp] theorem State.clearMarks_pending (s : State) :
    (s.clearMarks).pending = s.pending := rfl

/-! `advanceDue` -/

@[simp] theorem State.advanceDue_loader (s : State) :
    (s.advanceDue).loader = s.loader := rfl

@[simp] theorem State.advanceDue_peers (s : State) :
    (s.advanceDue).peers = s.peers := rfl

@[simp] theorem State.advanceDue_cabinet (s : State) :
    (s.advanceDue).cabinet = s.cabinet := rfl

@[simp] theorem State.advanceDue_tracking (s : State) :
    (s.advanceDue).tracking = s.tracking := rfl

@[simp] theorem State.advanceDue_heads (s : State) :
    (s.advanceDue).heads = s.heads := rfl

@[simp] theorem State.advanceDue_portA (s : State) :
    (s.advanceDue).portA = s.portA := rfl

@[simp] theorem State.advanceDue_portB (s : State) :
    (s.advanceDue).portB = s.portB := rfl

@[simp] theorem State.advanceDue_gate (s : State) :
    (s.advanceDue).gate = s.gate := rfl

@[simp] theorem State.advanceDue_access (s : State) :
    (s.advanceDue).access = s.access := rfl

@[simp] theorem State.advanceDue_latches (s : State) :
    (s.advanceDue).latches = s.latches := rfl

@[simp] theorem State.advanceDue_counters (s : State) :
    (s.advanceDue).counters = s.counters := rfl

@[simp] theorem State.advanceDue_line (s : State) :
    (s.advanceDue).line = s.line := rfl

@[simp] theorem State.advanceDue_pending (s : State) :
    (s.advanceDue).pending = s.pending := rfl

/-! `clearCounters` -/

@[simp] theorem State.clearCounters_loader (s : State) (is : List Nat) :
    (s.clearCounters is).loader = s.loader := rfl

@[simp] theorem State.clearCounters_clock (s : State) (is : List Nat) :
    (s.clearCounters is).clock = s.clock := rfl

@[simp] theorem State.clearCounters_peers (s : State) (is : List Nat) :
    (s.clearCounters is).peers = s.peers := rfl

@[simp] theorem State.clearCounters_cabinet (s : State) (is : List Nat) :
    (s.clearCounters is).cabinet = s.cabinet := rfl

@[simp] theorem State.clearCounters_tracking (s : State) (is : List Nat) :
    (s.clearCounters is).tracking = s.tracking := rfl

@[simp] theorem State.clearCounters_heads (s : State) (is : List Nat) :
    (s.clearCounters is).heads = s.heads := rfl

@[simp] theorem State.clearCounters_portA (s : State) (is : List Nat) :
    (s.clearCounters is).portA = s.portA := rfl

@[simp] theorem State.clearCounters_portB (s : State) (is : List Nat) :
    (s.clearCounters is).portB = s.portB := rfl

@[simp] theorem State.clearCounters_gate (s : State) (is : List Nat) :
    (s.clearCounters is).gate = s.gate := rfl

@[simp] theorem State.clearCounters_access (s : State) (is : List Nat) :
    (s.clearCounters is).access = s.access := rfl

@[simp] theorem State.clearCounters_latches (s : State) (is : List Nat) :
    (s.clearCounters is).latches = s.latches := rfl

@[simp] theorem State.clearCounters_line (s : State) (is : List Nat) :
    (s.clearCounters is).line = s.line := rfl

@[simp] theorem State.clearCounters_pending (s : State) (is : List Nat) :
    (s.clearCounters is).pending = s.pending := rfl

/-! `announce` -/

@[simp] theorem State.announce_loader (s : State) :
    (s.announce).loader = s.loader := by unfold State.announce; split <;> [(split <;> rfl); rfl]

@[simp] theorem State.announce_clock (s : State) :
    (s.announce).clock = s.clock := by unfold State.announce; split <;> [(split <;> rfl); rfl]

@[simp] theorem State.announce_peers (s : State) :
    (s.announce).peers = s.peers := by unfold State.announce; split <;> [(split <;> rfl); rfl]

@[simp] theorem State.announce_cabinet (s : State) :
    (s.announce).cabinet = s.cabinet := by unfold State.announce; split <;> [(split <;> rfl); rfl]

@[simp] theorem State.announce_tracking (s : State) :
    (s.announce).tracking = s.tracking := by unfold State.announce; split <;> [(split <;> rfl); rfl]

@[simp] theorem State.announce_heads (s : State) :
    (s.announce).heads = s.heads := by unfold State.announce; split <;> [(split <;> rfl); rfl]

@[simp] theorem State.announce_portA (s : State) :
    (s.announce).portA = s.portA := by unfold State.announce; split <;> [(split <;> rfl); rfl]

@[simp] theorem State.announce_portB (s : State) :
    (s.announce).portB = s.portB := by unfold State.announce; split <;> [(split <;> rfl); rfl]

@[simp] theorem State.announce_gate (s : State) :
    (s.announce).gate = s.gate := by unfold State.announce; split <;> [(split <;> rfl); rfl]

@[simp] theorem State.announce_access (s : State) :
    (s.announce).access = s.access := by unfold State.announce; split <;> [(split <;> rfl); rfl]

@[simp] theorem State.announce_latches (s : State) :
    (s.announce).latches = s.latches := by unfold State.announce; split <;> [(split <;> rfl); rfl]

@[simp] theorem State.announce_counters (s : State) :
    (s.announce).counters = s.counters := by unfold State.announce; split <;> [(split <;> rfl); rfl]

@[simp] theorem State.announce_pending (s : State) :
    (s.announce).pending = s.pending := by unfold State.announce; split <;> [(split <;> rfl); rfl]

/-! `txDrop` -/

@[simp] theorem State.txDrop_loader (s : State) (k : FrameKind) :
    (s.txDrop k).loader = s.loader := rfl

@[simp] theorem State.txDrop_clock (s : State) (k : FrameKind) :
    (s.txDrop k).clock = s.clock := rfl

@[simp] theorem State.txDrop_peers (s : State) (k : FrameKind) :
    (s.txDrop k).peers = s.peers := rfl

@[simp] theorem State.txDrop_cabinet (s : State) (k : FrameKind) :
    (s.txDrop k).cabinet = s.cabinet := rfl

@[simp] theorem State.txDrop_tracking (s : State) (k : FrameKind) :
    (s.txDrop k).tracking = s.tracking := rfl

@[simp] theorem State.txDrop_heads (s : State) (k : FrameKind) :
    (s.txDrop k).heads = s.heads := rfl

@[simp] theorem State.txDrop_portA (s : State) (k : FrameKind) :
    (s.txDrop k).portA = s.portA := rfl

@[simp] theorem State.txDrop_portB (s : State) (k : FrameKind) :
    (s.txDrop k).portB = s.portB := rfl

@[simp] theorem State.txDrop_gate (s : State) (k : FrameKind) :
    (s.txDrop k).gate = s.gate := rfl

@[simp] theorem State.txDrop_access (s : State) (k : FrameKind) :
    (s.txDrop k).access = s.access := rfl

@[simp] theorem State.txDrop_line (s : State) (k : FrameKind) :
    (s.txDrop k).line = s.line := rfl

@[simp] theorem State.txDrop_pending (s : State) (k : FrameKind) :
    (s.txDrop k).pending = s.pending := rfl

/-! `discard` -/

@[simp] theorem State.discard_loader (s : State) :
    (s.discard).loader = s.loader := rfl

@[simp] theorem State.discard_clock (s : State) :
    (s.discard).clock = s.clock := rfl

@[simp] theorem State.discard_peers (s : State) :
    (s.discard).peers = s.peers := rfl

@[simp] theorem State.discard_cabinet (s : State) :
    (s.discard).cabinet = s.cabinet := rfl

@[simp] theorem State.discard_tracking (s : State) :
    (s.discard).tracking = s.tracking := rfl

@[simp] theorem State.discard_heads (s : State) :
    (s.discard).heads = s.heads := rfl

@[simp] theorem State.discard_portA (s : State) :
    (s.discard).portA = s.portA := rfl

@[simp] theorem State.discard_portB (s : State) :
    (s.discard).portB = s.portB := rfl

@[simp] theorem State.discard_gate (s : State) :
    (s.discard).gate = s.gate := rfl

@[simp] theorem State.discard_access (s : State) :
    (s.discard).access = s.access := rfl

@[simp] theorem State.discard_latches (s : State) :
    (s.discard).latches = s.latches := rfl

@[simp] theorem State.discard_line (s : State) :
    (s.discard).line = s.line := rfl

@[simp] theorem State.discard_pending (s : State) :
    (s.discard).pending = s.pending := rfl

/-! `lineFault` -/

@[simp] theorem State.lineFault_loader (s : State) (k : FrameKind) :
    (s.lineFault k).loader = s.loader := rfl

@[simp] theorem State.lineFault_clock (s : State) (k : FrameKind) :
    (s.lineFault k).clock = s.clock := rfl

@[simp] theorem State.lineFault_peers (s : State) (k : FrameKind) :
    (s.lineFault k).peers = s.peers := rfl

@[simp] theorem State.lineFault_cabinet (s : State) (k : FrameKind) :
    (s.lineFault k).cabinet = s.cabinet := rfl

@[simp] theorem State.lineFault_tracking (s : State) (k : FrameKind) :
    (s.lineFault k).tracking = s.tracking := rfl

@[simp] theorem State.lineFault_heads (s : State) (k : FrameKind) :
    (s.lineFault k).heads = s.heads := rfl

@[simp] theorem State.lineFault_portA (s : State) (k : FrameKind) :
    (s.lineFault k).portA = s.portA := rfl

@[simp] theorem State.lineFault_portB (s : State) (k : FrameKind) :
    (s.lineFault k).portB = s.portB := rfl

@[simp] theorem State.lineFault_gate (s : State) (k : FrameKind) :
    (s.lineFault k).gate = s.gate := rfl

@[simp] theorem State.lineFault_access (s : State) (k : FrameKind) :
    (s.lineFault k).access = s.access := rfl

@[simp] theorem State.lineFault_counters (s : State) (k : FrameKind) :
    (s.lineFault k).counters = s.counters := rfl

@[simp] theorem State.lineFault_line (s : State) (k : FrameKind) :
    (s.lineFault k).line = s.line := rfl

@[simp] theorem State.lineFault_pending (s : State) (k : FrameKind) :
    (s.lineFault k).pending = s.pending := rfl

/-! `placeBeacon` -/

@[simp] theorem State.placeBeacon_loader (s : State) :
    (s.placeBeacon).loader = s.loader := by unfold State.placeBeacon; split <;> rfl

@[simp] theorem State.placeBeacon_clock (s : State) :
    (s.placeBeacon).clock = s.clock := by unfold State.placeBeacon; split <;> rfl

@[simp] theorem State.placeBeacon_peers (s : State) :
    (s.placeBeacon).peers = s.peers := by unfold State.placeBeacon; split <;> rfl

@[simp] theorem State.placeBeacon_cabinet (s : State) :
    (s.placeBeacon).cabinet = s.cabinet := by unfold State.placeBeacon; split <;> rfl

@[simp] theorem State.placeBeacon_tracking (s : State) :
    (s.placeBeacon).tracking = s.tracking := by unfold State.placeBeacon; split <;> rfl

@[simp] theorem State.placeBeacon_heads (s : State) :
    (s.placeBeacon).heads = s.heads := by unfold State.placeBeacon; split <;> rfl

@[simp] theorem State.placeBeacon_portA (s : State) :
    (s.placeBeacon).portA = s.portA := by unfold State.placeBeacon; split <;> rfl

@[simp] theorem State.placeBeacon_portB (s : State) :
    (s.placeBeacon).portB = s.portB := by unfold State.placeBeacon; split <;> rfl

@[simp] theorem State.placeBeacon_gate (s : State) :
    (s.placeBeacon).gate = s.gate := by unfold State.placeBeacon; split <;> rfl

@[simp] theorem State.placeBeacon_access (s : State) :
    (s.placeBeacon).access = s.access := by unfold State.placeBeacon; split <;> rfl

@[simp] theorem State.placeBeacon_latches (s : State) :
    (s.placeBeacon).latches = s.latches := by unfold State.placeBeacon; split <;> rfl

@[simp] theorem State.placeBeacon_counters (s : State) :
    (s.placeBeacon).counters = s.counters := by unfold State.placeBeacon; split <;> rfl

@[simp] theorem State.placeBeacon_pending (s : State) :
    (s.placeBeacon).pending = s.pending := by unfold State.placeBeacon; split <;> rfl

/-! `withFirings` -/

@[simp] theorem State.withFirings_loader (s : State) (l : List Firing) :
    (s.withFirings l).loader = s.loader := rfl

@[simp] theorem State.withFirings_clock (s : State) (l : List Firing) :
    (s.withFirings l).clock = s.clock := rfl

@[simp] theorem State.withFirings_peers (s : State) (l : List Firing) :
    (s.withFirings l).peers = s.peers := rfl

@[simp] theorem State.withFirings_cabinet (s : State) (l : List Firing) :
    (s.withFirings l).cabinet = s.cabinet := rfl

@[simp] theorem State.withFirings_tracking (s : State) (l : List Firing) :
    (s.withFirings l).tracking = s.tracking := rfl

@[simp] theorem State.withFirings_heads (s : State) (l : List Firing) :
    (s.withFirings l).heads = s.heads := rfl

@[simp] theorem State.withFirings_portA (s : State) (l : List Firing) :
    (s.withFirings l).portA = s.portA := rfl

@[simp] theorem State.withFirings_portB (s : State) (l : List Firing) :
    (s.withFirings l).portB = s.portB := rfl

@[simp] theorem State.withFirings_access (s : State) (l : List Firing) :
    (s.withFirings l).access = s.access := rfl

@[simp] theorem State.withFirings_latches (s : State) (l : List Firing) :
    (s.withFirings l).latches = s.latches := rfl

@[simp] theorem State.withFirings_counters (s : State) (l : List Firing) :
    (s.withFirings l).counters = s.counters := rfl

@[simp] theorem State.withFirings_line (s : State) (l : List Firing) :
    (s.withFirings l).line = s.line := rfl

@[simp] theorem State.withFirings_pending (s : State) (l : List Firing) :
    (s.withFirings l).pending = s.pending := rfl

@[simp] theorem State.withFirings_confirm (s : State) (l : List Firing) :
    (s.withFirings l).gate.confirm = s.gate.confirm := rfl

@[simp] theorem State.withFirings_unconfirmed (s : State) (l : List Firing) :
    (s.withFirings l).gate.unconfirmed = s.gate.unconfirmed := rfl

@[simp] theorem State.withFirings_fault (s : State) (l : List Firing) :
    (s.withFirings l).gate.fault = s.gate.fault := rfl

/-! The pins of one local microsecond -/

@[simp] theorem CameraPort.readResult_tag (c : CameraPort) (code : Nat) (high : Bool) :
    (c.readResult code high).tag = c.tag := rfl

@[simp] theorem CameraPort.readResult_pending (c : CameraPort) (code : Nat) (high : Bool) :
    (c.readResult code high).pending = c.pending := rfl

@[simp] theorem CameraPort.readResult_trigger (c : CameraPort) (code : Nat) (high : Bool) :
    (c.readResult code high).trigger = c.trigger := rfl

@[simp] theorem CameraPort.readResult_guard (c : CameraPort) (code : Nat) (high : Bool) :
    (c.readResult code high).guard = c.guard := rfl

@[simp] theorem CameraPort.readResult_triggerOut (c : CameraPort) (code : Nat) (high : Bool) :
    (c.readResult code high).triggerOut = c.triggerOut := rfl

@[simp] theorem CameraPort.readResult_schedule (c : CameraPort) (code : Nat) (high : Bool) :
    (c.readResult code high).schedule = c.schedule := rfl

@[simp] theorem CameraPort.readResult_strobe (c : CameraPort) (code : Nat) (high : Bool) :
    (c.readResult code high).strobe = c.strobe := rfl

@[simp] theorem CameraPort.readResult_strobeOut (c : CameraPort) (code : Nat) (high : Bool) :
    (c.readResult code high).strobeOut = c.strobeOut := rfl

@[simp] theorem CameraPort.readResult_offTimer (c : CameraPort) (code : Nat) (high : Bool) :
    (c.readResult code high).offTimer = c.offTimer := rfl

@[simp] theorem CameraPort.readResult_assembler (c : CameraPort) (code : Nat) (high : Bool) :
    (c.readResult code high).assembler = c.assembler := rfl

@[simp] theorem CameraPort.readResult_busy (c : CameraPort) (code : Nat) (high : Bool) :
    (c.readResult code high).busy = c.busy := rfl

@[simp] theorem CameraPort.readResult_pattern (c : CameraPort) (code : Nat) (high : Bool) :
    (c.readResult code high).pattern = c.pattern := rfl

@[simp] theorem Head.tick_ready (h : Head) (ready meter : Bool) : (h.tick ready meter).ready = h.ready := rfl

@[simp] theorem Head.tick_readySample (h : Head) (ready meter : Bool) : (h.tick ready meter).readySample = ready := rfl

@[simp] theorem Head.tick_meterSample (h : Head) (ready meter : Bool) : (h.tick ready meter).meterSample = meter := rfl

@[simp] theorem Head.tick_meterRose (h : Head) (ready meter : Bool) : (h.tick ready meter).meterRose = (meter && !h.meterSample) := rfl

@[simp] theorem Head.tick_production (h : Head) (ready meter : Bool) : (h.tick ready meter).production = h.production := rfl

@[simp] theorem Head.tick_dose (h : Head) (ready meter : Bool) : (h.tick ready meter).dose = h.dose := rfl

@[simp] theorem Head.tick_jog (h : Head) (ready meter : Bool) : (h.tick ready meter).jog = h.jog := rfl

@[simp] theorem Head.tick_pulseOut (h : Head) (ready meter : Bool) : (h.tick ready meter).pulseOut = h.pulseOut := rfl

@[simp] theorem Head.tick_enableOut (h : Head) (ready meter : Bool) : (h.tick ready meter).enableOut = h.enableOut := rfl

@[simp] theorem Head.tick_fault (h : Head) (ready meter : Bool) : (h.tick ready meter).fault = h.fault.tick := rfl

@[simp] theorem Head.tick_train (h : Head) (ready meter : Bool) : (h.tick ready meter).train = h.train.tick := rfl

@[simp] theorem Head.meterPulse_fault (h : Head) : h.meterPulse.fault = h.fault := rfl

@[simp] theorem Head.meterPulse_ready (h : Head) : h.meterPulse.ready = h.ready := rfl

@[simp] theorem Head.meterPulse_readySample (h : Head) : h.meterPulse.readySample = h.readySample := rfl

@[simp] theorem Head.meterPulse_meterSample (h : Head) : h.meterPulse.meterSample = h.meterSample := rfl

@[simp] theorem Head.meterPulse_production (h : Head) : h.meterPulse.production = h.production := rfl

@[simp] theorem Head.meterPulse_dose (h : Head) : h.meterPulse.dose = h.dose := rfl

@[simp] theorem Head.meterPulse_train (h : Head) : h.meterPulse.train = h.train := rfl

@[simp] theorem Head.meterPulse_pulseOut (h : Head) : h.meterPulse.pulseOut = h.pulseOut := rfl

@[simp] theorem Head.meterPulse_enableOut (h : Head) : h.meterPulse.enableOut = h.enableOut := rfl

@[simp] theorem Head.meterPulse_meterRose (h : Head) : h.meterPulse.meterRose = false := rfl

@[simp] theorem CameraPort.tick_tag (c : CameraPort) : c.tick.tag = c.tag := rfl

@[simp] theorem CameraPort.tick_pending (c : CameraPort) : c.tick.pending = c.pending := rfl

@[simp] theorem CameraPort.tick_triggerOut (c : CameraPort) : c.tick.triggerOut = c.triggerOut := rfl

@[simp] theorem CameraPort.tick_strobeOut (c : CameraPort) : c.tick.strobeOut = c.strobeOut := rfl

@[simp] theorem CameraPort.tick_receiver (c : CameraPort) : c.tick.receiver = c.receiver := rfl

@[simp] theorem CameraPort.tick_assembler (c : CameraPort) : c.tick.assembler = c.assembler := rfl

@[simp] theorem CameraPort.tick_interByte (c : CameraPort) : c.tick.interByte = c.interByte := rfl

@[simp] theorem CameraPort.tick_busy (c : CameraPort) : c.tick.busy = c.busy := rfl

@[simp] theorem CameraPort.tick_pattern (c : CameraPort) : c.tick.pattern = c.pattern := rfl

@[simp] theorem Attempt.hears_candidate (a : Attempt) (recessive : Bool) :
    (a.hears recessive).candidate = a.candidate := by unfold Attempt.hears; split <;> rfl

@[simp] theorem Attempt.hears_bytes (a : Attempt) (recessive : Bool) :
    (a.hears recessive).bytes = a.bytes := by unfold Attempt.hears; split <;> rfl

/-! What the updated field holds -/

@[simp] theorem State.withFirings_firings (s : State) (l : List Firing) : (s.withFirings l).gate.firings = l := rfl

@[simp] theorem State.withFirings_output (s : State) (l : List Firing) :
    (s.withFirings l).gate.output = l.any Firing.isOn := rfl

@[simp] theorem CameraPort.readResult_receiver (c : CameraPort) (code : Nat) (high : Bool) :
    (c.readResult code high).receiver = c.receiver.step code high := rfl

@[simp] theorem Debouncer.settle_state (d : Debouncer) : d.settle.state = d.raw := rfl

@[simp] theorem Debouncer.settle_moved (d : Debouncer) : d.settle.moved = true := rfl

@[simp] theorem State.setHead_heads (s : State) (h : Nat) (f : Head → Head) :
    (s.setHead h f).heads = s.heads.modify h f := rfl

@[simp] theorem State.setPeer_peers (s : State) (a : Nat) (f : Peer → Peer) :
    (s.setPeer a f).peers = s.peers.modify (a - 1) f := rfl

@[simp] theorem State.setPort_port (s : State) (p : Port) (f : CameraPort → CameraPort) :
    (s.setPort p f).port p = f (s.port p) := by cases p <;> rfl

@[simp] theorem State.setPort_a_b (s : State) (f : CameraPort → CameraPort) : (s.setPort .a f).portB = s.portB := rfl

@[simp] theorem State.setPort_b_a (s : State) (f : CameraPort → CameraPort) : (s.setPort .b f).portA = s.portA := rfl

@[simp] theorem State.onLine_line (s : State) (f : LinePort → LinePort) : (s.onLine f).line = f s.line := rfl

@[simp] theorem State.count_counters (s : State) (c : Counter) :
    (s.count c).counters = s.counters.modify (counterIndex c) fun n => saturate 65535 (n + 1) := rfl

@[simp] theorem State.occur_latches (s : State) (e : EventSource) (d : Byte) :
    (s.occur e d).latches = s.latches.modify (sourceNumber e) fun l => l.occur s.now s.clock.localTime d := rfl

@[simp] theorem State.updateRecord_records (s : State) (n : Word32) (f : Record → Record) :
    (s.updateRecord n f).tracking.records = s.tracking.records.map fun r => if r.sequence = n then f r else r := rfl

@[simp] theorem State.updateRecord_arrivals (s : State) (n : Word32) (f : Record → Record) :
    (s.updateRecord n f).tracking.arrivals = s.tracking.arrivals := rfl

@[simp] theorem State.setGrant_lockMode (s : State) (n : Nat) (f : Grant → Grant) :
    (s.setGrant n f).access.lockMode = s.access.lockMode := rfl

@[simp] theorem State.setGrant_grants (s : State) (n : Nat) (f : Grant → Grant) :
    (s.setGrant n f).access.grants = s.access.grants.map fun g => if g.number = n then f g else g := rfl

@[simp] theorem State.removeGrant_grants (s : State) (n : Nat) :
    (s.removeGrant n).access.grants = s.access.grants.filter fun g => g.number != n := rfl

/-! ## The receiver of the hall line (R161) -/

@[simp] theorem Receiver.collected_watching : Receiver.watching.collected = none := rfl

@[simp] theorem Receiver.collected_waitRecessive : Receiver.waitRecessive.collected = none := rfl

@[simp] theorem Receiver.collected_collecting (stamp : Time) (frame : Collecting) :
    (Receiver.collecting stamp frame).collected = frame.ended := rfl

@[simp] theorem Receiver.hears_watching (recessive : Bool) (idle : Nat) :
    Receiver.watching.hears recessive idle = .watching := rfl

@[simp] theorem Receiver.hears_collecting (stamp : Time) (frame : Collecting) (recessive : Bool) (idle : Nat) :
    (Receiver.collecting stamp frame).hears recessive idle = .collecting stamp (frame.step recessive) := rfl

@[simp] theorem Collecting.begun_eq : Collecting.begun = ⟨.mark 1, 1, 0⟩ := rfl

@[simp] theorem Collecting.step_recessive (c : Collecting) (recessive : Bool) :
    (c.step recessive).recessive = if recessive then c.recessive + 1 else 0 := rfl

@[simp] theorem Collecting.step_dominant (c : Collecting) (recessive : Bool) :
    (c.step recessive).dominant = if recessive then 0 else c.dominant + 1 := rfl

@[simp] theorem LinePort.tick_rx (l : LinePort) (level : LineLevel) :
    (l.tick level).rx = l.rx.hears (isRecessive level) (l.tick level).idle := rfl

@[simp] theorem LinePort.tick_idle (l : LinePort) (level : LineLevel) :
    (l.tick level).idle = match level with
      | .dominant => 0
      | .recessive => l.idle + 1 := rfl

@[simp] theorem State.startAttempt_rx (s : State) (c : Candidate) : (s.startAttempt c).line.rx = s.line.rx := by
  cases c <;> rfl

@[simp] theorem State.startAttempt_idle (s : State) (c : Candidate) : (s.startAttempt c).line.idle = s.line.idle := by
  cases c <;> rfl

end Sys2Proof.Machine
end

