-- ==== Sys2Proof/Laws/Frames.lean ====
section
/-! SUPPORT. What the operations that several commands share leave as it was, one lemma for each field of State. -/

namespace Sys2Proof.Machine

/-! ## Folds -/

/-- A fold whose every step keeps a reading of the state keeps that reading. -/
theorem foldl_keeps {α β : Type} (g : State → α) (f : State → β → State) (h : ∀ s b, g (f s b) = g s) (xs : List β)
    (s : State) : g (xs.foldl f s) = g s := by
  induction xs generalizing s with
  | nil => rfl
  | cons x xs ih => rw [List.foldl_cons, ih, h]

/-- An operation at each fitted head keeps what it keeps at one head. -/
theorem State.forHeads_keeps {α : Type} (g : State → α) (f : Nat → State → State) (h : ∀ n s, g (f n s) = g s)
    (s : State) : g (s.forHeads f) = g s :=
  foldl_keeps g (fun s' n => f n s') (fun s n => h n s) _ s

/-- What the handover of a frame (R168, R169) leaves as it was. -/
@[simp] theorem State.handOver_frame (s : State) (fr : OutFrame) (c : Nat) :
    (s.handOver fr c).loader = s.loader ∧ (s.handOver fr c).clock = s.clock ∧ (s.handOver fr c).peers = s.peers ∧
    (s.handOver fr c).cabinet = s.cabinet ∧ (s.handOver fr c).tracking = s.tracking ∧ (s.handOver fr c).heads = s.heads ∧
    (s.handOver fr c).portA = s.portA ∧ (s.handOver fr c).portB = s.portB ∧ (s.handOver fr c).gate = s.gate ∧
    (s.handOver fr c).access = s.access ∧ (s.handOver fr c).pending = s.pending := by
  simp only [State.handOver]
  repeat' split
  all_goals simp

/-- What a reply leaves as it was. -/
@[simp] theorem State.reply_frame (s : State) (d : Byte) (r : Reply) :
    (s.reply d r).loader = s.loader ∧ (s.reply d r).clock = s.clock ∧ (s.reply d r).peers = s.peers ∧
    (s.reply d r).cabinet = s.cabinet ∧ (s.reply d r).tracking = s.tracking ∧ (s.reply d r).heads = s.heads ∧
    (s.reply d r).portA = s.portA ∧ (s.reply d r).portB = s.portB ∧ (s.reply d r).gate = s.gate ∧
    (s.reply d r).access = s.access ∧ (s.reply d r).pending = s.pending := State.handOver_frame s _ _

/-- What the readiness test (R146) leaves as it was. -/
@[simp] theorem State.testReady_frame (s : State) (h : Nat) :
    (s.testReady h).loader = s.loader ∧ (s.testReady h).clock = s.clock ∧ (s.testReady h).peers = s.peers ∧
    (s.testReady h).cabinet = s.cabinet ∧ (s.testReady h).tracking = s.tracking ∧ (s.testReady h).heads = s.heads ∧
    (s.testReady h).portA = s.portA ∧ (s.testReady h).portB = s.portB ∧ (s.testReady h).gate = s.gate ∧
    (s.testReady h).pending = s.pending := by
  simp only [State.testReady]
  repeat' split
  all_goals simp

/-- What the end of a jog (R97) leaves as it was. -/
@[simp] theorem State.endJog_frame (s : State) (h : Nat) (c : JogCause) :
    (s.endJog h c).loader = s.loader ∧ (s.endJog h c).clock = s.clock ∧ (s.endJog h c).peers = s.peers ∧
    (s.endJog h c).cabinet = s.cabinet ∧ (s.endJog h c).tracking = s.tracking ∧ (s.endJog h c).portA = s.portA ∧
    (s.endJog h c).portB = s.portB ∧ (s.endJog h c).gate = s.gate ∧ (s.endJog h c).access = s.access ∧
    (s.endJog h c).pending = s.pending := by
  unfold State.endJog; split <;> simp

/-- What a stop of a jog (R97) leaves as it was. -/
@[simp] theorem State.stopJog_frame (s : State) (h : Nat) (j : JogInHand) :
    (s.stopJog h j).loader = s.loader ∧ (s.stopJog h j).clock = s.clock ∧ (s.stopJog h j).peers = s.peers ∧
    (s.stopJog h j).cabinet = s.cabinet ∧ (s.stopJog h j).tracking = s.tracking ∧ (s.stopJog h j).portA = s.portA ∧
    (s.stopJog h j).portB = s.portB ∧ (s.stopJog h j).gate = s.gate ∧ (s.stopJog h j).access = s.access ∧
    (s.stopJog h j).pending = s.pending := by
  unfold State.stopJog; split <;> simp

/-- What the result of a dose (R94 step 1) leaves as it was. -/
@[simp] theorem State.deliverFill_frame (s : State) (h : Nat) (n : Word32) (fl : Fill) :
    (s.deliverFill h n fl).loader = s.loader ∧ (s.deliverFill h n fl).clock = s.clock ∧ (s.deliverFill h n fl).peers = s.peers ∧
    (s.deliverFill h n fl).cabinet = s.cabinet ∧ (s.deliverFill h n fl).heads = s.heads ∧ (s.deliverFill h n fl).portA = s.portA ∧
    (s.deliverFill h n fl).portB = s.portB ∧ (s.deliverFill h n fl).gate = s.gate ∧ (s.deliverFill h n fl).access = s.access ∧
    (s.deliverFill h n fl).counters = s.counters ∧ (s.deliverFill h n fl).line = s.line ∧ (s.deliverFill h n fl).pending = s.pending := by
  unfold State.deliverFill; split <;> simp

/-- What the end of a dose (R94) leaves as it was. -/
@[simp] theorem State.endDose_frame (s : State) (h : Nat) (r : FillResult) (m : Nat) :
    (s.endDose h r m).loader = s.loader ∧ (s.endDose h r m).clock = s.clock ∧ (s.endDose h r m).peers = s.peers ∧
    (s.endDose h r m).cabinet = s.cabinet ∧ (s.endDose h r m).portA = s.portA ∧ (s.endDose h r m).portB = s.portB ∧
    (s.endDose h r m).gate = s.gate ∧ (s.endDose h r m).pending = s.pending := by
  simp only [State.endDose]
  repeat' split
  all_goals simp

/-- What suspension (R89) leaves as it was. -/
@[simp] theorem State.suspend_frame (s : State) (h : Nat) :
    (s.suspend h).loader = s.loader ∧ (s.suspend h).clock = s.clock ∧ (s.suspend h).peers = s.peers ∧
    (s.suspend h).cabinet = s.cabinet ∧ (s.suspend h).portA = s.portA ∧ (s.suspend h).portB = s.portB ∧
    (s.suspend h).gate = s.gate ∧ (s.suspend h).pending = s.pending := by
  simp only [State.suspend]
  repeat' split
  all_goals simp

/-- What a fall of run permission at a head (R89, R97) leaves as it was. -/
@[simp] theorem State.permissionLost_frame (s : State) (h : Nat) :
    (s.permissionLost h).loader = s.loader ∧ (s.permissionLost h).clock = s.clock ∧ (s.permissionLost h).peers = s.peers ∧
    (s.permissionLost h).cabinet = s.cabinet ∧ (s.permissionLost h).portA = s.portA ∧ (s.permissionLost h).portB = s.portB ∧
    (s.permissionLost h).gate = s.gate ∧ (s.permissionLost h).pending = s.pending := by
  unfold State.permissionLost; split <;> simp

/-- What a rise of run permission at a head (R90) leaves as it was. -/
@[simp] theorem State.permissionGained_frame (s : State) (h : Nat) :
    (s.permissionGained h).loader = s.loader ∧ (s.permissionGained h).clock = s.clock ∧ (s.permissionGained h).peers = s.peers ∧
    (s.permissionGained h).cabinet = s.cabinet ∧ (s.permissionGained h).tracking = s.tracking ∧ (s.permissionGained h).portA = s.portA ∧
    (s.permissionGained h).portB = s.portB ∧ (s.permissionGained h).gate = s.gate ∧ (s.permissionGained h).access = s.access ∧
    (s.permissionGained h).latches = s.latches ∧ (s.permissionGained h).counters = s.counters ∧ (s.permissionGained h).line = s.line ∧
    (s.permissionGained h).pending = s.pending := by
  unfold State.permissionGained; split <;> simp

/-- What a fall of run permission (R44) leaves as it was. -/
@[simp] theorem State.permissionFalls_frame (s : State) :
    (s.permissionFalls).clock = s.clock ∧ (s.permissionFalls).peers = s.peers ∧ (s.permissionFalls).portA = s.portA ∧
    (s.permissionFalls).portB = s.portB ∧ (s.permissionFalls).gate = s.gate ∧ (s.permissionFalls).pending = s.pending := ⟨by unfold State.permissionFalls; rw [State.forHeads_keeps State.clock _ (fun n s => by simp)]; simp,
    by unfold State.permissionFalls; rw [State.forHeads_keeps State.peers _ (fun n s => by simp)]; simp,
    by unfold State.permissionFalls; rw [State.forHeads_keeps State.portA _ (fun n s => by simp)]; simp,
    by unfold State.permissionFalls; rw [State.forHeads_keeps State.portB _ (fun n s => by simp)]; simp,
    by unfold State.permissionFalls; rw [State.forHeads_keeps State.gate _ (fun n s => by simp)]; simp,
    by unfold State.permissionFalls; rw [State.forHeads_keeps State.pending _ (fun n s => by simp)]; simp⟩

/-- What a rise of run permission (R44) leaves as it was. -/
@[simp] theorem State.permissionRises_frame (s : State) :
    (s.permissionRises).clock = s.clock ∧ (s.permissionRises).peers = s.peers ∧ (s.permissionRises).tracking = s.tracking ∧
    (s.permissionRises).portA = s.portA ∧ (s.permissionRises).portB = s.portB ∧ (s.permissionRises).gate = s.gate ∧
    (s.permissionRises).access = s.access ∧ (s.permissionRises).latches = s.latches ∧ (s.permissionRises).counters = s.counters ∧
    (s.permissionRises).pending = s.pending := ⟨by unfold State.permissionRises; rw [State.forHeads_keeps State.clock _ (fun n s => by simp)]; simp,
    by unfold State.permissionRises; rw [State.forHeads_keeps State.peers _ (fun n s => by simp)]; simp,
    by unfold State.permissionRises; rw [State.forHeads_keeps State.tracking _ (fun n s => by simp)]; simp,
    by unfold State.permissionRises; rw [State.forHeads_keeps State.portA _ (fun n s => by simp)]; simp,
    by unfold State.permissionRises; rw [State.forHeads_keeps State.portB _ (fun n s => by simp)]; simp,
    by unfold State.permissionRises; rw [State.forHeads_keeps State.gate _ (fun n s => by simp)]; simp,
    by unfold State.permissionRises; rw [State.forHeads_keeps State.access _ (fun n s => by simp)]; simp,
    by unfold State.permissionRises; rw [State.forHeads_keeps State.latches _ (fun n s => by simp)]; simp,
    by unfold State.permissionRises; rw [State.forHeads_keeps State.counters _ (fun n s => by simp)]; simp,
    by unfold State.permissionRises; rw [State.forHeads_keeps State.pending _ (fun n s => by simp)]; simp⟩

/-- What run permission follows its conditions (R44) leaves as it was. -/
@[simp] theorem State.followConditions_frame (s : State) :
    (s.followConditions).clock = s.clock ∧ (s.followConditions).peers = s.peers ∧ (s.followConditions).portA = s.portA ∧
    (s.followConditions).portB = s.portB ∧ (s.followConditions).gate = s.gate ∧ (s.followConditions).pending = s.pending := by
  unfold State.followConditions
  repeat' split
  all_goals simp

/-- What one change at each head of a set leaves as it was. -/
@[simp] theorem State.atHeads_frame (s : State) (hs : HeadSet) (f : Head → Head) :
    (s.atHeads hs f).loader = s.loader ∧ (s.atHeads hs f).clock = s.clock ∧ (s.atHeads hs f).peers = s.peers ∧
    (s.atHeads hs f).cabinet = s.cabinet ∧ (s.atHeads hs f).tracking = s.tracking ∧ (s.atHeads hs f).portA = s.portA ∧
    (s.atHeads hs f).portB = s.portB ∧ (s.atHeads hs f).gate = s.gate ∧ (s.atHeads hs f).access = s.access ∧
    (s.atHeads hs f).latches = s.latches ∧ (s.atHeads hs f).counters = s.counters ∧ (s.atHeads hs f).line = s.line ∧
    (s.atHeads hs f).pending = s.pending := ⟨foldl_keeps State.loader _ (fun s b => by split <;> simp) _ s,
    foldl_keeps State.clock _ (fun s b => by split <;> simp) _ s,
    foldl_keeps State.peers _ (fun s b => by split <;> simp) _ s,
    foldl_keeps State.cabinet _ (fun s b => by split <;> simp) _ s,
    foldl_keeps State.tracking _ (fun s b => by split <;> simp) _ s,
    foldl_keeps State.portA _ (fun s b => by split <;> simp) _ s,
    foldl_keeps State.portB _ (fun s b => by split <;> simp) _ s,
    foldl_keeps State.gate _ (fun s b => by split <;> simp) _ s,
    foldl_keeps State.access _ (fun s b => by split <;> simp) _ s,
    foldl_keeps State.latches _ (fun s b => by split <;> simp) _ s,
    foldl_keeps State.counters _ (fun s b => by split <;> simp) _ s,
    foldl_keeps State.line _ (fun s b => by split <;> simp) _ s,
    foldl_keeps State.pending _ (fun s b => by split <;> simp) _ s⟩

/-- What the jogs of a grant end (R149 step 1) leaves as it was. -/
@[simp] theorem State.endJogsOn_frame (s : State) (hs : HeadSet) (c : JogCause) :
    (s.endJogsOn hs c).loader = s.loader ∧ (s.endJogsOn hs c).clock = s.clock ∧ (s.endJogsOn hs c).peers = s.peers ∧
    (s.endJogsOn hs c).cabinet = s.cabinet ∧ (s.endJogsOn hs c).tracking = s.tracking ∧ (s.endJogsOn hs c).portA = s.portA ∧
    (s.endJogsOn hs c).portB = s.portB ∧ (s.endJogsOn hs c).gate = s.gate ∧ (s.endJogsOn hs c).access = s.access ∧
    (s.endJogsOn hs c).pending = s.pending := ⟨foldl_keeps State.loader _ (fun s b => by split <;> simp) _ s,
    foldl_keeps State.clock _ (fun s b => by split <;> simp) _ s,
    foldl_keeps State.peers _ (fun s b => by split <;> simp) _ s,
    foldl_keeps State.cabinet _ (fun s b => by split <;> simp) _ s,
    foldl_keeps State.tracking _ (fun s b => by split <;> simp) _ s,
    foldl_keeps State.portA _ (fun s b => by split <;> simp) _ s,
    foldl_keeps State.portB _ (fun s b => by split <;> simp) _ s,
    foldl_keeps State.gate _ (fun s b => by split <;> simp) _ s,
    foldl_keeps State.access _ (fun s b => by split <;> simp) _ s,
    foldl_keeps State.pending _ (fun s b => by split <;> simp) _ s⟩

/-- What the end of a grant (R149) leaves as it was. -/
@[simp] theorem State.endGrant_frame (s : State) (g : Grant) (r : EndReason) :
    (s.endGrant g r).loader = s.loader ∧ (s.endGrant g r).clock = s.clock ∧ (s.endGrant g r).peers = s.peers ∧
    (s.endGrant g r).cabinet = s.cabinet ∧ (s.endGrant g r).tracking = s.tracking ∧ (s.endGrant g r).portA = s.portA ∧
    (s.endGrant g r).portB = s.portB ∧ (s.endGrant g r).gate = s.gate ∧ (s.endGrant g r).pending = s.pending := by
  simp only [State.endGrant]; split <;> simp

/-- What every grant ends leaves as it was. -/
@[simp] theorem State.endAllGrants_frame (s : State) (r : EndReason) :
    (s.endAllGrants r).loader = s.loader ∧ (s.endAllGrants r).clock = s.clock ∧ (s.endAllGrants r).peers = s.peers ∧
    (s.endAllGrants r).cabinet = s.cabinet ∧ (s.endAllGrants r).tracking = s.tracking ∧ (s.endAllGrants r).portA = s.portA ∧
    (s.endAllGrants r).portB = s.portB ∧ (s.endAllGrants r).gate = s.gate ∧ (s.endAllGrants r).pending = s.pending := ⟨foldl_keeps State.loader _ (fun s g => by simp) _ s,
    foldl_keeps State.clock _ (fun s g => by simp) _ s,
    foldl_keeps State.peers _ (fun s g => by simp) _ s,
    foldl_keeps State.cabinet _ (fun s g => by simp) _ s,
    foldl_keeps State.tracking _ (fun s g => by simp) _ s,
    foldl_keeps State.portA _ (fun s g => by simp) _ s,
    foldl_keeps State.portB _ (fun s g => by simp) _ s,
    foldl_keeps State.gate _ (fun s g => by simp) _ s,
    foldl_keeps State.pending _ (fun s g => by simp) _ s⟩

/-- What entry to HELD (R136) leaves as it was. -/
@[simp] theorem State.enterHeld_frame (s : State) (d : Byte) :
    (s.enterHeld d).loader = s.loader ∧ (s.enterHeld d).clock = s.clock ∧ (s.enterHeld d).peers = s.peers ∧
    (s.enterHeld d).cabinet = s.cabinet ∧ (s.enterHeld d).tracking = s.tracking ∧ (s.enterHeld d).portA = s.portA ∧
    (s.enterHeld d).portB = s.portB ∧ (s.enterHeld d).gate = s.gate ∧ (s.enterHeld d).pending = s.pending := by
  unfold State.enterHeld; split <;> simp

/-- What a door opening judged (R153) leaves as it was. -/
@[simp] theorem State.judgeDoorOpen_frame (s : State) :
    (s.judgeDoorOpen).loader = s.loader ∧ (s.judgeDoorOpen).clock = s.clock ∧ (s.judgeDoorOpen).peers = s.peers ∧
    (s.judgeDoorOpen).cabinet = s.cabinet ∧ (s.judgeDoorOpen).tracking = s.tracking ∧ (s.judgeDoorOpen).portA = s.portA ∧
    (s.judgeDoorOpen).portB = s.portB ∧ (s.judgeDoorOpen).gate = s.gate ∧ (s.judgeDoorOpen).pending = s.pending := by
  simp only [State.judgeDoorOpen]; repeat' split
  all_goals simp

end Sys2Proof.Machine
end

