-- ==== Sys2Proof/Laws/Families.lean ====
section
/-! SUPPORT. What the effect of each family's commands leaves as it was, one lemma for each field of State. -/

namespace Sys2Proof.Machine

/-- What the switch state moves (R34) leaves as it was. -/
@[simp] theorem State.moveSwitch_frame (s : State) (n : SwitchState) (d : Timer) :
    (s.moveSwitch n d).clock = s.clock ∧ (s.moveSwitch n d).peers = s.peers ∧ (s.moveSwitch n d).portA = s.portA ∧
    (s.moveSwitch n d).portB = s.portB ∧ (s.moveSwitch n d).gate = s.gate ∧ (s.moveSwitch n d).pending = s.pending := by
  simp only [State.moveSwitch]
  repeat' split
  all_goals simp

/-- What the pair of channels changes (R34) leaves as it was. -/
@[simp] theorem State.pairChanges_frame (s : State) :
    (s.pairChanges).clock = s.clock ∧ (s.pairChanges).peers = s.peers ∧ (s.pairChanges).portA = s.portA ∧
    (s.pairChanges).portB = s.portB ∧ (s.pairChanges).gate = s.gate ∧ (s.pairChanges).pending = s.pending := by
  simp only [State.pairChanges]
  all_goals simp

/-- What the switch channels (R32, R34) leaves as it was. -/
@[simp] theorem State.takeSwitch_frame (s : State) :
    (s.takeSwitch).clock = s.clock ∧ (s.takeSwitch).peers = s.peers ∧ (s.takeSwitch).portA = s.portA ∧
    (s.takeSwitch).portB = s.portB ∧ (s.takeSwitch).gate = s.gate ∧ (s.takeSwitch).pending = s.pending := by
  simp only [State.takeSwitch]
  repeat' split
  all_goals simp

/-- What the door (R37) leaves as it was. -/
@[simp] theorem State.takeDoor_frame (s : State) :
    (s.takeDoor).clock = s.clock ∧ (s.takeDoor).peers = s.peers ∧ (s.takeDoor).portA = s.portA ∧
    (s.takeDoor).portB = s.portB ∧ (s.takeDoor).gate = s.gate ∧ (s.takeDoor).pending = s.pending := by
  simp only [State.takeDoor]
  repeat' split
  all_goals simp

/-- What the key (R37, R138) leaves as it was. -/
@[simp] theorem State.takeKey_frame (s : State) :
    (s.takeKey).clock = s.clock ∧ (s.takeKey).peers = s.peers ∧ (s.takeKey).portA = s.portA ∧
    (s.takeKey).portB = s.portB ∧ (s.takeKey).gate = s.gate ∧ (s.takeKey).pending = s.pending := by
  simp only [State.takeKey]
  repeat' split
  all_goals simp

/-- What the time quality (R17) leaves as it was. -/
@[simp] theorem State.setQuality_frame (s : State) (q : Quality) :
    (s.setQuality q).loader = s.loader ∧ (s.setQuality q).peers = s.peers ∧ (s.setQuality q).cabinet = s.cabinet ∧
    (s.setQuality q).tracking = s.tracking ∧ (s.setQuality q).heads = s.heads ∧ (s.setQuality q).portA = s.portA ∧
    (s.setQuality q).portB = s.portB ∧ (s.setQuality q).gate = s.gate ∧ (s.setQuality q).access = s.access ∧
    (s.setQuality q).counters = s.counters ∧ (s.setQuality q).line = s.line ∧ (s.setQuality q).pending = s.pending := by
  simp only [State.setQuality]
  repeat' split
  all_goals simp

/-- What the round counters and the quality (R15 to R17) leaves as it was. -/
@[simp] theorem State.moveQuality_frame (s : State) (o : Option Int) (n : Nat) :
    (s.moveQuality o n).loader = s.loader ∧ (s.moveQuality o n).peers = s.peers ∧ (s.moveQuality o n).cabinet = s.cabinet ∧
    (s.moveQuality o n).tracking = s.tracking ∧ (s.moveQuality o n).heads = s.heads ∧ (s.moveQuality o n).portA = s.portA ∧
    (s.moveQuality o n).portB = s.portB ∧ (s.moveQuality o n).gate = s.gate ∧ (s.moveQuality o n).access = s.access ∧
    (s.moveQuality o n).counters = s.counters ∧ (s.moveQuality o n).line = s.line ∧ (s.moveQuality o n).pending = s.pending := by
  simp only [State.moveQuality]
  repeat' split
  all_goals simp

/-- What a step (R19) leaves as it was. -/
@[simp] theorem State.stepTime_frame (s : State) (c : Int) :
    (s.stepTime c).loader = s.loader ∧ (s.stepTime c).peers = s.peers ∧ (s.stepTime c).cabinet = s.cabinet ∧
    (s.stepTime c).tracking = s.tracking ∧ (s.stepTime c).heads = s.heads ∧ (s.stepTime c).portA = s.portA ∧
    (s.stepTime c).portB = s.portB ∧ (s.stepTime c).gate = s.gate ∧ (s.stepTime c).access = s.access ∧
    (s.stepTime c).latches = s.latches ∧ (s.stepTime c).counters = s.counters ∧ (s.stepTime c).pending = s.pending := ⟨rfl, rfl, rfl, rfl, rfl, rfl, rfl, rfl, rfl, rfl, rfl, rfl⟩

/-- What a slewed round (R20, R21) leaves as it was. -/
@[simp] theorem State.slewTime_frame (s : State) (c : Int) :
    (s.slewTime c).loader = s.loader ∧ (s.slewTime c).peers = s.peers ∧ (s.slewTime c).cabinet = s.cabinet ∧
    (s.slewTime c).tracking = s.tracking ∧ (s.slewTime c).heads = s.heads ∧ (s.slewTime c).portA = s.portA ∧
    (s.slewTime c).portB = s.portB ∧ (s.slewTime c).gate = s.gate ∧ (s.slewTime c).access = s.access ∧
    (s.slewTime c).latches = s.latches ∧ (s.slewTime c).counters = s.counters ∧ (s.slewTime c).line = s.line ∧
    (s.slewTime c).pending = s.pending := ⟨rfl, rfl, rfl, rfl, rfl, rfl, rfl, rfl, rfl, rfl, rfl, rfl, rfl⟩

/-- What a step or a slew (R19, R20) leaves as it was. -/
@[simp] theorem State.correctTime_frame (s : State) (c : Int) :
    (s.correctTime c).loader = s.loader ∧ (s.correctTime c).peers = s.peers ∧ (s.correctTime c).cabinet = s.cabinet ∧
    (s.correctTime c).tracking = s.tracking ∧ (s.correctTime c).heads = s.heads ∧ (s.correctTime c).portA = s.portA ∧
    (s.correctTime c).portB = s.portB ∧ (s.correctTime c).gate = s.gate ∧ (s.correctTime c).access = s.access ∧
    (s.correctTime c).latches = s.latches ∧ (s.correctTime c).counters = s.counters ∧ (s.correctTime c).pending = s.pending := by
  simp only [State.correctTime]
  repeat' split
  all_goals simp

/-- What the convergence (R12 to R21) leaves as it was. -/
@[simp] theorem State.converge_frame (s : State) :
    (s.converge).loader = s.loader ∧ (s.converge).peers = s.peers ∧ (s.converge).cabinet = s.cabinet ∧
    (s.converge).tracking = s.tracking ∧ (s.converge).heads = s.heads ∧ (s.converge).portA = s.portA ∧
    (s.converge).portB = s.portB ∧ (s.converge).gate = s.gate ∧ (s.converge).access = s.access ∧
    (s.converge).counters = s.counters ∧ (s.converge).pending = s.pending := by
  simp only [State.converge]
  repeat' split
  all_goals simp

/-- What PEER_ABSENT (R28) leaves as it was. -/
@[simp] theorem State.latchAbsent_frame (s : State) (ps : List Peer) (l i : Nat) :
    (s.latchAbsent ps l i).loader = s.loader ∧ (s.latchAbsent ps l i).clock = s.clock ∧ (s.latchAbsent ps l i).peers = s.peers ∧
    (s.latchAbsent ps l i).cabinet = s.cabinet ∧ (s.latchAbsent ps l i).tracking = s.tracking ∧ (s.latchAbsent ps l i).heads = s.heads ∧
    (s.latchAbsent ps l i).portA = s.portA ∧ (s.latchAbsent ps l i).portB = s.portB ∧ (s.latchAbsent ps l i).gate = s.gate ∧
    (s.latchAbsent ps l i).access = s.access ∧ (s.latchAbsent ps l i).counters = s.counters ∧ (s.latchAbsent ps l i).line = s.line ∧
    (s.latchAbsent ps l i).pending = s.pending := by
  simp only [State.latchAbsent]
  repeat' split
  all_goals simp

/-- What the silence of the peers (R28) leaves as it was. -/
@[simp] theorem State.advanceSilence_frame (s : State) :
    (s.advanceSilence).clock = s.clock ∧ (s.advanceSilence).portA = s.portA ∧ (s.advanceSilence).portB = s.portB ∧
    (s.advanceSilence).gate = s.gate ∧ (s.advanceSilence).pending = s.pending := ⟨by simpa [State.advanceSilence] using foldl_keeps State.clock _ (fun s b => by simp) _ s,
    by simpa [State.advanceSilence] using foldl_keeps State.portA _ (fun s b => by simp) _ s,
    by simpa [State.advanceSilence] using foldl_keeps State.portB _ (fun s b => by simp) _ s,
    by simpa [State.advanceSilence] using foldl_keeps State.gate _ (fun s b => by simp) _ s,
    by simpa [State.advanceSilence] using foldl_keeps State.pending _ (fun s b => by simp) _ s⟩

/-- What a firing handed to the Reject Gate (R122, R123) leaves as it was. -/
@[simp] theorem State.handFiring_frame (s : State) (c : Time) (d : Byte) :
    (s.handFiring c d).2.loader = s.loader ∧ (s.handFiring c d).2.clock = s.clock ∧ (s.handFiring c d).2.peers = s.peers ∧
    (s.handFiring c d).2.cabinet = s.cabinet ∧ (s.handFiring c d).2.tracking = s.tracking ∧ (s.handFiring c d).2.heads = s.heads ∧
    (s.handFiring c d).2.portA = s.portA ∧ (s.handFiring c d).2.portB = s.portB ∧ (s.handFiring c d).2.access = s.access ∧
    (s.handFiring c d).2.counters = s.counters ∧ (s.handFiring c d).2.line = s.line ∧ (s.handFiring c d).2.pending = s.pending := by
  simp only [State.handFiring]
  repeat' split
  all_goals simp

/-- What a confirmed firing (R127) leaves as it was. -/
@[simp] theorem State.firingConfirmed_frame (s : State) :
    (s.firingConfirmed).loader = s.loader ∧ (s.firingConfirmed).clock = s.clock ∧ (s.firingConfirmed).peers = s.peers ∧
    (s.firingConfirmed).cabinet = s.cabinet ∧ (s.firingConfirmed).tracking = s.tracking ∧ (s.firingConfirmed).heads = s.heads ∧
    (s.firingConfirmed).portA = s.portA ∧ (s.firingConfirmed).portB = s.portB ∧ (s.firingConfirmed).access = s.access ∧
    (s.firingConfirmed).latches = s.latches ∧ (s.firingConfirmed).counters = s.counters ∧ (s.firingConfirmed).line = s.line ∧
    (s.firingConfirmed).pending = s.pending := ⟨rfl, rfl, rfl, rfl, rfl, rfl, rfl, rfl, rfl, rfl, rfl, rfl, rfl⟩

/-- What an unconfirmed firing (R127) leaves as it was. -/
@[simp] theorem State.firingUnconfirmed_frame (s : State) (n : Nat) :
    (s.firingUnconfirmed n).loader = s.loader ∧ (s.firingUnconfirmed n).clock = s.clock ∧ (s.firingUnconfirmed n).peers = s.peers ∧
    (s.firingUnconfirmed n).cabinet = s.cabinet ∧ (s.firingUnconfirmed n).tracking = s.tracking ∧ (s.firingUnconfirmed n).heads = s.heads ∧
    (s.firingUnconfirmed n).portA = s.portA ∧ (s.firingUnconfirmed n).portB = s.portB ∧ (s.firingUnconfirmed n).access = s.access ∧
    (s.firingUnconfirmed n).counters = s.counters ∧ (s.firingUnconfirmed n).line = s.line ∧ (s.firingUnconfirmed n).pending = s.pending := by
  simp only [State.firingUnconfirmed]
  repeat' split
  all_goals simp

/-- What a confirm edge given (R125, R126) leaves as it was. -/
@[simp] theorem State.giveEdge_frame (s : State) :
    (s.giveEdge).loader = s.loader ∧ (s.giveEdge).clock = s.clock ∧ (s.giveEdge).peers = s.peers ∧
    (s.giveEdge).cabinet = s.cabinet ∧ (s.giveEdge).tracking = s.tracking ∧ (s.giveEdge).heads = s.heads ∧
    (s.giveEdge).portA = s.portA ∧ (s.giveEdge).portB = s.portB ∧ (s.giveEdge).access = s.access ∧
    (s.giveEdge).latches = s.latches ∧ (s.giveEdge).counters = s.counters ∧ (s.giveEdge).line = s.line ∧
    (s.giveEdge).pending = s.pending := by
  simp only [State.giveEdge]
  repeat' split
  all_goals simp

/-- What the confirm input (R120, R125) leaves as it was. -/
@[simp] theorem State.takeConfirm_frame (s : State) :
    (s.takeConfirm).loader = s.loader ∧ (s.takeConfirm).clock = s.clock ∧ (s.takeConfirm).peers = s.peers ∧
    (s.takeConfirm).cabinet = s.cabinet ∧ (s.takeConfirm).tracking = s.tracking ∧ (s.takeConfirm).heads = s.heads ∧
    (s.takeConfirm).portA = s.portA ∧ (s.takeConfirm).portB = s.portB ∧ (s.takeConfirm).access = s.access ∧
    (s.takeConfirm).latches = s.latches ∧ (s.takeConfirm).counters = s.counters ∧ (s.takeConfirm).line = s.line ∧
    (s.takeConfirm).pending = s.pending := by
  simp only [State.takeConfirm]
  repeat' split
  all_goals simp

/-- What passed arrivals are cleared (R65) leaves as it was. -/
@[simp] theorem State.clearPassed_frame (s : State) (c : Time) :
    (s.clearPassed c).loader = s.loader ∧ (s.clearPassed c).clock = s.clock ∧ (s.clearPassed c).peers = s.peers ∧
    (s.clearPassed c).cabinet = s.cabinet ∧ (s.clearPassed c).heads = s.heads ∧ (s.clearPassed c).portA = s.portA ∧
    (s.clearPassed c).portB = s.portB ∧ (s.clearPassed c).gate = s.gate ∧ (s.clearPassed c).access = s.access ∧
    (s.clearPassed c).counters = s.counters ∧ (s.clearPassed c).line = s.line ∧ (s.clearPassed c).pending = s.pending := ⟨foldl_keeps State.loader _ (fun s a => by simp [State.latchLost]) _ s,
    foldl_keeps State.clock _ (fun s a => by simp [State.latchLost]) _ s,
    foldl_keeps State.peers _ (fun s a => by simp [State.latchLost]) _ s,
    foldl_keeps State.cabinet _ (fun s a => by simp [State.latchLost]) _ s,
    foldl_keeps State.heads _ (fun s a => by simp [State.latchLost]) _ s,
    foldl_keeps State.portA _ (fun s a => by simp [State.latchLost]) _ s,
    foldl_keeps State.portB _ (fun s a => by simp [State.latchLost]) _ s,
    foldl_keeps State.gate _ (fun s a => by simp [State.latchLost]) _ s,
    foldl_keeps State.access _ (fun s a => by simp [State.latchLost]) _ s,
    foldl_keeps State.counters _ (fun s a => by simp [State.latchLost]) _ s,
    foldl_keeps State.line _ (fun s a => by simp [State.latchLost]) _ s,
    foldl_keeps State.pending _ (fun s a => by simp [State.latchLost]) _ s⟩

/-- What arrival matching (R65 to R67) leaves as it was. -/
@[simp] theorem State.matchArrival_frame (s : State) (c : Time) :
    (s.matchArrival c).2.loader = s.loader ∧ (s.matchArrival c).2.clock = s.clock ∧ (s.matchArrival c).2.peers = s.peers ∧
    (s.matchArrival c).2.cabinet = s.cabinet ∧ (s.matchArrival c).2.heads = s.heads ∧ (s.matchArrival c).2.portA = s.portA ∧
    (s.matchArrival c).2.portB = s.portB ∧ (s.matchArrival c).2.gate = s.gate ∧ (s.matchArrival c).2.access = s.access ∧
    (s.matchArrival c).2.line = s.line ∧ (s.matchArrival c).2.pending = s.pending := by
  simp only [State.matchArrival]
  repeat' split
  all_goals simp

/-- What a dose is asked for (R83) leaves as it was. -/
@[simp] theorem State.requestDose_frame (s : State) (h : Nat) (n : Word32) (c : Time) :
    (s.requestDose h n c).loader = s.loader ∧ (s.requestDose h n c).clock = s.clock ∧ (s.requestDose h n c).peers = s.peers ∧
    (s.requestDose h n c).cabinet = s.cabinet ∧ (s.requestDose h n c).tracking = s.tracking ∧ (s.requestDose h n c).portA = s.portA ∧
    (s.requestDose h n c).portB = s.portB ∧ (s.requestDose h n c).gate = s.gate ∧ (s.requestDose h n c).access = s.access ∧
    (s.requestDose h n c).latches = s.latches ∧ (s.requestDose h n c).counters = s.counters ∧ (s.requestDose h n c).line = s.line ∧
    (s.requestDose h n c).pending = s.pending := by
  simp only [State.requestDose]
  repeat' split
  all_goals simp

/-- What the pocket's head is asked (R56) leaves as it was. -/
@[simp] theorem State.requestPocketDose_frame (s : State) (c : Time) :
    (s.requestPocketDose c).loader = s.loader ∧ (s.requestPocketDose c).clock = s.clock ∧ (s.requestPocketDose c).peers = s.peers ∧
    (s.requestPocketDose c).cabinet = s.cabinet ∧ (s.requestPocketDose c).tracking = s.tracking ∧ (s.requestPocketDose c).portA = s.portA ∧
    (s.requestPocketDose c).portB = s.portB ∧ (s.requestPocketDose c).gate = s.gate ∧ (s.requestPocketDose c).access = s.access ∧
    (s.requestPocketDose c).latches = s.latches ∧ (s.requestPocketDose c).counters = s.counters ∧ (s.requestPocketDose c).line = s.line ∧
    (s.requestPocketDose c).pending = s.pending := by
  simp only [State.requestPocketDose]
  repeat' split
  all_goals simp

/-- What the pattern counter (R102) leaves as it was. -/
@[simp] theorem State.advancePattern_frame (s : State) :
    (s.advancePattern).loader = s.loader ∧ (s.advancePattern).clock = s.clock ∧ (s.advancePattern).peers = s.peers ∧
    (s.advancePattern).cabinet = s.cabinet ∧ (s.advancePattern).tracking = s.tracking ∧ (s.advancePattern).heads = s.heads ∧
    (s.advancePattern).portA = s.portA ∧ (s.advancePattern).gate = s.gate ∧ (s.advancePattern).access = s.access ∧
    (s.advancePattern).latches = s.latches ∧ (s.advancePattern).counters = s.counters ∧ (s.advancePattern).line = s.line ∧
    (s.advancePattern).pending = s.pending := by
  simp only [State.advancePattern]
  repeat' split
  all_goals simp

/-- What a record is opened (R55) leaves as it was. -/
@[simp] theorem State.openRecord_frame (s : State) (c : Time) :
    (s.openRecord c).loader = s.loader ∧ (s.openRecord c).clock = s.clock ∧ (s.openRecord c).peers = s.peers ∧
    (s.openRecord c).cabinet = s.cabinet ∧ (s.openRecord c).portA = s.portA ∧ (s.openRecord c).gate = s.gate ∧
    (s.openRecord c).access = s.access ∧ (s.openRecord c).line = s.line ∧ (s.openRecord c).pending = s.pending := by
  simp only [State.openRecord]
  all_goals simp

/-- What a blind firing (R51) leaves as it was. -/
@[simp] theorem State.blindFiring_frame (s : State) :
    (s.blindFiring).loader = s.loader ∧ (s.blindFiring).clock = s.clock ∧ (s.blindFiring).peers = s.peers ∧
    (s.blindFiring).cabinet = s.cabinet ∧ (s.blindFiring).tracking = s.tracking ∧ (s.blindFiring).heads = s.heads ∧
    (s.blindFiring).portA = s.portA ∧ (s.blindFiring).portB = s.portB ∧ (s.blindFiring).access = s.access ∧
    (s.blindFiring).counters = s.counters ∧ (s.blindFiring).line = s.line ∧ (s.blindFiring).pending = s.pending := by
  simp only [State.blindFiring]
  repeat' split
  all_goals simp

/-- What a capture (R50) leaves as it was. -/
@[simp] theorem State.capture_frame (s : State) :
    (s.capture).loader = s.loader ∧ (s.capture).clock = s.clock ∧ (s.capture).peers = s.peers ∧
    (s.capture).cabinet = s.cabinet ∧ (s.capture).portA = s.portA ∧ (s.capture).access = s.access ∧
    (s.capture).line = s.line ∧ (s.capture).pending = s.pending := by
  simp only [State.capture]
  repeat' split
  all_goals simp

/-- What the infeed (R48) leaves as it was. -/
@[simp] theorem State.takeInfeed_frame (s : State) :
    (s.takeInfeed).loader = s.loader ∧ (s.takeInfeed).clock = s.clock ∧ (s.takeInfeed).peers = s.peers ∧
    (s.takeInfeed).cabinet = s.cabinet ∧ (s.takeInfeed).portA = s.portA ∧ (s.takeInfeed).access = s.access ∧
    (s.takeInfeed).line = s.line ∧ (s.takeInfeed).pending = s.pending := by
  simp only [State.takeInfeed]
  repeat' split
  all_goals simp

/-- What a pitch (R49) leaves as it was. -/
@[simp] theorem State.advancePocket_frame (s : State) :
    (s.advancePocket).loader = s.loader ∧ (s.advancePocket).clock = s.clock ∧ (s.advancePocket).peers = s.peers ∧
    (s.advancePocket).cabinet = s.cabinet ∧ (s.advancePocket).heads = s.heads ∧ (s.advancePocket).portA = s.portA ∧
    (s.advancePocket).portB = s.portB ∧ (s.advancePocket).gate = s.gate ∧ (s.advancePocket).access = s.access ∧
    (s.advancePocket).latches = s.latches ∧ (s.advancePocket).counters = s.counters ∧ (s.advancePocket).line = s.line ∧
    (s.advancePocket).pending = s.pending := ⟨rfl, rfl, rfl, rfl, rfl, rfl, rfl, rfl, rfl, rfl, rfl, rfl, rfl⟩

/-- What the pitch (R48, R49) leaves as it was. -/
@[simp] theorem State.takePitch_frame (s : State) :
    (s.takePitch).loader = s.loader ∧ (s.takePitch).clock = s.clock ∧ (s.takePitch).peers = s.peers ∧
    (s.takePitch).cabinet = s.cabinet ∧ (s.takePitch).heads = s.heads ∧ (s.takePitch).portA = s.portA ∧
    (s.takePitch).portB = s.portB ∧ (s.takePitch).gate = s.gate ∧ (s.takePitch).access = s.access ∧
    (s.takePitch).latches = s.latches ∧ (s.takePitch).counters = s.counters ∧ (s.takePitch).line = s.line ∧
    (s.takePitch).pending = s.pending := by
  simp only [State.takePitch]
  repeat' split
  all_goals simp

/-- What a pending entry is removed at the decide (R69) leaves as it was. -/
@[simp] theorem State.dropPending_frame (s : State) (p : Port) (r : Record) :
    (s.dropPending p r).loader = s.loader ∧ (s.dropPending p r).clock = s.clock ∧ (s.dropPending p r).peers = s.peers ∧
    (s.dropPending p r).cabinet = s.cabinet ∧ (s.dropPending p r).tracking = s.tracking ∧ (s.dropPending p r).heads = s.heads ∧
    (s.dropPending p r).gate = s.gate ∧ (s.dropPending p r).access = s.access ∧ (s.dropPending p r).latches = s.latches ∧
    (s.dropPending p r).counters = s.counters ∧ (s.dropPending p r).line = s.line ∧ (s.dropPending p r).pending = s.pending := by
  simp only [State.dropPending]
  repeat' split
  all_goals simp

/-- What a CRP (R129) leaves as it was. -/
@[simp] theorem State.report_frame (s : State) (r : Record) (o : CrpOutcome) :
    (s.report r o).loader = s.loader ∧ (s.report r o).clock = s.clock ∧ (s.report r o).peers = s.peers ∧
    (s.report r o).cabinet = s.cabinet ∧ (s.report r o).tracking = s.tracking ∧ (s.report r o).heads = s.heads ∧
    (s.report r o).portA = s.portA ∧ (s.report r o).portB = s.portB ∧ (s.report r o).gate = s.gate ∧
    (s.report r o).access = s.access ∧ (s.report r o).pending = s.pending := by
  simp only [State.report]
  repeat' split
  all_goals simp

/-- What a CRP that report all gives (R71, R72) leaves as it was. -/
@[simp] theorem State.reportIfAll_frame (s : State) (r : Record) (o : CrpOutcome) :
    (s.reportIfAll r o).loader = s.loader ∧ (s.reportIfAll r o).clock = s.clock ∧ (s.reportIfAll r o).peers = s.peers ∧
    (s.reportIfAll r o).cabinet = s.cabinet ∧ (s.reportIfAll r o).tracking = s.tracking ∧ (s.reportIfAll r o).heads = s.heads ∧
    (s.reportIfAll r o).portA = s.portA ∧ (s.reportIfAll r o).portB = s.portB ∧ (s.reportIfAll r o).gate = s.gate ∧
    (s.reportIfAll r o).access = s.access ∧ (s.reportIfAll r o).pending = s.pending := by
  simp only [State.reportIfAll]
  repeat' split
  all_goals simp

/-- What an HND (R130) leaves as it was. -/
@[simp] theorem State.handDownstream_frame (s : State) (r : Record) (b : Bool) :
    (s.handDownstream r b).loader = s.loader ∧ (s.handDownstream r b).clock = s.clock ∧ (s.handDownstream r b).peers = s.peers ∧
    (s.handDownstream r b).cabinet = s.cabinet ∧ (s.handDownstream r b).tracking = s.tracking ∧ (s.handDownstream r b).heads = s.heads ∧
    (s.handDownstream r b).portA = s.portA ∧ (s.handDownstream r b).portB = s.portB ∧ (s.handDownstream r b).gate = s.gate ∧
    (s.handDownstream r b).access = s.access ∧ (s.handDownstream r b).pending = s.pending := by
  unfold State.handDownstream; simp

/-- What a rejected record (R71) leaves as it was. -/
@[simp] theorem State.routeRejected_frame (s : State) (r : Record) :
    (s.routeRejected r).loader = s.loader ∧ (s.routeRejected r).clock = s.clock ∧ (s.routeRejected r).peers = s.peers ∧
    (s.routeRejected r).cabinet = s.cabinet ∧ (s.routeRejected r).tracking = s.tracking ∧ (s.routeRejected r).heads = s.heads ∧
    (s.routeRejected r).portA = s.portA ∧ (s.routeRejected r).portB = s.portB ∧ (s.routeRejected r).access = s.access ∧
    (s.routeRejected r).pending = s.pending := by
  simp only [State.routeRejected]
  repeat' split
  all_goals simp

/-- What a passed record (R72) leaves as it was. -/
@[simp] theorem State.routePassed_frame (s : State) (r : Record) :
    (s.routePassed r).loader = s.loader ∧ (s.routePassed r).clock = s.clock ∧ (s.routePassed r).peers = s.peers ∧
    (s.routePassed r).cabinet = s.cabinet ∧ (s.routePassed r).tracking = s.tracking ∧ (s.routePassed r).heads = s.heads ∧
    (s.routePassed r).portA = s.portA ∧ (s.routePassed r).portB = s.portB ∧ (s.routePassed r).gate = s.gate ∧
    (s.routePassed r).access = s.access ∧ (s.routePassed r).pending = s.pending := by
  simp only [State.routePassed]
  repeat' split
  all_goals simp

/-- What a decided record (R69 to R72) leaves as it was. -/
@[simp] theorem State.routeDecided_frame (s : State) (r : Record) :
    (s.routeDecided r).loader = s.loader ∧ (s.routeDecided r).clock = s.clock ∧ (s.routeDecided r).peers = s.peers ∧
    (s.routeDecided r).cabinet = s.cabinet ∧ (s.routeDecided r).tracking = s.tracking ∧ (s.routeDecided r).heads = s.heads ∧
    (s.routeDecided r).access = s.access ∧ (s.routeDecided r).pending = s.pending := by
  simp only [State.routeDecided]
  repeat' split
  all_goals simp

/-- What the decide (R68, R73) leaves as it was. -/
@[simp] theorem State.decideHead_frame (s : State) (r : Record) (rs : List Record) :
    (s.decideHead r rs).loader = s.loader ∧ (s.decideHead r rs).clock = s.clock ∧ (s.decideHead r rs).peers = s.peers ∧
    (s.decideHead r rs).cabinet = s.cabinet ∧ (s.decideHead r rs).heads = s.heads ∧ (s.decideHead r rs).access = s.access ∧
    (s.decideHead r rs).pending = s.pending := by
  simp [State.decideHead]

/-- What a peer is heard (R27) leaves as it was. -/
@[simp] theorem State.peerHeard_frame (s : State) (a : Byte) :
    (s.peerHeard a).loader = s.loader ∧ (s.peerHeard a).clock = s.clock ∧ (s.peerHeard a).cabinet = s.cabinet ∧
    (s.peerHeard a).tracking = s.tracking ∧ (s.peerHeard a).heads = s.heads ∧ (s.peerHeard a).portA = s.portA ∧
    (s.peerHeard a).portB = s.portB ∧ (s.peerHeard a).gate = s.gate ∧ (s.peerHeard a).access = s.access ∧
    (s.peerHeard a).counters = s.counters ∧ (s.peerHeard a).line = s.line ∧ (s.peerHeard a).pending = s.pending := by
  simp only [State.peerHeard]
  repeat' split
  all_goals simp

/-- What a cabinet report (R30) leaves as it was. -/
@[simp] theorem State.takeReport_frame (s : State) (a : Byte) (v : CabinetCodes) :
    (s.takeReport a v).clock = s.clock ∧ (s.takeReport a v).portA = s.portA ∧ (s.takeReport a v).portB = s.portB ∧
    (s.takeReport a v).gate = s.gate ∧ (s.takeReport a v).pending = s.pending := by
  simp only [State.takeReport]
  all_goals simp

/-- What the time fields of a beacon (R10) leaves as it was. -/
@[simp] theorem State.takeTime_frame (s : State) (a : Byte) (o : Int) (q : Byte) :
    (s.takeTime a o q).loader = s.loader ∧ (s.takeTime a o q).clock = s.clock ∧ (s.takeTime a o q).cabinet = s.cabinet ∧
    (s.takeTime a o q).tracking = s.tracking ∧ (s.takeTime a o q).heads = s.heads ∧ (s.takeTime a o q).portA = s.portA ∧
    (s.takeTime a o q).portB = s.portB ∧ (s.takeTime a o q).gate = s.gate ∧ (s.takeTime a o q).access = s.access ∧
    (s.takeTime a o q).latches = s.latches ∧ (s.takeTime a o q).counters = s.counters ∧ (s.takeTime a o q).line = s.line ∧
    (s.takeTime a o q).pending = s.pending := ⟨rfl, rfl, rfl, rfl, rfl, rfl, rfl, rfl, rfl, rfl, rfl, rfl, rfl⟩

/-- What an HND listed or refused (R63) leaves as it was. -/
@[simp] theorem State.listArrival_frame (s : State) (a : Arrival) :
    (s.listArrival a).loader = s.loader ∧ (s.listArrival a).clock = s.clock ∧ (s.listArrival a).peers = s.peers ∧
    (s.listArrival a).cabinet = s.cabinet ∧ (s.listArrival a).heads = s.heads ∧ (s.listArrival a).portA = s.portA ∧
    (s.listArrival a).portB = s.portB ∧ (s.listArrival a).gate = s.gate ∧ (s.listArrival a).access = s.access ∧
    (s.listArrival a).counters = s.counters ∧ (s.listArrival a).line = s.line ∧ (s.listArrival a).pending = s.pending := by
  simp only [State.listArrival]
  repeat' split
  all_goals simp

/-- What an HND (R61 to R63) leaves as it was. -/
@[simp] theorem State.takeHandover_frame (s : State) (a : Byte) (h : HndBody) :
    (s.takeHandover a h).loader = s.loader ∧ (s.takeHandover a h).clock = s.clock ∧ (s.takeHandover a h).peers = s.peers ∧
    (s.takeHandover a h).cabinet = s.cabinet ∧ (s.takeHandover a h).heads = s.heads ∧ (s.takeHandover a h).portA = s.portA ∧
    (s.takeHandover a h).portB = s.portB ∧ (s.takeHandover a h).gate = s.gate ∧ (s.takeHandover a h).access = s.access ∧
    (s.takeHandover a h).line = s.line ∧ (s.takeHandover a h).pending = s.pending := by
  simp only [State.takeHandover]
  repeat' split
  all_goals simp

/-- What GRANTED (R145) leaves as it was. -/
@[simp] theorem State.giveGrant_frame (s : State) (a : Byte) (l : Level) (hs : HeadSet) (n : Nat) :
    (s.giveGrant a l hs n).loader = s.loader ∧ (s.giveGrant a l hs n).clock = s.clock ∧ (s.giveGrant a l hs n).peers = s.peers ∧
    (s.giveGrant a l hs n).cabinet = s.cabinet ∧ (s.giveGrant a l hs n).tracking = s.tracking ∧ (s.giveGrant a l hs n).portA = s.portA ∧
    (s.giveGrant a l hs n).portB = s.portB ∧ (s.giveGrant a l hs n).gate = s.gate ∧ (s.giveGrant a l hs n).pending = s.pending := by
  simp only [State.giveGrant]
  all_goals simp

/-- What EXTENDED (R147) leaves as it was. -/
@[simp] theorem State.extendGrant_frame (s : State) (a : Byte) (g : Grant) (n : Nat) :
    (s.extendGrant a g n).loader = s.loader ∧ (s.extendGrant a g n).clock = s.clock ∧ (s.extendGrant a g n).peers = s.peers ∧
    (s.extendGrant a g n).cabinet = s.cabinet ∧ (s.extendGrant a g n).tracking = s.tracking ∧ (s.extendGrant a g n).heads = s.heads ∧
    (s.extendGrant a g n).portA = s.portA ∧ (s.extendGrant a g n).portB = s.portB ∧ (s.extendGrant a g n).gate = s.gate ∧
    (s.extendGrant a g n).pending = s.pending := by
  simp only [State.extendGrant]
  all_goals simp

/-- What an access request (R142) leaves as it was. -/
@[simp] theorem State.requestAccess_frame (s : State) (a l sp : Byte) (n : Nat) :
    (s.requestAccess a l sp n).loader = s.loader ∧ (s.requestAccess a l sp n).clock = s.clock ∧ (s.requestAccess a l sp n).peers = s.peers ∧
    (s.requestAccess a l sp n).cabinet = s.cabinet ∧ (s.requestAccess a l sp n).tracking = s.tracking ∧ (s.requestAccess a l sp n).portA = s.portA ∧
    (s.requestAccess a l sp n).portB = s.portB ∧ (s.requestAccess a l sp n).gate = s.gate ∧ (s.requestAccess a l sp n).pending = s.pending := by
  simp only [State.requestAccess]
  repeat' split
  all_goals simp

/-- What an access release (R148) leaves as it was. -/
@[simp] theorem State.releaseGrant_frame (s : State) (a n : Byte) :
    (s.releaseGrant a n).loader = s.loader ∧ (s.releaseGrant a n).clock = s.clock ∧ (s.releaseGrant a n).peers = s.peers ∧
    (s.releaseGrant a n).cabinet = s.cabinet ∧ (s.releaseGrant a n).tracking = s.tracking ∧ (s.releaseGrant a n).portA = s.portA ∧
    (s.releaseGrant a n).portB = s.portB ∧ (s.releaseGrant a n).gate = s.gate ∧ (s.releaseGrant a n).pending = s.pending := by
  simp only [State.releaseGrant]
  repeat' split
  all_goals simp

/-- What JOG_REFUSED (R151) leaves as it was. -/
@[simp] theorem State.refuseJog_frame (s : State) (a : Byte) (c : JogRefused) (h n : Byte) :
    (s.refuseJog a c h n).loader = s.loader ∧ (s.refuseJog a c h n).clock = s.clock ∧ (s.refuseJog a c h n).peers = s.peers ∧
    (s.refuseJog a c h n).cabinet = s.cabinet ∧ (s.refuseJog a c h n).tracking = s.tracking ∧ (s.refuseJog a c h n).heads = s.heads ∧
    (s.refuseJog a c h n).portA = s.portA ∧ (s.refuseJog a c h n).portB = s.portB ∧ (s.refuseJog a c h n).gate = s.gate ∧
    (s.refuseJog a c h n).access = s.access ∧ (s.refuseJog a c h n).pending = s.pending := by
  unfold State.refuseJog; simp

/-- What a jog started or stopped (R151) leaves as it was. -/
@[simp] theorem State.jogHead_frame (s : State) (a h n : Byte) :
    (s.jogHead a h n).loader = s.loader ∧ (s.jogHead a h n).clock = s.clock ∧ (s.jogHead a h n).peers = s.peers ∧
    (s.jogHead a h n).cabinet = s.cabinet ∧ (s.jogHead a h n).tracking = s.tracking ∧ (s.jogHead a h n).portA = s.portA ∧
    (s.jogHead a h n).portB = s.portB ∧ (s.jogHead a h n).gate = s.gate ∧ (s.jogHead a h n).access = s.access ∧
    (s.jogHead a h n).pending = s.pending := by
  simp only [State.jogHead]
  repeat' split
  all_goals simp

/-- What a jog request (R151) leaves as it was. -/
@[simp] theorem State.requestJog_frame (s : State) (a h n : Byte) :
    (s.requestJog a h n).loader = s.loader ∧ (s.requestJog a h n).clock = s.clock ∧ (s.requestJog a h n).peers = s.peers ∧
    (s.requestJog a h n).cabinet = s.cabinet ∧ (s.requestJog a h n).tracking = s.tracking ∧ (s.requestJog a h n).portA = s.portA ∧
    (s.requestJog a h n).portB = s.portB ∧ (s.requestJog a h n).gate = s.gate ∧ (s.requestJog a h n).access = s.access ∧
    (s.requestJog a h n).pending = s.pending := by
  simp only [State.requestJog]
  repeat' split
  all_goals simp

/-- What a lockout (R139) leaves as it was. -/
@[simp] theorem State.lockOut_frame (s : State) (a : Byte) :
    (s.lockOut a).loader = s.loader ∧ (s.lockOut a).clock = s.clock ∧ (s.lockOut a).peers = s.peers ∧
    (s.lockOut a).cabinet = s.cabinet ∧ (s.lockOut a).tracking = s.tracking ∧ (s.lockOut a).portA = s.portA ∧
    (s.lockOut a).portB = s.portB ∧ (s.lockOut a).gate = s.gate ∧ (s.lockOut a).pending = s.pending := by
  simp only [State.lockOut]
  repeat' split
  all_goals simp

/-- What an expiry (R150) leaves as it was. -/
@[simp] theorem State.expireGrant_frame (s : State) (n : Nat) :
    (s.expireGrant n).loader = s.loader ∧ (s.expireGrant n).clock = s.clock ∧ (s.expireGrant n).peers = s.peers ∧
    (s.expireGrant n).cabinet = s.cabinet ∧ (s.expireGrant n).tracking = s.tracking ∧ (s.expireGrant n).portA = s.portA ∧
    (s.expireGrant n).portB = s.portB ∧ (s.expireGrant n).gate = s.gate ∧ (s.expireGrant n).pending = s.pending := by
  simp only [State.expireGrant]
  repeat' split
  all_goals simp

/-- What an ANS (R182 to R184) leaves as it was. -/
@[simp] theorem State.answer_frame (s : State) (a t st c cl : Byte) (es : List (List Byte)) :
    (s.answer a t st c cl es).loader = s.loader ∧ (s.answer a t st c cl es).clock = s.clock ∧ (s.answer a t st c cl es).peers = s.peers ∧
    (s.answer a t st c cl es).cabinet = s.cabinet ∧ (s.answer a t st c cl es).tracking = s.tracking ∧ (s.answer a t st c cl es).heads = s.heads ∧
    (s.answer a t st c cl es).portA = s.portA ∧ (s.answer a t st c cl es).portB = s.portB ∧ (s.answer a t st c cl es).gate = s.gate ∧
    (s.answer a t st c cl es).access = s.access ∧ (s.answer a t st c cl es).pending = s.pending := by
  simp only [State.answer]
  repeat' split
  all_goals simp

/-- What a query (R180) leaves as it was. -/
@[simp] theorem State.query_frame (s : State) (a t st c cl : Byte) :
    (s.query a t st c cl).loader = s.loader ∧ (s.query a t st c cl).clock = s.clock ∧ (s.query a t st c cl).peers = s.peers ∧
    (s.query a t st c cl).cabinet = s.cabinet ∧ (s.query a t st c cl).tracking = s.tracking ∧ (s.query a t st c cl).heads = s.heads ∧
    (s.query a t st c cl).portA = s.portA ∧ (s.query a t st c cl).portB = s.portB ∧ (s.query a t st c cl).gate = s.gate ∧
    (s.query a t st c cl).access = s.access ∧ (s.query a t st c cl).pending = s.pending := by
  simp only [State.query]
  repeat' split
  all_goals simp

/-- What an attempt begins (R163) leaves as it was. -/
@[simp] theorem State.beginAttempt_frame (s : State) (c : Candidate) :
    (s.beginAttempt c).loader = s.loader ∧ (s.beginAttempt c).clock = s.clock ∧ (s.beginAttempt c).peers = s.peers ∧
    (s.beginAttempt c).cabinet = s.cabinet ∧ (s.beginAttempt c).tracking = s.tracking ∧ (s.beginAttempt c).heads = s.heads ∧
    (s.beginAttempt c).portA = s.portA ∧ (s.beginAttempt c).portB = s.portB ∧ (s.beginAttempt c).gate = s.gate ∧
    (s.beginAttempt c).access = s.access ∧ (s.beginAttempt c).counters = s.counters ∧ (s.beginAttempt c).pending = s.pending := by
  cases c <;> simp [State.beginAttempt]

/-- What a start mark (R163) leaves as it was. -/
@[simp] theorem State.startAttempt_frame (s : State) (c : Candidate) :
    (s.startAttempt c).loader = s.loader ∧ (s.startAttempt c).clock = s.clock ∧ (s.startAttempt c).peers = s.peers ∧
    (s.startAttempt c).cabinet = s.cabinet ∧ (s.startAttempt c).tracking = s.tracking ∧ (s.startAttempt c).heads = s.heads ∧
    (s.startAttempt c).portA = s.portA ∧ (s.startAttempt c).portB = s.portB ∧ (s.startAttempt c).gate = s.gate ∧
    (s.startAttempt c).access = s.access ∧ (s.startAttempt c).counters = s.counters ∧ (s.startAttempt c).pending = s.pending := by
  unfold State.startAttempt; simp

/-- What a frame is sent (R163) leaves as it was. -/
@[simp] theorem State.candidateSent_frame (s : State) (c : Candidate) :
    (s.candidateSent c).loader = s.loader ∧ (s.candidateSent c).clock = s.clock ∧ (s.candidateSent c).peers = s.peers ∧
    (s.candidateSent c).cabinet = s.cabinet ∧ (s.candidateSent c).tracking = s.tracking ∧ (s.candidateSent c).heads = s.heads ∧
    (s.candidateSent c).portA = s.portA ∧ (s.candidateSent c).portB = s.portB ∧ (s.candidateSent c).gate = s.gate ∧
    (s.candidateSent c).access = s.access ∧ (s.candidateSent c).pending = s.pending := by
  cases c <;> simp only [State.candidateSent]
  all_goals (try split) <;> simp

/-- What LINE_FAULT (R166) leaves as it was. -/
@[simp] theorem State.faultAtEight_frame (s : State) (n : Nat) (k : FrameKind) :
    (s.faultAtEight n k).loader = s.loader ∧ (s.faultAtEight n k).clock = s.clock ∧ (s.faultAtEight n k).peers = s.peers ∧
    (s.faultAtEight n k).cabinet = s.cabinet ∧ (s.faultAtEight n k).tracking = s.tracking ∧ (s.faultAtEight n k).heads = s.heads ∧
    (s.faultAtEight n k).portA = s.portA ∧ (s.faultAtEight n k).portB = s.portB ∧ (s.faultAtEight n k).gate = s.gate ∧
    (s.faultAtEight n k).access = s.access ∧ (s.faultAtEight n k).counters = s.counters ∧ (s.faultAtEight n k).line = s.line ∧
    (s.faultAtEight n k).pending = s.pending := by
  simp only [State.faultAtEight]
  repeat' split
  all_goals simp

/-- What a collision (R165, R166) leaves as it was. -/
@[simp] theorem State.candidateCollided_frame (s : State) (c : Candidate) :
    (s.candidateCollided c).loader = s.loader ∧ (s.candidateCollided c).clock = s.clock ∧ (s.candidateCollided c).peers = s.peers ∧
    (s.candidateCollided c).cabinet = s.cabinet ∧ (s.candidateCollided c).tracking = s.tracking ∧ (s.candidateCollided c).heads = s.heads ∧
    (s.candidateCollided c).portA = s.portA ∧ (s.candidateCollided c).portB = s.portB ∧ (s.candidateCollided c).gate = s.gate ∧
    (s.candidateCollided c).access = s.access ∧ (s.candidateCollided c).counters = s.counters ∧ (s.candidateCollided c).pending = s.pending := by
  cases c <;> simp only [State.candidateCollided]
  all_goals (try split) <;> simp

/-- What a dose starts (R84) leaves as it was. -/
@[simp] theorem State.startDose_frame (s : State) (h : Nat) :
    (s.startDose h).loader = s.loader ∧ (s.startDose h).clock = s.clock ∧ (s.startDose h).peers = s.peers ∧
    (s.startDose h).cabinet = s.cabinet ∧ (s.startDose h).portA = s.portA ∧ (s.startDose h).portB = s.portB ∧
    (s.startDose h).gate = s.gate ∧ (s.startDose h).pending = s.pending := by
  simp only [State.startDose]
  repeat' split
  all_goals simp

/-- What a pulse of a dose (R85, R91) leaves as it was. -/
@[simp] theorem State.dosePulse_frame (s : State) (h : Nat) (d : DoseInHand) :
    (s.dosePulse h d).loader = s.loader ∧ (s.dosePulse h d).clock = s.clock ∧ (s.dosePulse h d).peers = s.peers ∧
    (s.dosePulse h d).cabinet = s.cabinet ∧ (s.dosePulse h d).tracking = s.tracking ∧ (s.dosePulse h d).portA = s.portA ∧
    (s.dosePulse h d).portB = s.portB ∧ (s.dosePulse h d).gate = s.gate ∧ (s.dosePulse h d).access = s.access ∧
    (s.dosePulse h d).latches = s.latches ∧ (s.dosePulse h d).counters = s.counters ∧ (s.dosePulse h d).line = s.line ∧
    (s.dosePulse h d).pending = s.pending := by
  simp only [State.dosePulse]
  repeat' split
  all_goals simp

/-- What a pulse of a jog (R85, R97) leaves as it was. -/
@[simp] theorem State.jogPulse_frame (s : State) (h : Nat) (j : JogInHand) :
    (s.jogPulse h j).loader = s.loader ∧ (s.jogPulse h j).clock = s.clock ∧ (s.jogPulse h j).peers = s.peers ∧
    (s.jogPulse h j).cabinet = s.cabinet ∧ (s.jogPulse h j).tracking = s.tracking ∧ (s.jogPulse h j).portA = s.portA ∧
    (s.jogPulse h j).portB = s.portB ∧ (s.jogPulse h j).gate = s.gate ∧ (s.jogPulse h j).access = s.access ∧
    (s.jogPulse h j).pending = s.pending := by
  simp only [State.jogPulse]
  repeat' split
  all_goals simp

/-- What a pulse (R85) leaves as it was. -/
@[simp] theorem State.emitPulse_frame (s : State) (h : Nat) :
    (s.emitPulse h).loader = s.loader ∧ (s.emitPulse h).clock = s.clock ∧ (s.emitPulse h).peers = s.peers ∧
    (s.emitPulse h).cabinet = s.cabinet ∧ (s.emitPulse h).tracking = s.tracking ∧ (s.emitPulse h).portA = s.portA ∧
    (s.emitPulse h).portB = s.portB ∧ (s.emitPulse h).gate = s.gate ∧ (s.emitPulse h).access = s.access ∧
    (s.emitPulse h).pending = s.pending := by
  simp only [State.emitPulse]
  repeat' split
  all_goals simp

/-- What a drive fault (R78) leaves as it was. -/
@[simp] theorem State.driveFaults_frame (s : State) (h : Nat) :
    (s.driveFaults h).loader = s.loader ∧ (s.driveFaults h).clock = s.clock ∧ (s.driveFaults h).peers = s.peers ∧
    (s.driveFaults h).cabinet = s.cabinet ∧ (s.driveFaults h).portA = s.portA ∧ (s.driveFaults h).portB = s.portB ∧
    (s.driveFaults h).gate = s.gate ∧ (s.driveFaults h).pending = s.pending := by
  unfold State.driveFaults; simp

/-- What a drive fault clears (R77) leaves as it was. -/
@[simp] theorem State.driveFaultClears_frame (s : State) (h : Nat) :
    (s.driveFaultClears h).loader = s.loader ∧ (s.driveFaultClears h).clock = s.clock ∧ (s.driveFaultClears h).peers = s.peers ∧
    (s.driveFaultClears h).cabinet = s.cabinet ∧ (s.driveFaultClears h).tracking = s.tracking ∧ (s.driveFaultClears h).portA = s.portA ∧
    (s.driveFaultClears h).portB = s.portB ∧ (s.driveFaultClears h).gate = s.gate ∧ (s.driveFaultClears h).pending = s.pending := by
  unfold State.driveFaultClears; simp

/-- What a trigger (R104) leaves as it was. -/
@[simp] theorem State.trigger_frame (s : State) (p : Port) (b : Bool) (r : Record) :
    (s.trigger p b r).loader = s.loader ∧ (s.trigger p b r).clock = s.clock ∧ (s.trigger p b r).peers = s.peers ∧
    (s.trigger p b r).cabinet = s.cabinet ∧ (s.trigger p b r).heads = s.heads ∧ (s.trigger p b r).gate = s.gate ∧
    (s.trigger p b r).access = s.access ∧ (s.trigger p b r).latches = s.latches ∧ (s.trigger p b r).counters = s.counters ∧
    (s.trigger p b r).line = s.line ∧ (s.trigger p b r).pending = s.pending := by
  simp only [State.trigger]
  repeat' split
  all_goals simp

/-- What a strobe (R109) leaves as it was. -/
@[simp] theorem State.strobe_frame (s : State) (p : Port) (n : Word32) (rs : List DueStrobe) :
    (s.strobe p n rs).loader = s.loader ∧ (s.strobe p n rs).clock = s.clock ∧ (s.strobe p n rs).peers = s.peers ∧
    (s.strobe p n rs).cabinet = s.cabinet ∧ (s.strobe p n rs).heads = s.heads ∧ (s.strobe p n rs).gate = s.gate ∧
    (s.strobe p n rs).access = s.access ∧ (s.strobe p n rs).counters = s.counters ∧ (s.strobe p n rs).line = s.line ∧
    (s.strobe p n rs).pending = s.pending := by
  simp only [State.strobe]
  repeat' split
  all_goals simp

/-- What a due strobe (R108) leaves as it was. -/
@[simp] theorem State.strobeDue_frame (s : State) (p : Port) :
    (s.strobeDue p).loader = s.loader ∧ (s.strobeDue p).clock = s.clock ∧ (s.strobeDue p).peers = s.peers ∧
    (s.strobeDue p).cabinet = s.cabinet ∧ (s.strobeDue p).heads = s.heads ∧ (s.strobeDue p).gate = s.gate ∧
    (s.strobeDue p).access = s.access ∧ (s.strobeDue p).counters = s.counters ∧ (s.strobeDue p).line = s.line ∧
    (s.strobeDue p).pending = s.pending := by
  simp only [State.strobeDue]
  repeat' split
  all_goals simp

/-- What a message abandoned (R112) leaves as it was. -/
@[simp] theorem State.abandon_frame (s : State) (p : Port) :
    (s.abandon p).loader = s.loader ∧ (s.abandon p).clock = s.clock ∧ (s.abandon p).peers = s.peers ∧
    (s.abandon p).cabinet = s.cabinet ∧ (s.abandon p).tracking = s.tracking ∧ (s.abandon p).heads = s.heads ∧
    (s.abandon p).gate = s.gate ∧ (s.abandon p).access = s.access ∧ (s.abandon p).counters = s.counters ∧
    (s.abandon p).line = s.line ∧ (s.abandon p).pending = s.pending := by
  unfold State.abandon; simp

/-- What a result matched (R115, R116) leaves as it was. -/
@[simp] theorem State.matchResult_frame (s : State) (p : Port) (t v : Byte) :
    (s.matchResult p t v).loader = s.loader ∧ (s.matchResult p t v).clock = s.clock ∧ (s.matchResult p t v).peers = s.peers ∧
    (s.matchResult p t v).cabinet = s.cabinet ∧ (s.matchResult p t v).heads = s.heads ∧ (s.matchResult p t v).gate = s.gate ∧
    (s.matchResult p t v).access = s.access ∧ (s.matchResult p t v).line = s.line ∧ (s.matchResult p t v).pending = s.pending := ⟨by simp only [State.matchResult]; split; simp; simpa using foldl_keeps State.loader _ (fun s e => by simp [State.retire]) _ s,
    by simp only [State.matchResult]; split; simp; simpa using foldl_keeps State.clock _ (fun s e => by simp [State.retire]) _ s,
    by simp only [State.matchResult]; split; simp; simpa using foldl_keeps State.peers _ (fun s e => by simp [State.retire]) _ s,
    by simp only [State.matchResult]; split; simp; simpa using foldl_keeps State.cabinet _ (fun s e => by simp [State.retire]) _ s,
    by simp only [State.matchResult]; split; simp; simpa using foldl_keeps State.heads _ (fun s e => by simp [State.retire]) _ s,
    by simp only [State.matchResult]; split; simp; simpa using foldl_keeps State.gate _ (fun s e => by simp [State.retire]) _ s,
    by simp only [State.matchResult]; split; simp; simpa using foldl_keeps State.access _ (fun s e => by simp [State.retire]) _ s,
    by simp only [State.matchResult]; split; simp; simpa using foldl_keeps State.line _ (fun s e => by simp [State.retire]) _ s,
    by simp only [State.matchResult]; split; simp; simpa using foldl_keeps State.pending _ (fun s e => by simp [State.retire]) _ s⟩

/-- What a check byte (R114) leaves as it was. -/
@[simp] theorem State.takeCheck_frame (s : State) (p : Port) (t v c : Byte) :
    (s.takeCheck p t v c).loader = s.loader ∧ (s.takeCheck p t v c).clock = s.clock ∧ (s.takeCheck p t v c).peers = s.peers ∧
    (s.takeCheck p t v c).cabinet = s.cabinet ∧ (s.takeCheck p t v c).heads = s.heads ∧ (s.takeCheck p t v c).gate = s.gate ∧
    (s.takeCheck p t v c).access = s.access ∧ (s.takeCheck p t v c).line = s.line ∧ (s.takeCheck p t v c).pending = s.pending := by
  simp only [State.takeCheck]
  repeat' split
  all_goals simp

/-- What a result byte (R112) leaves as it was. -/
@[simp] theorem State.takeByte_frame (s : State) (p : Port) (b : Byte) :
    (s.takeByte p b).loader = s.loader ∧ (s.takeByte p b).clock = s.clock ∧ (s.takeByte p b).peers = s.peers ∧
    (s.takeByte p b).cabinet = s.cabinet ∧ (s.takeByte p b).heads = s.heads ∧ (s.takeByte p b).gate = s.gate ∧
    (s.takeByte p b).access = s.access ∧ (s.takeByte p b).line = s.line ∧ (s.takeByte p b).pending = s.pending := by
  simp only [State.takeByte]
  repeat' split
  all_goals simp

/-- What a character handed on (R111 to R113) leaves as it was: what the port, an abandoned message and the act keep. -/
theorem State.handOn_keeps {α : Type} (g : State → α) (p : Port) (act : State → State)
    (port : ∀ s f, g (s.setPort p f) = g s) (abandon : ∀ s : State, g (s.abandon p) = g s) (acts : ∀ s, g (act s) = g s)
    (s : State) : g (s.handOn p act) = g s := by
  simp only [State.handOn, acts]
  split <;> simp only [abandon, port]

/-- What a firing's end (R126) leaves as it was. -/
@[simp] theorem State.endFiring_frame (s : State) (f : Firing) :
    (s.endFiring f).loader = s.loader ∧ (s.endFiring f).clock = s.clock ∧ (s.endFiring f).peers = s.peers ∧
    (s.endFiring f).cabinet = s.cabinet ∧ (s.endFiring f).tracking = s.tracking ∧ (s.endFiring f).heads = s.heads ∧
    (s.endFiring f).portA = s.portA ∧ (s.endFiring f).portB = s.portB ∧ (s.endFiring f).access = s.access ∧
    (s.endFiring f).latches = s.latches ∧ (s.endFiring f).counters = s.counters ∧ (s.endFiring f).line = s.line ∧
    (s.endFiring f).pending = s.pending := by
  simp only [State.endFiring]
  repeat' split
  all_goals simp

/-- What the ON firing's end (R124, R126) leaves as it was. -/
@[simp] theorem State.firingEnds_frame (s : State) :
    (s.firingEnds).loader = s.loader ∧ (s.firingEnds).clock = s.clock ∧ (s.firingEnds).peers = s.peers ∧
    (s.firingEnds).cabinet = s.cabinet ∧ (s.firingEnds).tracking = s.tracking ∧ (s.firingEnds).heads = s.heads ∧
    (s.firingEnds).portA = s.portA ∧ (s.firingEnds).portB = s.portB ∧ (s.firingEnds).access = s.access ∧
    (s.firingEnds).latches = s.latches ∧ (s.firingEnds).counters = s.counters ∧ (s.firingEnds).line = s.line ∧
    (s.firingEnds).pending = s.pending := by
  simp only [State.firingEnds]
  repeat' split
  all_goals simp

/-- What the end of a confirm span (R126) leaves as it was. -/
@[simp] theorem State.confirmWindowEnds_frame (s : State) :
    (s.confirmWindowEnds).loader = s.loader ∧ (s.confirmWindowEnds).clock = s.clock ∧ (s.confirmWindowEnds).peers = s.peers ∧
    (s.confirmWindowEnds).cabinet = s.cabinet ∧ (s.confirmWindowEnds).tracking = s.tracking ∧ (s.confirmWindowEnds).heads = s.heads ∧
    (s.confirmWindowEnds).portA = s.portA ∧ (s.confirmWindowEnds).portB = s.portB ∧ (s.confirmWindowEnds).access = s.access ∧
    (s.confirmWindowEnds).counters = s.counters ∧ (s.confirmWindowEnds).line = s.line ∧ (s.confirmWindowEnds).pending = s.pending := by
  simp only [State.confirmWindowEnds]
  repeat' split
  all_goals simp

/-- A character that is not complete has at most 8 data bits, from one local microsecond to the next (R111). -/
theorem SerialReceiver.step_bits (code : Nat) (rx : SerialReceiver) (high : Bool)
    (h : ∀ gone bits, rx = .inCharacter gone bits → bits.length ≤ 8) (gone : Nat) (bits : List Bool)
    (hs : rx.step code high = .inCharacter gone bits) : bits.length ≤ 8 := by
  cases rx with
  | idle =>
    cases high <;> cases hs
    simp
  | inCharacter elapsed taken =>
    have ht := h elapsed taken rfl
    simp only [SerialReceiver.step, characterStep] at hs
    split at hs
    · cases hs; exact ht
    · split at hs
      · cases hs; simp only [List.length_cons]; omega
      · cases hs
  | complete result => cases hs
  | waitHigh => cases high <;> cases hs

end Sys2Proof.Machine
end

