-- ==== Sys2Proof/Laws/Ops.lean ====
section
/-! SUPPORT. What the shared operations do, said once: the lists, the General Queue, the way a frame takes through the Line
Port to its owner, jogs and grants, and the fields of an image. -/

namespace Sys2Proof.Machine

/-! ## Lists -/

/-- Changing an item of a list is setting it. -/
theorem modify_eq_set {α : Type} (l : List α) (i : Nat) (f : α → α) (d : α) (h : i < l.length) :
    l.modify i f = l.set i (f (l.getD i d)) := by
  apply List.ext_getElem (by simp)
  intro n h1 h2
  simp only [List.getElem_modify, List.getElem_set, List.getD_eq_getElem?_getD]
  split <;> simp_all

/-- Changing a head is setting it. -/
theorem State.modify_head_eq_set (s : State) (h : Nat) (f : Head → Head) (hl : h < s.heads.length) :
    s.heads.modify h f = s.heads.set h (f (s.head h)) := modify_eq_set _ _ _ _ hl

/-- The first item that meets a test is changed, and no other. -/
theorem modifyFirst_append {α : Type} (p : α → Bool) (f : α → α) (older newer : List α) (x : α)
    (none : ∀ y ∈ older, p y = false) (found : p x = true) :
    modifyFirst p f (older ++ x :: newer) = older ++ f x :: newer := by
  induction older with
  | nil => simp [modifyFirst, found]
  | cons y older ih =>
    simp [modifyFirst, none y (by simp), ih (fun z hz => none z (by simp [hz]))]

/-- Where no item meets the test, nothing changes. -/
theorem modifyFirst_none {α : Type} (p : α → Bool) (f : α → α) (l : List α) (none : ∀ y ∈ l, p y = false) :
    modifyFirst p f l = l := by
  induction l with
  | nil => rfl
  | cons y l ih => simp [modifyFirst, none y (by simp), ih (fun z hz => none z (by simp [hz]))]

/-- A number in n bytes takes n bytes. -/
@[simp] theorem bytesOf_length (n v : Nat) : (bytesOf n v).length = n := by
  induction n with
  | zero => rfl
  | succ n ih => simp [bytesOf, ih]

/-! ## The General Queue (R168, R169) -/

/-- A new entry stands behind those of its class and before those of a higher class. -/
theorem insertByClass_eq_filter (e : QueueEntry) (q : List QueueEntry) (h : q.Pairwise fun x y => x.cls ≤ y.cls) :
    insertByClass e q = q.filter (fun x => x.cls ≤ e.cls) ++ e :: q.filter (fun x => e.cls < x.cls) := by
  induction q with
  | nil => rfl
  | cons x q ih =>
    rw [List.pairwise_cons] at h
    simp only [insertByClass]
    split
    · rename_i hx; rw [ih h.2]; simp [hx, Nat.not_lt.mpr hx]
    · rename_i hx
      have h1 : q.filter (fun y => y.cls ≤ e.cls) = [] := by
        rw [List.filter_eq_nil_iff]; intro y hy; have := h.1 y hy; simp; omega
      have h2 : q.filter (fun y => e.cls < y.cls) = q := by
        rw [List.filter_eq_self]; intro y hy; have := h.1 y hy; simp; omega
      simp [h1, h2, hx, Nat.lt_of_not_le hx]

/-- Where every class 3 entry is in an attempt, none is displaced. -/
theorem dropNewestClassThree_none (q : List QueueEntry) (h : ∀ e ∈ q, e.cls = 3 → e.inAttempt = true) :
    dropNewestClassThree q = none := by
  induction q with
  | nil => rfl
  | cons x q ih =>
    simp only [dropNewestClassThree, ih (fun e he => h e (List.mem_cons_of_mem _ he))]
    have := h x (by simp)
    by_cases hx : x.cls = 3 <;> simp [hx, this]

/-- The last class 3 entry that is not in an attempt is the one displaced. -/
theorem dropNewestClassThree_some (older newer : List QueueEntry) (victim : QueueEntry)
    (h : ∀ e ∈ newer, e.cls = 3 → e.inAttempt = true) (cls : victim.cls = 3) (idle : victim.inAttempt = false) :
    dropNewestClassThree (older ++ victim :: newer) = some (older ++ newer, victim.frame.kind) := by
  induction older with
  | nil => simp [dropNewestClassThree, dropNewestClassThree_none newer h, cls, idle]
  | cons x older ih => simp only [List.cons_append, dropNewestClassThree, ih]

/-- An ARP reply of at most 11 bytes is what an answer hands over. -/
theorem State.reply_eq_answered (s : State) (d : Byte) (r : Reply) (h : (replyBytes r).length ≤ 11) :
    s.reply d r = s.answered d (replyBytes r) := by
  simp only [State.reply, State.answered, arpFrame, padTo, List.take_append, List.take_replicate]
  rw [List.take_of_length_le h, Nat.min_eq_left (by omega)]

/-! ## A frame on its way to its owner (R162, R172) -/

/-- A frame is at its end with these bytes. -/
theorem Collecting.ended_iff (c : Collecting) (got : Collected) : c.ended = some got ↔ c.place = .over got := by
  unfold Collecting.ended
  split <;> simp_all

/-- What is collected is that of a frame at its end, in JOINING or RUNNING (R161). -/
theorem State.collected_iff (s : State) (got : Collected) : s.collected = some got ↔
    s.listening = true ∧ ∃ stamp frame, s.line.rx = .collecting stamp frame ∧ frame.place = .over got := by
  unfold State.collected Receiver.collected
  split <;> rename_i h
  · split <;> simp_all [Collecting.ended_iff]
  · simp [h]

/-- A frame command stands where just its bytes have been collected, to the end of the frame (R161). -/
theorem State.hasFrame_iff (s : State) (i : Instr) : s.hasFrame i = true ↔
    ∃ bytes, frameOf i = some bytes ∧ s.listening = true ∧
      ∃ stamp frame, s.line.rx = .collecting stamp frame ∧ frame.place = .over (.ended bytes) := by
  unfold State.hasFrame
  cases frameOf i <;> simp [State.hasBytes, State.collected_iff]

/-- The receiver stays with a frame that is at its end, whatever the line reads (R161). -/
theorem Collecting.step_ended (c : Collecting) (got : Collected) (recessive : Bool) (h : c.ended = some got) :
    (c.step recessive).ended = some got := by
  rw [Collecting.ended_iff] at h ⊢
  simp [Collecting.step, h, Collector.step, Collector.held]

/-- A frame that the line passes has been collected, in JOINING or RUNNING. -/
theorem State.passesLine_collected {s : State} {i : Instr} {dest src : Byte} (h : s.passesLine i dest src) :
    s.listening = true ∧ ∃ bytes stamp frame, frameOf i = some bytes ∧ s.line.rx = .collecting stamp frame ∧
      frame.place = .over (.ended bytes) := by
  obtain ⟨bytes, e, listens, stamp, frame, r, o⟩ := (State.hasFrame_iff s i).mp h.1
  exact ⟨listens, bytes, stamp, frame, e, r, o⟩

/-- A frame that the line passes reaches what is done with a taken frame. -/
theorem State.receive_passes {s : State} {i : Instr} {dest src : Byte} (h : s.passesLine i dest src) (f : State → State) :
    s.receive dest src f = f (s.takenFrom src) := by
  obtain ⟨_, h2, h3, h4⟩ := h
  have e1 : s.releaseFrame.ownAddress = s.ownAddress := rfl
  have e2 : s.releaseFrame.isForUs dest = s.isForUs dest := rfl
  simp [State.receive, State.judgeFrame, e1, e2, h2, h3, h4, State.takenFrom]

/-- What taking a frame leaves as it was, and what it makes of the receiver and the Peer Table. -/
theorem State.takenFrom_frame (s : State) (src : Byte) :
    (s.takenFrom src).loader = s.loader ∧ (s.takenFrom src).clock = s.clock ∧ (s.takenFrom src).cabinet = s.cabinet ∧
    (s.takenFrom src).tracking = s.tracking ∧ (s.takenFrom src).heads = s.heads ∧ (s.takenFrom src).portA = s.portA ∧
    (s.takenFrom src).portB = s.portB ∧ (s.takenFrom src).gate = s.gate ∧ (s.takenFrom src).access = s.access ∧
    (s.takenFrom src).pending = s.pending ∧ (s.takenFrom src).line = { s.line with rx := .watching } ∧
    (s.takenFrom src).peers = s.peers.modify (src.toNat - 1) Peer.isHeard := by
  by_cases hp : (s.releaseFrame.peer src.toNat).presence = .absent <;>
    simp [State.takenFrom, State.peerHeard, State.setPeer, hp, State.occur, State.count] <;> simp [State.releaseFrame]

/-- Taking a frame leaves the station state. -/
@[simp] theorem State.takenFrom_running (s : State) (src : Byte) : (s.takenFrom src).running = s.running := by
  simp [State.running, State.takenFrom_frame]

/-- Taking a frame leaves the configuration record. -/
@[simp] theorem State.takenFrom_cfg (s : State) (src : Byte) : (s.takenFrom src).cfg = s.cfg := by
  simp [State.cfg, State.takenFrom_frame]

/-- A frame with a single owner reaches the owner in RUNNING, not sent to 31. -/
theorem State.ownFrame_owns {s : State} {i : Instr} {dest src : Byte} (h : s.owns i dest src) (f : State → State) :
    (s.takenFrom src).ownFrame dest f = f (s.takenFrom src) := by
  have h2 : (dest != 31) = true := by simpa using h.2.2
  rw [State.ownFrame, State.takenFrom_running, h.2.1, h2]; rfl

/-! ## Jogs and grants (R97, R149) -/

/-- Two changes of one head are one. -/
theorem State.setHead_setHead (s : State) (h : Nat) (f g : Head → Head) :
    (s.setHead h f).setHead h g = s.setHead h fun x => g (f x) := by
  have e : (s.heads.modify h f).modify h g = s.heads.modify h fun x => g (f x) :=
    List.ext_getElem (by simp) fun i _ _ => by simp only [List.getElem_modify]; split <;> rfl
  simp [State.setHead, e]

/-- A stop ends the jog STOPPED with the counts reached, the last pulse among them where the jog completes (R97). -/
theorem State.stopJog_eq (s : State) (h : Nat) (j : JogInHand) (running : (s.head h).jog = some j) :
    s.stopJog h j = (s.setHead h fun x => { x.quiet with jog := none }).reply (byte j.holder)
      (.jogDone h .stopped (if s.jogCompletes h j then j.emitted + 1 else j.emitted) j.meter) := by
  have hl : h < s.heads.length := by
    by_contra hn
    have hd : s.head h = Head.atReset false false false := by
      rw [State.head, List.getD_eq_getElem?_getD, List.getElem?_eq_none (Nat.le_of_not_lt hn)]; rfl
    rw [hd] at running
    cases running
  have hd : (s.setHead h fun x => x.jogEmits j).head h = (s.head h).jogEmits j := by
    simp [State.head, State.setHead, hl]
  unfold State.stopJog
  split
  · simp only [State.endJog, hd]
    simp only [Head.jogEmits, State.setHead_setHead]
    rfl
  · simp [State.endJog, running]

/-- The expiry that comes next is that of the lowest number, in a table that stands in ascending order (R149). -/
theorem State.expiringGrant_lowest (s : State) (order : s.access.grants.Pairwise fun g k => g.number < k.number) (g : Grant)
    (h : s.expiringGrant = some g) :
    g ∈ s.access.grants ∧ reached g.expiresAt s.now = true ∧
      ∀ k ∈ s.access.grants, reached k.expiresAt s.now = true → g.number ≤ k.number := by
  unfold State.expiringGrant at h
  obtain ⟨due, older, newer, split, early⟩ := List.find?_eq_some_iff_append.mp h
  rw [split] at order ⊢
  refine ⟨by simp, due, fun k hk hr => ?_⟩
  rcases List.mem_append.mp hk with hk | hk
  · simp at early
    exact absurd hr (by simp [early k hk])
  · rcases List.mem_cons.mp hk with rfl | hk
    · exact Nat.le_refl _
    · exact Nat.le_of_lt ((List.pairwise_cons.mp (List.pairwise_append.mp order).2.1).1 k hk)

/-! ## The fields of an image (R192, R204) -/

/-- A value is brought into a range by the lower limit, the upper limit, or not at all (R192). -/
theorem clampNat_eq (low high v : Nat) (range : low ≤ high) :
    clampNat low high v = if v < low then low else if high < v then high else v := by
  unfold clampNat
  split
  · omega
  · split <;> omega

/-- Bytes from a place on begin with the byte at that place. -/
theorem drop_eq_byte_cons (image : List Byte) (place : Nat) (inside : place < image.length) :
    image.drop place = image.getD place 0 :: image.drop (place + 1) := by
  rw [List.drop_eq_getElem_cons inside]
  simp [List.getD_eq_getElem?_getD, inside]

/-- A field of one byte. -/
theorem numberOf_part_one (image : List Byte) (place : Nat) (inside : place < image.length) :
    numberOf (part place 1 image) = (image.getD place 0).toNat := by
  simp [part, drop_eq_byte_cons image place inside, numberOf]

/-- A field of two bytes, high byte first. -/
theorem numberOf_part_two (image : List Byte) (place : Nat) (inside : place + 1 < image.length) :
    numberOf (part place 2 image) = 256 * (image.getD place 0).toNat + (image.getD (place + 1) 0).toNat := by
  simp only [part, drop_eq_byte_cons image place (by omega), drop_eq_byte_cons image (place + 1) inside,
    List.take_succ_cons, List.take_zero, numberOf, List.foldl]
  omega

/-- A field of four bytes is two of two. -/
theorem numberOf_part_four (image : List Byte) (place : Nat) (inside : place + 3 < image.length) :
    numberOf (part place 4 image) = 65536 * numberOf (part place 2 image) + numberOf (part (place + 2) 2 image) := by
  simp only [part, drop_eq_byte_cons image place (by omega), drop_eq_byte_cons image (place + 1) (by omega),
    drop_eq_byte_cons image (place + 2) (by omega), drop_eq_byte_cons image (place + 3) inside,
    List.take_succ_cons, List.take_zero, numberOf, List.foldl]
  omega

end Sys2Proof.Machine
end

