-- ==== Sys2Proof/Tests/Slice0.lean ====
section
/-! SUPPORT. Tests: ill-formed commands that are refused, the manual's worked figures, one step at a time, and a witness for
the hypotheses of every statement. -/

set_option maxRecDepth 20000

namespace Sys2Proof.Tests

open Sys2Proof Sys2Proof.Machine

/-! ## States to test on -/

/-- Station 7 of the worked examples of spec/01, 04 and 06: interval 20 ms, 6 heads, the dose figures T 1200, K 340, tol 12,
upstream 6, downstream 8, report 20, reject delay 1500 ms, decide margin 300 ms, transfer time 800 ms, window 20 ms,
gate pulse 70 ms, confirm window 60 ms; station 9 is the dependent one. -/
def station7 : ConfigRecord :=
  { hall := ⟨7, 20, 2, 0x160#32, 0x200#32, 3, 50, 20, 20, 200, 1000⟩
    track := ⟨6, 10, 10, 6, 8, 20, 800, 20, 1500, 300, true, false, true, 70, 60, 5⟩
    dosing := ⟨1200, 150, 150, 340, 12, 20, 1000, 50, 500, 1593⟩
    cameraA := ⟨true, 4, 40000, 50, 10, 500, 20000⟩
    cameraB := ⟨false, 4, 40000, 50, 10, 500, 20000⟩
    patternPeriod := 4, patternMask := 0x5, accessMode := .keyed, intrusionLocks := true, maxGrantS := 600
    classes := (List.range 24).map fun i => if fixedClassOne.contains i then 1 else 2 }

/-- A state with this record in this station state, at hall time 2 s. -/
def at' (station : Station) (record : ConfigRecord) : State :=
  { State.reset with
    loader := { State.reset.loader with station := station, record := some record, hold := none, faultLamp := false }
    clock := { State.reset.clock with time := 2000000#48, localTime := 2000000 }
    peers := State.reset.peers.set 6 { Peer.atReset with presence := .ownEntry }
    access := { State.reset.access with lockMode := some .keyed } }

/-- Station 7 in RUNNING, as quiet as it can be. -/
def running : State := at' .running station7

/-- The same in JOINING. -/
def joining : State := at' .joining station7

/-- The bits of these bytes as the memory sends them, most significant first. -/
def sentBits (bytes : List Byte) : List Bool := bytes.flatMap fun b => (List.range 8).map fun i => b.getLsbD (7 - i)

/-- The same in LOADING, with this much of the read gone by and these bytes sampled. -/
def loading (elapsed : Nat) (bytes : List Byte) : State :=
  { State.reset with loader := { State.reset.loader with
      station := .loading, hold := none, memSelected := true, readTimer := some elapsed, sampled := sentBits bytes } }

/-- Quiet pins: a recessive line, high result lines, every drive ready and no meter high. -/
def quietPins : PinSamples := ⟨.recessive, true, true, false, 0xFF, 0⟩

/-- What has been collected stands at the end of a frame whose start mark came 400 µs ago. -/
def collected (got : Collected) (s : State) : State :=
  { s with line := { s.line with idle := 12, rx := .collecting 1999600#48 ⟨.over got, 0, 12⟩ } }

/-- The frame of a command has been collected. -/
def framed (i : Instr) (s : State) : State := collected (.ended ((frameOf i).getD [])) s

/-- Station 7 with permission to run, and head 5 out of production under grant 1, level JOG, of tool 20. -/
def granted : State :=
  { running with
    loader := { running.loader with runLamp := true }
    cabinet := { running.cabinet with
      swA := ⟨true, true, none, false⟩, swB := ⟨true, true, none, false⟩, door := ⟨true, true, none, false⟩, key := ⟨true, true, none, false⟩
      switch := .on, permission := true }
    heads := running.heads.set 5 { Head.atReset false true false with production := .out }
    access := ⟨some .keyed, false, [⟨1, 20, .jog, 0x20#8, 1000000#48, 2000000#48, true⟩], 2⟩ }

/-- Station 7 with permission to run and head 0 in this dose state, its train so, with a dose of record 3300 in hand. -/
def dosing (dose : DoseState) (train : Train) : State :=
  let head : Head := { Head.atReset false true false with
    dose := dose, hand := some ⟨3300, 2000000#48, 1199, 1590, some 1000000, some 500000, some 50000⟩, train := train
    pulseOut := train = .high 150, enableOut := dose = .run }
  { granted with
    heads := running.heads.set 0 head
    access := running.access }

/-- The same with the grant, head 5 jogging: target 2, one pulse emitted, for tool 20. -/
def jogging (train : Train) : State :=
  { granted with heads := granted.heads.set 5 { Head.atReset false true false with
      production := .out, jog := some ⟨2, 1, 5, 20⟩, train := train, enableOut := true } }

/-- A record of the Tracking Queue, captured 1200 ms ago. -/
def record (sequence : Word32) : Record :=
  { sequence := sequence, capture := 800000#48, origin := .localOrigin, upstreamFill := none
    upstreamReject := false, head := some 0, fill := some ⟨.pending, 0⟩, verdictA := .pending, verdictB := .absent
    unlitA := false, unlitB := false, reasons := Reasons.none, trusted := true }

/-- The state after a command. -/
def took (i : Instr) (s : State) : State :=
  match exec i s with
  | .next t => t
  | .fault _ => s
  | .refused _ => s

/-- What follows a frame command whose frame has been collected. -/
def received (i : Instr) (s : State) : State := took i (framed i s)


/-! ## Ill-formed commands (R60, R76, R141, R161, R198, R204) -/

theorem test_wellFormed_image : (Instr.imageRejected [0x47, 0x55]).wellFormed = false ∧
    (Instr.endOfLoading (List.replicate 135 0)).wellFormed = false := by decide

theorem test_wellFormed_frames : (Instr.checkError (.ended (List.replicate 63 0))).wellFormed = false ∧
    (Instr.frameDiscarded 7 20 6 (List.replicate 57 0)).wellFormed = false ∧
    (Instr.crp 7 20 (List.replicate 32 0)).wellFormed = false ∧ (Instr.evt 7 20 (List.replicate 10 0)).wellFormed = false ∧
    (Instr.arp 7 20 (List.replicate 12 0)).wellFormed = false ∧ (Instr.ans 7 20 [0, 0, 0]).wellFormed = false ∧
    (Instr.ans 7 20 (List.replicate 57 0)).wellFormed = false := by decide

theorem test_wellFormed_heads : (Instr.rawInputChange (.driveFault 8 true)).wellFormed = false ∧
    (Instr.doseStart 8).wellFormed = false ∧ (Instr.lowPhaseEnd 8).wellFormed = false ∧
    (Instr.pulseEmitted 8).wellFormed = false ∧ (Instr.driveReadyChange 8 true).wellFormed = false ∧
    (Instr.meterPulse 8).wellFormed = false ∧ (Instr.doseTimeout 8).wellFormed = false ∧
    (Instr.resumeLimit 8).wellFormed = false ∧ (Instr.settleEnd 8).wellFormed = false ∧
    (Instr.driveFaultActive 8).wellFormed = false ∧ (Instr.driveFaultInactive 8).wellFormed = false := by decide

theorem test_wellFormed_positions : (Instr.arrivalLost 32).wellFormed = false ∧ (Instr.grantExpiry 0).wellFormed = false ∧
    (Instr.grantExpiry 256).wellFormed = false := by decide

/-! ## Frames and characters -/

/-- The check value of a CRC with generator 1021H, start FFFFH, most significant bit first, no final XOR (R160). -/
theorem test_crc : crc16 [0x31, 0x32, 0x33, 0x34, 0x35, 0x36, 0x37, 0x38, 0x39] = 0x29B1#16 := by decide

/-- The bytes of an ARQ: DOOR, span code 8 inverted, 300 s (R201). -/
theorem test_frame_bytes : (frameOf (.arq 7 20 3 0x88 300)).map (List.take 8) =
    some [0x07, 0x14, 0x06, 0x04, 0x03, 0x88, 0x01, 0x2C] := by decide

/-- 1FH goes out least significant bit first (spec/08, 8.11). -/
theorem test_line_byte : lineByte 0x1F = [false, true, true, true, true, true, false, false, false, true] := by decide

/-- A BCN lasts 4 + 10 × 22 = 224 µs (spec/08, 8.11). -/
theorem test_frame_micros : frameMicros 16 = 224 := by decide

/-- A line held dominant breaks reception off at its tenth microsecond (R161). -/
theorem test_held_line : collectFrame (List.replicate 9 false) = none ∧
    collectFrame (List.replicate 10 false) = some (.broken true) := by decide

/-- No row of the table has bits. -/
theorem test_no_words : decodeTableWord 8 0x29 = none := by decide

/-! ## The manual's worked figures -/

/-- Worked rounds of spec/01: +5000, +5006, +4990 give +4995; the SYNCED round gives +4; one offset of -1501 gives -750. -/
theorem test_correction : correction [5000, 5006, 4990] = 4995 ∧ correction [12, -3, 40, 7, -250] = 4 ∧
    correction [-1501] = -750 := by decide

/-- Trim corrections of spec/01: 629 for +3, -11534 for -55, 838 for +4, -1468 for -7; and 838 for 1 µs at 5 ms. -/
theorem test_trim : trimDelta 20000 3 = 629 ∧ trimDelta 20000 (-55) = -11534 ∧ trimDelta 20000 4 = 838 ∧
    trimDelta 20000 (-7) = -1468 ∧ trimDelta 5000 1 = 838 := by decide

/-- The results table of R93 for E 1593 and tolerance 12, and its two corners. -/
theorem test_evaluation : [0, 1579, 1581, 1605, 1606].map (fun m => evaluateDose m 1593 12) =
    [.dry, .short, .ok, .ok, .over] ∧ evaluateDose 3 0 3 = .ok ∧ evaluateDose 0 2 5 = .dry := by decide

/-- The span table of R140 for six heads. -/
theorem test_spans : [0, 2, 3, 6, 9, 14].map (fun code => resolveSpan 6 code false) =
    [0x00#8, 0x30#8, 0x3C#8, 0x0F#8, 0x02#8, 0x00#8] ∧ [0, 2, 3, 6, 9, 14].map (fun code => resolveSpan 6 code true) =
    [0x3F#8, 0x0F#8, 0x03#8, 0x30#8, 0x3D#8, 0x3F#8] ∧ resolveSpan 2 3 false = 0x03#8 := by decide

/-- A sum over FFH bytes agrees (R190). -/
theorem test_sum : sumAgrees (List.replicate 134 0xFF) = true := by decide

/-! ## One step of each family -/

theorem test_power_on_reset : (took .powerOnReset running).loader.station = .reset ∧
    (took .powerOnReset running).clock.time = 0 := by decide

theorem test_reset_pin_keeps_held_lock :
    (took .resetPin { running with access := ⟨some .held, true, [], 1⟩ }).access = ⟨none, true, [], 1⟩ := by decide

theorem test_reset_release : (took (.resetRelease true) { State.reset with loader := { State.reset.loader with
    hold := some 10000 } }).loader.station = .loading := by decide


/-- The image of spec/10, 10.7 in its first fields: address 7, interval 20, decide margin 1600 clamped to 1000 (field 21). -/
def image : List Byte :=
  [0x47, 0x55, 0x01, 0x00, 0x7F, 7, 20, 2, 0, 0, 1, 0x60, 0, 0, 2, 0, 3, 0, 50, 0, 200, 0, 20, 0, 200, 1, 0xF4, 6] ++
  [0, 10, 0, 10, 6, 8, 20, 3, 0x20, 0, 20, 5, 0xDC, 6, 0x40, 1, 0, 1, 0, 70, 0, 60, 0, 5] ++
  [4, 0xB0, 0, 150, 0, 150, 1, 84, 12, 0, 20, 3, 0xE8, 0, 50, 1, 0xF4] ++
  [1, 4, 0, 0, 0x9C, 0x40, 0, 50, 0, 10, 1, 0xF4, 0, 0, 0x4E, 0x20] ++
  [0, 4, 0, 0, 0x9C, 0x40, 0, 50, 0, 10, 1, 0xF4, 0, 0, 0x4E, 0x20] ++ [4, 0, 5, 1, 1, 2, 0x58] ++
  [1, 1] ++ List.replicate 12 2 ++ [1] ++ List.replicate 7 2 ++ [1, 2] ++ [0x71, 0xF9]

/-- A wrong second marker byte ends the read after 2 bytes, at 32 + 16 µs, where those bytes were sampled (R188, R189). -/
theorem test_image_rejected :
    let ill := image.set 1 0x54
    (took (.imageRejected ill) (loading 48 [0x47, 0x54])).loader.station = .faulted ∧
    (took (.imageRejected ill) (loading 47 [0x47, 0x54])).loader.station = .loading ∧
    (took (.imageRejected ill) (loading 48 [0x47, 0x55])).loader.station = .loading := by decide

theorem test_end_of_loading :
    let s := took (.endOfLoading image) (loading 1104 image)
    s.loader.clampRecord = [21] ∧ s.cfg.track.decideMarginMs = 1000 ∧ s.cfg.dosing.expected = 1593 := by decide

/-- Infeed 1001 and pitch 1000 of 0.1 ms, heads 9, upstream 40 on station 30, reject delay 1 (R192, R193, R204). -/
theorem test_fields_at_their_limits :
    let bent := (((((((image.set 5 30).set 27 9).set 28 3).set 29 0xE9).set 30 3).set 31 0xE8).set 32 40).set 39 0 |>.set 40 1
    let r := recordOf bent
    (r.track.heads, r.track.infeedDebounce, r.track.pitchDebounce, r.track.upstream, r.track.rejectDelayMs,
      r.track.decideMarginMs) = (8, 1000, 1000, 0, 2, 1) ∧ clampRecordOf bent = [12, 13, 15, 20, 21] := by decide

/-- "Joining a running hall" of spec/01: three offsets step hall time from 60,012 to 65,007; the first round ends at 85,007. -/
theorem test_end_of_joining :
    let s := took .endOfJoining { joining with
      loader := { joining.loader with joining := some 60000 }
      clock := { joining.clock with time := 60012#48 }
      peers := [5000, 5006, 4990].mapIdx (fun i c => { Peer.atReset with
        presence := .present, offset := some c, quality := some .synced, inRound := true, counted := i < 3 }) ++
        List.replicate 27 Peer.atReset }
    s.clock.time = 65007#48 ∧ s.clock.quality = .acquire ∧ s.clock.nextDue = some 85007#48 := by decide

/-- Row 1 of "From ACQUIRE to SYNCED" of spec/01: c +3 sets slew 192 and trim 629. -/
theorem test_round_end :
    let s := took .roundEnd { running with
      clock := { running.clock with quality := .acquire, nextDue := some 2000000#48 }
      peers := [3, 3, 3, 3].map (fun c => { Peer.atReset with
        presence := .present, offset := some c, quality := some .synced, inRound := true, counted := true }) ++
        List.replicate 26 Peer.atReset }
    s.clock.slew = 192 ∧ s.clock.trim = 629 ∧ s.clock.goodRounds = 1 ∧ s.clock.nextDue = some 2020000#48 := by decide

/-- With slew remaining above zero the fraction gains 2^18 (R2), and 2^48 - 1 goes on from 0 (R1). -/
theorem test_local_microsecond :
    let ticked := fun clock => (took (.localMicrosecond quietPins) { running with clock := clock }).clock
    (ticked { running.clock with slew := 2 }).frac = 262144#24 ∧ (ticked running.clock).time = 2000001#48 ∧
    (ticked { running.clock with time := 0xFFFFFFFFFFFF#48, frac := 9#24 }).time = 0 := by decide

/-- The line goes dominant after 11 recessive microseconds, and not after 10 (R159); then START_MARK stands. -/
theorem test_start_mark :
    let heard := fun idle => took .startMark (took (.localMicrosecond { quietPins with line := .dominant })
      { running with line := { running.line with idle := idle } })
    (heard 11).line.rx = .collecting 2000001#48 ⟨.mark 1, 1, 0⟩ ∧ (heard 10).line.rx = .watching := by decide

/-- A start bit stops the inter-byte timer, and the middle of the stop bit, 83 µs on at 115,200 baud, completes the character:
a line that stays low is 00H with a low stop bit (R111, R113). -/
theorem test_result_line :
    let lineLow : PinSamples := { quietPins with resultA := false }
    let port := fun (rx : SerialReceiver) (timer : Timer) => (took (.localMicrosecond lineLow) { running with
      portA := { running.portA with receiver := rx, assembler := .tag, interByte := timer } }).portA
    ((port .idle (some 345)).receiver, (port .idle (some 345)).interByte) = (.inCharacter 1 [], none) ∧
    (port (.inCharacter 82 (List.replicate 8 false)) none).receiver = .complete none ∧
    (port (.inCharacter 81 (List.replicate 8 false)) none).receiver = .inCharacter 82 (List.replicate 8 false) := by decide

theorem test_check_error :
    (took (.checkError (.ended [1, 2, 3])) (collected (.ended [1, 2, 3]) running)).counter .checkErrors = 1 ∧
    (took (.checkError (.broken true)) (collected (.broken true) running)).line.rx = .waitRecessive := by decide

/-- A line held dominant after a start mark ends the frame at its tenth microsecond; the eleventh recessive one after a byte ends it
whole (R159, R161). -/
theorem test_frame_ends :
    let on := fun (level : LineLevel) (frame : Collecting) => (took (.localMicrosecond { quietPins with line := level })
      { running with line := { running.line with idle := frame.recessive, rx := .collecting 7 frame } }).collected
    on .dominant ⟨.inByte [] [], 9, 0⟩ = some (.broken true) ∧ on .dominant ⟨.inByte [] [], 8, 0⟩ = none ∧
    on .recessive ⟨.between [3, 5] 10, 0, 12⟩ = some (.ended [5, 3]) ∧ on .recessive ⟨.between [3, 5] 9, 0, 11⟩ = none ∧
    on .dominant ⟨.between [3, 5] 4, 0, 12⟩ = some (.ended [5, 3]) := by decide

/-- An unknown KIND from a peer is heard and discarded (R27, R162). -/
theorem test_frame_discarded : 
    let s := took (.frameDiscarded 7 20 0x0D []) (collected (.ended (frameBytes 7 20 0x0D [])) running)
    (s.peer 20).presence = .present ∧ s.counter .discards = 1 := by decide

/-- A beacon's offset: stamp + line delay - start-mark stamp, 1999700 + 2 - 1999600 (R10). -/
theorem test_bcn : ((received (.bcn 31 6 ⟨1999700#48, 2, ⟨1, 1, 0, 0⟩, 20, 0, 0, 0⟩) running).peer 6).offset =
    some 102 := by decide

/-- A cabinet code outside its list makes the report absent (R30). -/
theorem test_cab : ((received (.cab 31 6 ⟨4, 1, 0, 0⟩) running).peer 6).report = none ∧
    ((received (.cab 31 6 ⟨1, 1, 0, 0⟩) running).peer 6).report = some ⟨.on, true, false, false⟩ := by decide

/-- An HND of station 6: expected capture + 800 ms, window ± 20 ms (R62). -/
theorem test_hnd : ((received (.hnd 7 6 ⟨5010, 1500000#48, 3, 1562, 0x20, 0, 0, 1, 1, 2⟩)
    { running with clock := { running.clock with quality := .synced } }).tracking.arrivals.map fun a =>
      (a.windowStart, a.windowEnd, a.trusted, a.rejectPending)) = [(2280000#48, 2320000#48, true, true)] := by decide

theorem test_crp : (received (.crp 31 6 (List.replicate 33 0)) running).counter .framesTaken = 1 := by decide

theorem test_evt : (received (.evt 31 6 (List.replicate 9 0)) running).line.rx = .watching := by decide

theorem test_arp : (received (.arp 31 6 (List.replicate 11 0)) running).counter .framesTaken = 1 := by decide

theorem test_ans : (received (.ans 31 6 (List.replicate 4 0)) running).counter .framesTaken = 1 := by decide

/-- A JOG grant of heads 0 and 5 ends 300 s on; the ARP is GRANTED with the ready mark (R143, R145, R201). -/
theorem test_arq :
    let s := received (.arq 7 20 2 0x0D 300) { granted with access := { granted.access with grants := [] } }
    (s.access.grants.map fun g => (g.number, g.holder, g.heads, g.expiresAt, g.readySent)) =
      [(2, 20, 0x20#8, 302000000#48, true)] ∧ (s.line.queue.map fun e => e.frame.payload.take 4) = [[0, 2, 2, 0x20]] := by
  decide

/-- KEYED with the key OFF refuses with NO_KEY (R142 step 2). -/
theorem test_arq_no_key : ((received (.arq 7 20 2 0x0D 300) running).line.queue.map fun e => e.frame.payload.take 2) =
    [[2, 2]] := by decide

theorem test_arl : (received (.arl 7 20 1) granted).access.grants = [] := by decide

/-- A jog of 3 pulses on head 5 starts on a low phase (R85, R96). -/
theorem test_jog : ((received (.jog 7 20 5 3) granted).head 5).jog = some ⟨3, 0, 0, 20⟩ ∧
    ((received (.jog 7 20 5 3) granted).head 5).train = .low 0 := by decide

/-- A stop together with the last pulse reports STOPPED with the counts of COMPLETE; one microsecond earlier the pulse is cut
(R97). -/
theorem test_jog_stopped :
    let stop := fun n => (received (.jog 7 20 5 0) (jogging (.high n))).line.queue.map fun e => e.frame.payload
    stop 150 = [[7, 5, 2, 0, 2, 0, 5, 0, 0, 0, 0]] ∧ stop 149 = [[7, 5, 2, 0, 1, 0, 5, 0, 0, 0, 0]] := by decide

/-- An LCK of the report address enters HELD and ends the grant (R136, R139). -/
theorem test_lck : (received (.lck 7 20) granted).access.lockMode = some .held ∧
    (received (.lck 7 20) granted).access.grants = [] := by decide

/-- Six entries of the COUNTERS table would be 26; one asked for gives one, here captures with index 0 (R180, R182). -/
theorem test_qry : ((received (.qry 7 20 6 0 1 1) { running with counters := List.replicate 20 258 }).line.queue.map
    fun e => e.frame.payload) = [[6, 0, 20, 1, 1, 2]] ∧
    (received (.qry 7 20 6 0 1 1) { running with counters := List.replicate 20 258 }).counter .captures = 0 := by decide

theorem test_transmit_start : (took .transmitStart { running with line := { running.line with
    idle := 12, cabSlot := .pending } }).line.cabSlot = .sending ∧
    (took .transmitStart { running with line := { running.line with
      idle := 11, cabSlot := .pending } }).line.cabSlot = .pending := by decide

theorem test_frame_sent : (took .frameSent { running with line := { running.line with
    cabSlot := .sending, renew := true, tx := some ⟨.cab, [1], frameLevels [1]⟩ } }).line.cabSlot = .pending := by decide

/-- Station 5 of spec/08, 8.11: a collision leaves the beacon in its slot with attempt count 1 and the backoff mark set. -/
theorem test_collision :
    let heard := fun level => took .collision { running with line := { running.line with
      bcnSlot := some ⟨20, 0, 0, 0⟩, tx := some ⟨.bcn, [1], [false, false, false, level]⟩ } }
    (heard false).line.bcnAttempts = 1 ∧ (heard false).line.backoff = true ∧ (heard false).counter .collisions = 1 ∧
    (heard true).line.bcnAttempts = 0 := by decide

/-- SWB_N is active low (R31). -/
theorem test_raw_input_change : (took (.rawInputChange (.switch true false)) running).cabinet.swB = ⟨true, false, some 0, false⟩ := by
  decide

/-- With d = 0 the infeed goes high, low and high in one local microsecond: one capture (R48). -/
theorem test_one_change_a_microsecond :
    let wire := fun high s => took (.rawInputChange (.infeed high)) s
    let zero : State := { running with loader := { running.loader with
      record := some { station7 with track := { station7.track with infeedDebounce := 0 } } } }
    (wire true (wire false (wire true zero))).counter .captures = 1 := by decide

/-- Both channels settle together: OFF goes straight to ON (R34). -/
theorem test_switch_channel_change : (took .switchChannelChange { running with cabinet := { running.cabinet with
    swA := ⟨true, false, some 5000, false⟩, swB := ⟨true, false, some 5000, false⟩ } }).cabinet.switch = .on := by decide

/-- Channel B alone ON is detail 2 (R35). -/
theorem test_discrepancy :
    let s := took .discrepancy { running with cabinet := { running.cabinet with
      swB := ⟨true, true, none, false⟩, switch := .transit, discrepancy := some 200000 } }
    s.cabinet.switch = .fault ∧ (s.latchOf .discrepancy).content.detail = some 2 := by decide

theorem test_restore_timer_expiry : (took .restoreTimerExpiry { granted with cabinet := { granted.cabinet with
    permission := false, restore := some 1000000 } }).cabinet.permission = true := by decide

/-- The door opens without a DOOR grant: HELD, with detail 3 for INTRUSION (R153). -/
theorem test_door_change :
    let s := took .doorChange { granted with cabinet := { granted.cabinet with door := ⟨false, true, some 2000, false⟩ } }
    s.access.lockMode = some .held ∧ (s.latchOf .intrusion).content.detail = some 3 ∧ s.cabinet.permission = false := by
  decide

theorem test_key_change : (took .keyChange { granted with cabinet := { granted.cabinet with
    key := ⟨false, true, some 2000, false⟩ } }).access.grants = [] := by decide

/-- Station 7 of spec/06, 6.8: the capture meets the head entry in its window; UPSTREAM from its reject pending. -/
theorem test_capture :
    let entry : Arrival := ⟨6, 5010, 1200000#48, some ⟨3, 1562⟩, ⟨2, 0⟩, ⟨0, 0⟩, 1, true, 2000000#48, 1980000#48,
      2020000#48, true⟩
    let s := took .capture { running with tracking := { running.tracking with
      infeed := ⟨true, false, some 1000, false⟩, nextSequence := 3300, arrivals := [entry] } }
    (s.tracking.records.map fun r => (r.sequence, r.origin, r.reasons.upstream)) =
      [(3300, .handed 6 5010, true)] ∧ s.counter .arrivalsMatched = 1 := by decide

theorem test_pitch : (took .pitch { running with tracking := { running.tracking with
    pitch := ⟨true, false, some 1000, false⟩, pocket := some 5 } }).tracking.pocket = some 0 := by decide

/-- The removal needs the window end before hall time, not at it (R64). -/
theorem test_arrival_lost :
    let entry : Arrival := ⟨6, 5010, 1200000#48, none, ⟨2, 0⟩, ⟨0, 0⟩, 0, false, 1979999#48, 1959999#48, 1999999#48, true⟩
    let lost := fun e : Arrival => took (.arrivalLost 0) { running with tracking := { running.tracking with arrivals := [e] } }
    (lost entry).tracking.arrivals = [] ∧ (lost { entry with windowEnd := 2000000#48 }).tracking.arrivals.length = 1 := by
  decide

/-- A record whose dose has not ended is rejected LATE, with a firing from capture + 1500 ms for 70 ms (R68 to R71, R122). -/
theorem test_decide :
    let s := took .decide { running with tracking := { running.tracking with records := [record 3300] } }
    s.tracking.records = [] ∧ s.counter .rejected = 1 ∧
      s.gate.firings = [⟨2300000#48, 2370000#48, 1, 0, .waiting⟩] := by decide

theorem test_dose_start : ((took (.doseStart 0) (dosing .waitStart .stopped)).head 0).dose = .run := by decide

theorem test_low_phase_end : ((took (.lowPhaseEnd 0) (dosing .run (.low 150))).head 0).pulseOut = true ∧
    ((took (.lowPhaseEnd 0) (dosing .run (.low 149))).head 0).train = .low 149 := by decide

/-- The 1200th pulse ends the train (R91). -/
theorem test_pulse_emitted : ((took (.pulseEmitted 0) (dosing .run (.high 150))).head 0).dose = .settle ∧
    ((took (.pulseEmitted 0) (dosing .run (.high 150))).head 0).enableOut = false := by decide

/-- The last pulse of a jog sends JOG_DONE COMPLETE, 2 pulses, 5 meter pulses (R97, R201). -/
theorem test_jog_done : ((took (.pulseEmitted 5) (jogging (.high 150))).line.queue.map fun e => e.frame.payload) =
    [[7, 5, 1, 0, 2, 0, 5, 0, 0, 0, 0]] := by decide

/-- A ready that samples low pauses the train and cuts the pulse, in that microsecond (R76, R86). -/
theorem test_drive_ready_change :
    let paused := took (.driveReadyChange 0 false) (took (.localMicrosecond { quietPins with ready := 0xFE })
      (dosing .run (.high 150)))
    (paused.head 0).train = .paused ∧ (paused.head 0).pulseOut = false ∧ took (.driveReadyChange 0 true) paused = paused := by
  decide

/-- A meter sample high after a sample low is one pulse, and a sample high after it is none (R76, R92). -/
theorem test_meter_pulse :
    let high := took (.localMicrosecond { quietPins with meter := 1 })
    let counted := took (.meterPulse 0) (high (dosing .settle .stopped))
    let meter := fun s : State => (s.head 0).hand.map DoseInHand.meter
    meter counted = some 1591 ∧ took (.meterPulse 0) counted = counted ∧ meter (took (.meterPulse 0) (high counted)) = some 1591 := by
  decide

/-- The record takes STALLED with its meter count (R88, R94). -/
theorem test_dose_timeout : ((took (.doseTimeout 0) { dosing .run (.low 0) with tracking := { running.tracking with
    records := [record 3300] } }).tracking.records.map Record.fill) = [some ⟨.stalled, 1590⟩] := by decide

/-- The record is gone: DOSE_LATE with the head number (R94). -/
theorem test_resume_limit :
    let s := took (.resumeLimit 0) { dosing .suspended .stopped with cabinet := running.cabinet }
    (s.head 0).dose = .idle ∧ (s.latchOf .doseLate).content.detail = some 0 := by decide

theorem test_settle_end : (took (.settleEnd 0) (dosing .settle .stopped)).counter .dosesOk = 1 := by decide

theorem test_drive_fault_active :
    let s := took (.driveFaultActive 0) { granted with heads := granted.heads.modify 0 fun x => { x with
      fault := ⟨true, false, some 1000, false⟩ } }
    (s.head 0).production = .faulted ∧ (s.latchOf .headFault).pending = true := by decide

/-- A head under a grant leaves FAULTED for OUT (R77). -/
theorem test_drive_fault_inactive :
    ((took (.driveFaultInactive 5) { granted with heads := granted.heads.modify 5 fun x => { x with
      fault := ⟨false, true, some 1000, false⟩, production := .faulted } }).head 5).production = .out := by decide

theorem test_grant_expiry : (took (.grantExpiry 1) granted).access.grants = [] ∧
    ((took (.grantExpiry 1) granted).head 5).production = .inProduction := by decide

/-- Two grants that expire at one instant end in ascending order of number (R149). -/
theorem test_grant_expiries_ascend :
    let s : State := { granted with access := { granted.access with
      grants := granted.access.grants ++ [⟨5, 21, .inspect, 0x02#8, 1000000#48, 2000000#48, true⟩] } }
    took (.grantExpiry 5) s = s ∧ (took (.grantExpiry 5) (took (.grantExpiry 1) s)).access.grants = [] := by decide

theorem test_trigger_time :
    let s := { running with tracking := { running.tracking with records := [record 3300] } }
    (took (.triggerTime .a false) s).portA.pending = [⟨0, 3300⟩] ∧
      ((took (.triggerTime .a true) s).tracking.records.map Record.verdictA) = [.notTaken] := by decide

theorem test_trigger_pulse_end : (took (.triggerPulseEnd .a) { running with portA := { running.portA with
    trigger := some 50, triggerOut := true } }).portA.guard = some 0 := by decide

theorem test_guard_end : (took (.guardEnd .a) { running with portA := { running.portA with
    guard := some 10 } }).portA.guard = none ∧
    (took (.guardEnd .a) { running with portA := { running.portA with guard := some 9 } }).portA.guard = some 9 := by decide

theorem test_strobe_due :
    let s := { running with
      portA := { running.portA with schedule := [⟨10, 3300⟩] }
      tracking := { running.tracking with records := [record 3300] } }
    (took (.strobeDue .a) s).portA.strobeOut = true ∧
      ((took (.strobeDue .a) { s with portA := { s.portA with offTimer := some 3 } }).tracking.records.map Record.unlitA) =
        [true] := by decide

theorem test_strobe_end : (took (.strobeEnd .a) { running with portA := { running.portA with
    strobe := some 500, strobeOut := true } }).portA.offTimer = some 0 := by decide

theorem test_strobe_off_expiry : (took (.strobeOffExpiry .a) { running with portA := { running.portA with
    offTimer := some 20000 } }).portA.offTimer = none := by decide

/-- The match of a later tag retires the earlier one MISSED (R115). -/
theorem test_result_message :
    let s := took (.resultMessage .a (0xA5 ^^^ 1 ^^^ 5)) { running with
      portA := { running.portA with receiver := .complete (some (0xA5 ^^^ 1 ^^^ 5)), assembler := .check 1 5, pending := [⟨0, 3300⟩, ⟨1, 3301⟩] }
      tracking := { running.tracking with records := [record 3300, record 3301] } }
    (s.tracking.records.map Record.verdictA) = [.missed, .fail 5] ∧ s.portA.pending = [] := by decide

theorem test_framing_error :
    let c := (took (.framingError .a) { running with portA := { running.portA with
      receiver := .complete none, assembler := .tag } }).portA
    c.assembler = .hunt ∧ c.receiver = .waitHigh := by decide

/-- 40 bit times at 115,200 baud are 347 µs (R111, R113). -/
theorem test_inter_byte_timeout :
    ((took (.interByteTimeout .a) { running with portA := { running.portA with
      assembler := .tag, interByte := some 347 } }).latchOf .cameraLink).pending = true := by decide

/-- A5H starts a message only in HUNT (R112). -/
theorem test_result_byte :
    let heard := fun place => (took (.resultByte .a 0xA5) { running with portA := { running.portA with
      receiver := .complete (some 0xA5), assembler := place } }).portA.assembler
    heard .hunt = .tag ∧ heard .tag = .verdict 0xA5 := by decide

/-- The firing of spec/06, 6.8 merges with the one 60 ms ahead of it. -/
theorem test_handFiring_merges : (({ running with gate := { running.gate with
    firings := [⟨22303000#48, 22373000#48, 1, 0, .waiting⟩] } } : State).handFiring 20863000#48 1).2.gate.firings =
    [⟨22303000#48, 22433000#48, 2, 0, .waiting⟩] := by decide

theorem test_firing_start : (took .firingStart { running with gate := { running.gate with
    firings := [⟨2000000#48, 2070000#48, 1, 0, .waiting⟩] } }).gate.output = true := by decide

theorem test_firing_end : (took .firingEnd { running with gate := { running.gate with
    firings := [⟨1930000#48, 2000000#48, 1, 0, .on⟩], output := true } }).gate.firings =
    [⟨1930000#48, 2000000#48, 1, 0, .tail⟩] := by decide

/-- The end of one firing leaves the gate high for another that is ON already (R124). -/
theorem test_gate_stays_high : (took .firingEnd { running with gate := { running.gate with
    firings := [⟨1930000#48, 2000000#48, 1, 0, .on⟩, ⟨1990000#48, 2060000#48, 1, 0, .on⟩], output := true } }).gate.output =
    true := by decide

theorem test_confirm_edge : (took .confirmEdge { running with gate := { running.gate with
    confirm := ⟨true, false, some 500, false⟩, firings := [⟨1930000#48, 1990000#48, 2, 1, .tail⟩] } }).gate.firings = [] := by decide

/-- The third unconfirmed firing in a row sets the gate fault, with detail 3 (R127). -/
theorem test_confirm_window_end :
    let s := took .confirmWindowEnd { running with gate := { running.gate with
      firings := [⟨1900000#48, 1940000#48, 1, 0, .tail⟩], unconfirmed := 2 } }
    s.gate.fault = true ∧ (s.latchOf .gateFault).content.detail = some 3 := by decide

theorem test_debounce_timer_expiry : (took (.debounceTimerExpiry .infeed) { running with tracking := { running.tracking with
    infeed := ⟨false, true, some 1000, false⟩ } }).tracking.infeed = ⟨false, false, none, true⟩ := by decide

/-! ## Witnesses: what the statements suppose can stand, clause by clause, at the edges of the ranges they name -/

/-- A frame command whose frame has been collected passes the line for its stations. -/
theorem framed_passes {i : Instr} {s : State} {dest src : Byte} (frames : (frameOf i).isSome = true)
    (listens : s.listening = true) (stations : src ≠ s.ownAddress ∧ isStation src = true ∧ s.isForUs dest = true) :
    (framed i s).passesLine i dest src := by
  obtain ⟨bytes, e⟩ := Option.isSome_iff_exists.mp frames
  exact ⟨(State.hasFrame_iff _ _).mpr ⟨bytes, e, listens, _, _, rfl, by rw [e]; rfl⟩, stations⟩

/-- And in RUNNING, not sent to 31, it is one that its owner acts on. -/
theorem framed_owns {i : Instr} {s : State} {dest src : Byte} (frames : (frameOf i).isSome = true)
    (runs : s.running = true ∧ s.listening = true ∧ dest ≠ 31)
    (stations : src ≠ s.ownAddress ∧ isStation src = true ∧ s.isForUs dest = true) : (framed i s).owns i dest src :=
  ⟨framed_passes frames runs.2.1 stations, runs.1, runs.2.2⟩

/-- One grant stands soundly. -/
theorem granted_grants : granted.GrantsSound :=
  ⟨by decide, List.pairwise_singleton _ _, List.pairwise_singleton _ _, by decide, by decide, by decide, by decide, by decide⟩

/-- No grant stands soundly. -/
theorem running_grants : running.GrantsSound :=
  ⟨by decide, List.Pairwise.nil, List.Pairwise.nil, by decide, by decide, by decide, by decide, by decide⟩

theorem witness_NothingActsBeforeJoining : needsListening .roundEnd = true ∧ (loading 0 []).listening = false := by decide

theorem witness_ResetReleaseEntersLoading : State.reset.loader.station = .reset ∧ State.reset.loader.hold = some 0 ∧
    (took .resetPin running).loader.station = .reset ∧ (took .resetPin running).loader.hold = none := by decide

/-- Every row of R189 fails somewhere, and an image passes; the bytes that decide are sampled, with one bit of the next. -/
theorem witness_RejectedImageFaults :
    let s : State := { loading 48 [] with loader := { (loading 48 []).loader with sampled := sentBits [0x47, 0x54] ++ [true] } }
    s.loader.station = .loading ∧ s.loader.readTimer = some 48 ∧ [true].length < 8 ∧ (image.set 1 0x54).length = 134 ∧
    32 + 8 * 2 ≤ 48 ∧ [0x47, 0x54].take 2 = (image.set 1 0x54).take 2 ∧ (image.set 1 0x54).getD 1 0 ≠ 0x55 ∧
    (image.set 2 2).getD 2 0 ≠ 1 ∧ (image.set 4 0x7E).getD 4 0 ≠ 0x7F ∧ sumAgrees (image.set 132 0) = false ∧
    sumAgrees image = true ∧ 1 ≤ (image.getD 5 0).toNat ∧ (image.getD 5 0).toNat ≤ 30 := by decide

theorem witness_EndOfLoadingEntersJoining :
    let s := loading 1104 image
    s.loader.station = .loading ∧ s.loader.readTimer = some 1104 ∧ failsAfter image = none ∧
    s.loader.sampled = sentBits image ∧ s.peers.length = 30 ∧ s.latches.length = 24 ∧ s.access.grants = [] ∧
    s.cabinet.door.state = false ∧ s.cabinet.permission = false ∧ s.latchOf .accessHeld = Latch.clear 1 ∧
    (recordOf image).track.gateFitted = true ∧ s.gate.confirm.timer = none := by decide

theorem witness_ConfigurationStaysInRange : imageAddress (image.set 5 1) = 1 ∧ imageAddress (image.set 5 30) = 30 ∧
    (image.set 5 30).length = 134 := by decide

/-- The clamp record of the example holds one field. -/
theorem witness_EndOfJoiningEntersRunning :
    let s : State := { joining with loader := { joining.loader with joining := some 60000, clampRecord := [21] } }
    s.loader.station = .joining ∧ 3 * s.intervalMicros = 60000 ∧ s.cabinet.permission = false ∧ s.cabinet.restore = none ∧
    s.latches.length = 24 ∧ s.latchOf .configClamped = Latch.clear 2 ∧ s.latchOf .timeQuality = Latch.clear 2 ∧
    s.loader.clampRecord.getLast? = some 21 ∧ s.line.bcnSlot = none ∧ s.access.lockMode.isSome = true := by decide

theorem witness_HallTimeAdvancesByIncrement : running.loader.station ≠ .reset ∧ -4096 ≤ running.clock.trim ∧
    running.clock.trim ≤ 4096 := by decide

/-- A character whose 8 data bits are taken. -/
theorem witness_DurationsCountLocalMicroseconds :
    let s : State := { running with portA := { running.portA with receiver := .inCharacter 82 (List.replicate 8 false) } }
    ∀ p gone bits, (s.port p).receiver = .inCharacter gone bits → bits.length ≤ 8 := by
  intro _ p gone bits h
  cases p <;> cases h
  decide

theorem witness_CorrectionIsTrimmedMean : [-1501, 0].Perm (0 :: [-1501]) ∧ [-1501, 0].Pairwise (· ≤ ·) := by decide

/-- A due round end, at its due point and past it; a latch clear; in RUNNING. -/
theorem witness_RoundEndMovesQuality :
    let s : State := { running with clock := { running.clock with nextDue := some 2000000#48 } }
    s.running = true ∧ s.clock.nextDue = some 2000000#48 ∧ reached 2000000#48 s.now = true ∧ s.latches.length = 24 ∧
    s.latchOf .timeDisagree = Latch.clear 2 ∧ s.latchOf .timeQuality = Latch.clear 2 := by decide

/-- A round that steps: one counted peer at 3000, so c is 1500; and its frame in collection. -/
theorem witness_RoundEndStepsOrSlews :
    let s : State := { framed (.lck 7 20) running with
      clock := { running.clock with nextDue := some 1999999#48 }
      peers := running.peers.set 0 { Peer.atReset with
        presence := .present, offset := some 3000, quality := some .synced, inRound := true, counted := true } }
    s.running = true ∧ reached 1999999#48 s.now = true ∧ roundOutcome s.includedOffsets = some 1500 ∧
    (took .roundEnd s).clock.quality = .acquire ∧ s.timedWork = false ∧
    s.line.rx = .collecting 1999600#48 ⟨.over (.ended ((frameOf (.lck 7 20)).getD [])), 0, 12⟩ ∧
    s.line.bcnSlot = none ∧ s.access.lockMode.isSome = true := by decide

/-- One peer, and it alone, is at the absent limit. -/
theorem witness_RoundEndAdvancesSilence :
    let s : State := { running with
      clock := { running.clock with nextDue := some 2000000#48 }
      peers := running.peers.set 29 { Peer.atReset with presence := .present, silence := 2 } }
    s.running = true ∧ reached 2000000#48 s.now = true ∧ s.peers.length = 30 ∧ s.latches.length = 24 ∧
    s.latchOf .peerAbsent = Latch.clear 2 ∧ ∀ b, b ≤ 30 → 1 ≤ b →
      ((s.peer b).presence = .present ∧ (s.peer b).heard = false ∧
        (s.peer b).silence + 1 = s.cfg.hall.absentLimit ↔ b = 30) := by decide

/-- A dependent peer falls silent while station 7 has run permission and head 0 doses. -/
theorem witness_RoundEndAdvancesSilence_dependent :
    let s : State := { dosing .run (.low 0) with
      clock := { running.clock with nextDue := some 2000000#48 }
      peers := granted.peers.set 29 { Peer.atReset with
        presence := .present, silence := 2, dependent := true, report := some ⟨.on, true, false, true⟩ } }
    s.running = true ∧ reached 2000000#48 s.now = true ∧ s.peers.length = 30 ∧ s.latches.length = 24 ∧
    (∃ p ∈ s.peers, p.dependent = true ∧ (p.presence = .present ∧ p.heard = false) ∧
      p.silence + 1 = s.cfg.hall.absentLimit) ∧ s.cabinet.permission = true ∧ (s.head 0).Sound :=
  ⟨by decide, by decide, by decide, by decide, by decide, by decide,
    ⟨by decide, by decide, by decide, iff_of_false (by decide) (fun ⟨n, h⟩ => nomatch (h : Train.low 0 = Train.high n)),
      by decide, by decide, by decide, by decide, by decide, by decide⟩⟩

theorem witness_OccurrencesAndCountsSaturate : running.latches.length = 24 ∧
    (running.latchOf .txDrop).blocked = false ∧ (running.latchOf .txDrop).pending = false ∧
    (⟨true, ⟨255, some 0, some 0⟩, 2, 0, 0, false, Gathered.none⟩ : Latch).pending = true ∧
    (⟨true, ⟨1, some 0, some 0⟩, 2, 0, 0, true, Gathered.none⟩ : Latch).blocked = true := by decide

theorem witness_TakenFrameMarksItsPeer : granted.peers.length = 30 ∧
    (∀ payload, (framed (.crp 31 30 payload) granted).passesLine (.crp 31 30 payload) 31 30 ∧
      (framed (.ans 31 30 payload) granted).passesLine (.ans 31 30 payload) 31 30) ∧
    (List.replicate 4 (0 : Byte)).length = 4 ∧ (List.replicate 56 (0 : Byte)).length = 56 :=
  ⟨by decide, fun _ => ⟨framed_passes rfl (by decide) (by decide), framed_passes rfl (by decide) (by decide)⟩, by decide,
    by decide⟩

/-- A JOG to 31 is refused by its owner, an LCK in JOINING too; clashes and bad addresses stand apart. -/
theorem witness_FrameCommandsAreJudged : (Instr.jog 31 20 0 1).wellFormed = true ∧ (frameOf (.jog 31 20 0 1)).isSome = true ∧
    ((frameOf (.jog 31 20 0 1)).getD []).getD 2 0 ∈ [0x03#8, 0x06#8, 0x08#8, 0x09#8, 0x0B#8] ∧
    ((frameOf (.lck 7 20)).getD []).getD 2 0 = 0x0A#8 ∧ granted.listening = true ∧
    (framed (.jog 31 20 0 1) granted).passesLine (.jog 31 20 0 1) 31 20 ∧
    (framed (.lck 7 20) joining).passesLine (.lck 7 20) 7 20 ∧ granted.ownAddress = 7 ∧
    (0 : Byte) ≠ granted.ownAddress ∧ (31 : Byte).toNat > 30 ∧ ∀ got, (collected got running).line.rx =
      .collecting 1999600#48 ⟨.over got, 0, 12⟩ :=
  ⟨by decide, by decide, by decide, by decide, by decide, framed_passes rfl (by decide) (by decide),
    framed_passes rfl (by decide) (by decide), by decide, by decide, by decide, fun _ => rfl⟩

theorem witness_FailedFramesAreCounted : running.listening = true ∧ running.line.rx = .watching ∧
    ({ running.line with startMark := true } : LinePort).rx = .watching ∧ running.line.startMark = false ∧
    (∀ got, (collected got running).line.rx = .collecting 1999600#48 ⟨.over got, 0, 12⟩) ∧ (List.replicate 5 (0 : Byte)).length < 6 ∧
    (List.replicate 63 (0 : Byte)).length > 62 ∧ running.ownAddress = 7 ∧
    (¬∃ row ∈ [((0x0B, 4, 4) : Byte × Nat × Nat), (0x0C, 4, 56)], row.1 = 0x0D ∧ row.2.1 ≤ 0 ∧ 0 ≤ row.2.2) ∧
    (¬∃ row ∈ [((0x0B, 4, 4) : Byte × Nat × Nat), (0x0C, 4, 56)], row.1 = 0x0C ∧ row.2.1 ≤ 3 ∧ 3 ≤ row.2.2) :=
  ⟨by decide, by decide, by decide, by decide, fun _ => rfl, by decide, by decide, by decide, by decide, by decide⟩

theorem witness_BeaconGivesOffsetAndReport : ∀ b, (∃ frame, (framed (.bcn 31 30 b) granted).line.rx =
    .collecting 1999600#48 frame) ∧ (framed (.bcn 31 30 b) granted).passesLine (.bcn 31 30 b) 31 30 ∧
    granted.peers.length = 30 := fun _ => ⟨⟨_, rfl⟩, framed_passes rfl (by decide) (by decide), by decide⟩

/-- The dependent peer 30, once unknown, reports ON and CLOSED while nothing else keeps run permission down; with a restore delay
and without. -/
theorem witness_CabReportMovesPermission_rises :
    let s : State := framed (.cab 31 30 ⟨1, 1, 0, 1⟩) { granted with
      cabinet := { granted.cabinet with permission := false }
      peers := granted.peers.set 29 { Peer.atReset with dependent := true } }
    let peers := s.peers.set 29 { s.peer 30 with
      presence := .present, silence := 0, heard := true, report := some ⟨.on, true, false, true⟩ }
    s.passesLine (.cab 31 30 ⟨1, 1, 0, 1⟩) 31 30 ∧ s.peers.length = 30 ∧ s.runConditions = false ∧
    ({ s with peers := peers } : State).runConditions = true ∧ s.cabinet.permission = false ∧ s.cabinet.restore = none ∧
    s.cfg.hall.restoreMs ≠ 0 ∧ (at' .running ConfigRecord.empty).cfg.hall.restoreMs = 0 :=
  ⟨framed_passes rfl (by decide) (by decide), by decide, by decide, by decide, by decide, by decide, by decide, by decide⟩

/-- The dependent peer 30 reports OFF while station 7 has run permission and head 0 doses. -/
theorem witness_CabReportMovesPermission :
    let s : State := framed (.cab 31 30 ⟨0, 1, 0, 0⟩) { dosing .run (.low 0) with
      peers := granted.peers.set 29 { Peer.atReset with
        presence := .present, dependent := true, report := some ⟨.on, true, false, true⟩ } }
    s.passesLine (.cab 31 30 ⟨0, 1, 0, 0⟩) 31 30 ∧ s.peers.length = 30 ∧ (s.peer 30).dependent = true ∧
    [SwitchState.off, .on, .transit, .fault].getD (0 : Byte).toNat .off ≠ .on ∧ s.cabinet.permission = true ∧ (s.head 0).Sound :=
  ⟨framed_passes rfl (by decide) (by decide), by decide, by decide, by decide, by decide,
    ⟨by decide, by decide, by decide, iff_of_false (by decide) (fun ⟨n, h⟩ => nomatch (h : Train.low 0 = Train.high n)),
      by decide, by decide, by decide, by decide, by decide, by decide⟩⟩

/-- A full queue whose newest ANS is in an attempt, behind it a full queue of CRP frames. -/
theorem witness_HandoverFollowsQueueTable :
    let crp : QueueEntry := ⟨⟨.crp, 20, []⟩, 2, 4100, 0, false⟩
    let ans : QueueEntry := ⟨⟨.ans, 25, []⟩, 3, 4800, 0, false⟩
    let q := List.replicate 14 crp ++ [ans, { ans with inAttempt := true }]
    q.Pairwise (fun x y => x.cls ≤ y.cls) ∧ q.length = 16 ∧ q = List.replicate 14 crp ++ ans :: [{ ans with inAttempt := true }] ∧
    (∀ e ∈ [{ ans with inAttempt := true }], e.cls = 3 → e.inAttempt = true) ∧
    (List.replicate 16 crp).Pairwise (fun x y => x.cls ≤ y.cls) ∧
    (∀ e ∈ List.replicate 16 crp, e.cls = 3 → e.inAttempt = true) ∧ running.line.queue.length < 16 := by decide

/-- Where no latch of the 24 is offered, none is. -/
theorem unoffered {s : State} {cls : Nat}
    (h : ∀ i, i < 24 → ¬((s.latch i).pending = true ∧ (s.latch i).blocked = false ∧ (s.latch i).cls = cls)) :
    ∀ i, ¬s.offersLatch cls i := fun i o => h i o.2.1 o.2.2

/-- The first offered of the 24 is the first offered. -/
theorem offered_first {s : State} {cls i : Nat} (r : s.cfg.track.report ≠ 0 ∧ i < 24)
    (o : (s.latch i).pending = true ∧ (s.latch i).blocked = false ∧ (s.latch i).cls = cls)
    (h : ∀ j, j < 24 → (s.latch j).pending = true ∧ (s.latch j).blocked = false ∧ (s.latch j).cls = cls →
      (s.latch i).ready < (s.latch j).ready ∨ ((s.latch i).ready = (s.latch j).ready ∧ i ≤ j)) :
    s.offersFirst cls i := ⟨⟨r.1, r.2, o⟩, fun j p => h j p.2.1 p.2.2⟩

/-- Station 7 with an idle line, latches of these sources pending from these local times, and this General Queue. -/
def offering (sources : List (Nat × Nat)) (queue : List QueueEntry) : State :=
  { running with
    latches := running.latches.mapIdx fun i l => match sources.find? fun p => p.1 = i with
      | some p => { l with pending := true, content := ⟨1, some 0, some 0⟩, ready := p.2 }
      | none => l
    line := { running.line with idle := 12, queue := queue } }

/-- An entry of the General Queue. -/
def entry (kind : FrameKind) (cls ready : Nat) : QueueEntry := ⟨⟨kind, 20, []⟩, cls, ready, 0, false⟩

/-- Each group of the send order: the slots, a class 1 latch by the lowest source on a tie, a class 2 latch as old as the entry,
an older entry, and class 3. -/
theorem witness_TransmitStartFollowsSendOrder :
    (running.running = true ∧ running.line.tx = none ∧ running.latches.length = 24 ∧
      (if running.line.backoff then 12 + 16 * running.cfg.hall.address else 12) = 12) ∧
    (offering [(0, 5), (22, 5)] []).offersFirst 1 0 ∧
    ((∀ i, ¬(offering [(8, 6)] [entry .crp 2 6]).offersLatch 1 i) ∧ (offering [(8, 6)] [entry .crp 2 6]).offersFirst 2 8 ∧
      ∀ e ∈ (offering [(8, 6)] [entry .crp 2 6]).line.queue,
        ((offering [(8, 6)] [entry .crp 2 6]).latch 8).ready ≤ e.ready) ∧
    (∀ i, ¬(offering [] [entry .crp 2 5, entry .ans 3 4]).offersLatch 2 i) ∧
    (∀ i, ¬(offering [] [entry .ans 3 4]).offersLatch 2 i) ∧ ∀ e ∈ (offering [] [entry .ans 3 4]).line.queue, e.cls ≠ 2 :=
  ⟨by decide, offered_first (by decide) (by decide) (by decide),
    ⟨unoffered (by decide), offered_first (by decide) (by decide) (by decide), by decide⟩,
    unoffered (by decide), unoffered (by decide), by decide⟩

/-- An attempt of each candidate. -/
theorem witness_SentFrameLeavesItsPlace :
    let e : QueueEntry := { entry .hnd 2 5 with inAttempt := true }
    let l : Latch := ⟨true, ⟨1, some 0, some 0⟩, 2, 5, 0, true, ⟨1, some 0, some 0⟩⟩
    let s : State := { running with
      latches := running.latches.set 23 l
      line := { running.line with queue := [e, entry .ans 3 6] } }
    23 < s.latches.length ∧ s.latch 23 = l ∧ s.line.queue = [] ++ e :: [entry .ans 3 6] ∧ e.inAttempt = true ∧
    (∀ x ∈ [] ++ [entry .ans 3 6], x.inAttempt = false) ∧ s.line.tx = none ∧
    ([] : List Bool) ≠ frameLevels [] := by decide

/-- The same with attempt counts 7, so that the eighth collision comes. -/
theorem witness_CollisionReturnsCandidate :
    let e : QueueEntry := { entry .hnd 2 5 with inAttempt := true, attempts := 7 }
    let s : State := { running with
      latches := running.latches.set 23 ⟨true, ⟨1, some 0, some 0⟩, 2, 5, 7, true, Gathered.none⟩
      line := { running.line with queue := [entry .crp 2 4, e], bcnAttempts := 7, cabAttempts := 7 } }
    s.latches.length = 24 ∧ (s.latch 23).attempts ≤ 7 ∧ s.line.bcnAttempts ≤ 7 ∧ s.line.queue = [entry .crp 2 4] ++ e :: [] ∧
    (∀ x ∈ [entry .crp 2 4], x.inAttempt = false) ∧ e.attempts ≤ 7 ∧
    (let heard := [false, false, false, false]
     4 + 10 * 0 ≤ heard.length ∧ heard.take (4 + 10 * 0) ≠ (frameLevels [7]).take (4 + 10 * 0)) ∧
    (¬∃ k, 4 + 10 * k ≤ ([] : List Bool).length ∧ ([] : List Bool).take (4 + 10 * k) ≠ (frameLevels [7]).take (4 + 10 * k)) := by
  refine ⟨by decide, by decide, by decide, by decide, by decide, by decide, by decide, ?_⟩
  rintro ⟨k, hk, -⟩
  simp at hk

theorem witness_QueryIsAnswered : (∀ table, (framed (.qry 7 1 table 0 1 1) running).owns (.qry 7 1 table 0 1 1) 7 1) ∧
    7 < (8 : Byte).toNat ∧ (7 : Byte).toNat ≤ 7 :=
  ⟨fun _ => framed_owns rfl (by decide) (by decide), by decide, by decide⟩

/-- An HND that is late and one that is not, at the edge; a full list; another sender. -/
theorem witness_HandoverIsListed :
    let late : Time := 2000000#48 - 820001#48
    (∀ h, (framed (.hnd 7 1 h) running).owns (.hnd 7 1 h) 7 1 ∧ (framed (.hnd 7 6 h) granted).owns (.hnd 7 6 h) 7 6) ∧
    running.cfg.track.upstream ≠ 1 ∧ (6 : Byte).toNat = granted.cfg.track.upstream ∧
    before (late + BitVec.ofNat 48 800000 + BitVec.ofNat 48 20000) granted.now = true ∧
    before (late + 1 + BitVec.ofNat 48 800000 + BitVec.ofNat 48 20000) granted.now = false ∧
    granted.tracking.arrivals.length < 32 :=
  ⟨fun _ => ⟨framed_owns rfl (by decide) (by decide), framed_owns rfl (by decide) (by decide)⟩, by decide, by decide, by decide,
    by decide, by decide⟩

theorem witness_SpanCodesNameHeadSets : (8 ≤ 8 ∧ 15 < 16 ∧ 7 < 8) ∧ (0 ≤ 8 ∧ 0 < 16 ∧ 0 < 8) := by decide

/-- The grant stands soundly while a frame waits to be judged. -/
theorem framed_grants (i : Instr) : (framed i granted).GrantsSound :=
  let g := granted_grants
  ⟨g.capacity, g.apart, g.ascending, g.numbers, g.next, g.locked, g.outside, g.held⟩

/-- A second grant, INSPECT of head 1; and a DOOR grant with the switch OFF. -/
theorem witness_AccessRequestIsGranted :
    (framed (.arq 7 20 1 0x09 300) granted).owns (.arq 7 20 1 0x09 300) 7 20 ∧ levelCode .inspect = 1 ∧
    (framed (.arq 7 20 1 0x09 300) granted).GrantsSound ∧
    granted.heads.length = 8 ∧ granted.access.lockMode = some .keyed ∧
    granted.cabinet.key.state = true ∧ resolveSpan 6 9 false = 0x02#8 ∧
    (∀ g ∈ granted.access.grants, g.heads &&& 0x02#8 = 0 ∧ g.level ≠ .door) ∧
    granted.access.grants.length < 4 ∧ running.cabinet.switch = .off :=
  ⟨framed_owns rfl (by decide) (by decide), rfl, framed_grants _, by decide, by decide, by decide, by decide, by decide, by decide, by decide⟩

/-- Four INSPECT grants. -/
def four : State :=
  { granted with access := ⟨some .keyed, false, [1, 2, 3, 4].map fun n =>
      ⟨n, 20, .inspect, BitVec.ofNat 8 (2 ^ n), 1000000#48, 3000000#48, true⟩, 5⟩ }

/-- Each step of R142 that ends the decision. -/
theorem witness_AccessRequestFollowsSteps :
    (∀ level span seconds, (framed (.arq 7 20 level span seconds) granted).owns (.arq 7 20 level span seconds) 7 20 ∧
      (framed (.arq 7 21 level span seconds) granted).owns (.arq 7 21 level span seconds) 7 21) ∧
    (∀ i, (framed i granted).GrantsSound) ∧ granted.access.lockMode = some .keyed ∧ granted.cabinet.key.state = true ∧
    running.cabinet.key.state = false ∧ (0 : Byte).toNat = 0 ∧ 3 < (4 : Byte).toNat ∧
    granted.cabinet.switch ≠ .off ∧ resolveSpan 6 15 false = 0 ∧
    (∃ g ∈ granted.access.grants, g.holder = (20 : Byte).toNat ∧ g.level = .jog ∧ g.heads = resolveSpan 6 13 false) ∧
    (∃ g ∈ granted.access.grants, g.holder ≠ (21 : Byte).toNat ∧ g.heads &&& resolveSpan 6 13 false ≠ 0) ∧
    four.GrantsSound ∧ four.access.grants.length = 4 ∧ (∀ g ∈ four.access.grants, g.heads &&& resolveSpan 6 8 false = 0) ∧
    (⟨some .fixed, false, [], 1⟩ : Access).lockMode = some .fixed :=
  ⟨fun _ _ _ => ⟨framed_owns rfl (by decide) (by decide), framed_owns rfl (by decide) (by decide)⟩, framed_grants, by decide,
    by decide, by decide, by decide, by decide, by decide, by decide, by decide, by decide,
    ⟨by decide, by unfold Grant.Apart; decide, by decide, by decide, by decide, by decide, by decide, by decide⟩, by decide,
    by decide, rfl⟩

theorem witness_GrantEndsInOrder : (jogging (.low 0)).heads.length = 8 := by decide

/-- The grant is due at this microsecond, and not due one before it. -/
theorem witness_GrantsEndByReleaseAndExpiry : (∀ i, (framed i granted).GrantsSound) ∧
    (∀ n, (framed (.arl 7 20 n) granted).owns (.arl 7 20 n) 7 20 ∧ (framed (.arl 7 21 n) granted).owns (.arl 7 21 n) 7 21) ∧
    (∀ g ∈ granted.access.grants, g.number = (1 : Byte).toNat ∧ g.number ≠ (2 : Byte).toNat ∧
      g.holder = (20 : Byte).toNat ∧ g.holder ≠ (21 : Byte).toNat ∧ reached g.expiresAt granted.now = true ∧
      reached g.expiresAt (granted.now - 1) = false) ∧ granted.running = true ∧
    (let s : State := { granted with access := { granted.access with
      grants := granted.access.grants ++ [⟨5, 21, .inspect, 0x02#8, 1000000#48, 2000000#48, true⟩] } }
     s.GrantsSound ∧ (∀ g ∈ s.access.grants, reached g.expiresAt s.now = true) ∧
       (∃ g ∈ s.access.grants, ∃ k ∈ s.access.grants, k.number < g.number) ∧
       ∃ g ∈ s.access.grants, ∀ k ∈ s.access.grants, ¬k.number < g.number) :=
  ⟨framed_grants, fun _ => ⟨framed_owns rfl (by decide) (by decide), framed_owns rfl (by decide) (by decide)⟩, by decide, by decide,
    ⟨by decide, by unfold Grant.Apart; decide, by decide, by decide, by decide, by decide, by decide, by decide⟩, by decide,
    by decide, by decide⟩

/-- Tool 20 holds head 5 and tool 21 does not; head 5 stands OUT, with a jog and without. -/
theorem witness_JogFollowsSteps :
    (∀ count, (framed (.jog 7 20 5 count) granted).owns (.jog 7 20 5 count) 7 20 ∧
      (framed (.jog 7 21 5 count) granted).owns (.jog 7 21 5 count) 7 21) ∧ granted.heads.length = 8 ∧
    (∃ g ∈ granted.access.grants, g.holder = (20 : Byte).toNat ∧ g.level = .jog ∧ g.heads.getLsbD 5 = true) ∧
    (¬∃ g ∈ granted.access.grants, g.holder = (21 : Byte).toNat ∧ g.level = .jog ∧ g.heads.getLsbD 5 = true) ∧
    granted.cabinet.permission = true ∧ running.cabinet.permission = false ∧ (granted.head 5).production = .out ∧
    (granted.head 5).jog = none ∧ ((jogging (.low 0)).head 5).jog = some ⟨2, 1, 5, 20⟩ ∧
    (((jogging (.high 150)).head 5).train = .high 150 ∧ granted.cfg.dosing.highTime = 150 ∧ 5 < granted.cfg.track.heads) ∧
    ({ granted.head 5 with production := .faulted } : Head).production = .faulted ∧
    ({ granted.head 5 with production := .draining } : Head).production = .draining :=
  ⟨fun _ => ⟨framed_owns rfl (by decide) (by decide), framed_owns rfl (by decide) (by decide)⟩, by decide, by decide, by decide,
    by decide, by decide, by decide, by decide, by decide, by decide, rfl, rfl⟩

/-- An LCK of a holder, of no one, and in HELD. -/
theorem witness_LockOutEntersHeld : (framed (.lck 7 20) granted).passesLine (.lck 7 20) 7 20 ∧ granted.running = true ∧
    (framed (.lck 7 20) granted).GrantsSound ∧ granted.access.lockMode ≠ some .held ∧
    (granted.cfg.track.report = (20 : Byte).toNat) ∧ (framed (.lck 7 1) running).passesLine (.lck 7 1) 7 1 ∧
    ¬(running.cfg.track.report = (1 : Byte).toNat) ∧
    ({ running with access := ⟨some .held, true, [], 1⟩ } : State).GrantsSound :=
  ⟨framed_passes rfl (by decide) (by decide), by decide, framed_grants _, by decide, by decide,
    framed_passes rfl (by decide) (by decide), by decide,
    ⟨by decide, List.Pairwise.nil, List.Pairwise.nil, by decide, by decide, by decide, by decide, by decide⟩⟩

/-- Debounce figures above 0 and at 0; a head; the three inputs whose change back is due. -/
theorem witness_RawInputMovesStabilityTimer : running.cfg.hall.switchDebounce ≠ 0 ∧ State.reset.listening = false ∧
    (at' .running ConfigRecord.empty).listening = true ∧ (at' .running ConfigRecord.empty).cfg.hall.switchDebounce = 0 ∧
    7 < running.heads.length ∧ running.listening = true ∧ running.tracking.infeed.raw = false ∧
    running.tracking.pitch.raw = false ∧ running.gate.confirm.raw = false ∧ running.cfg.track.infeedDebounce * 100 ≤ 1000 ∧
    running.cfg.track.confirmDebounce * 100 ≤ 500 ∧ running.tracking.infeed.moved = false := by decide

theorem witness_SwitchFollowsTable :
    let s : State := { running with cabinet := { running.cabinet with
      swA := ⟨true, false, some 5000, false⟩, switch := .transit, discrepancy := some 200000 } }
    s.listening = true ∧ s.cabinet.swA.timer.any (fun n => s.cfg.hall.switchDebounce * 100 ≤ n) = true ∧
    s.cabinet.switch = .transit ∧ s.cfg.hall.discrepancyMs * 1000 ≤ 200000 := by decide

/-- The conditions hold with permission, without, and with the restore timer at its delay; and they fail. -/
theorem witness_PermissionFollowsConditions : granted.heads.length = 8 ∧ granted.cfg.track.heads ≤ 8 ∧
    granted.running = true ∧ granted.runConditions = true ∧ granted.cabinet.permission = true ∧
    running.runConditions = false ∧ running.cabinet.permission = false ∧ granted.cfg.hall.restoreMs * 1000 ≤ 1000000 ∧
    (let s : State := { dosing .run .paused with cabinet := { granted.cabinet with switch := .off } }
     s.runConditions = false ∧ s.cabinet.permission = true ∧ (s.head 0).dose = .run ∧ s.cfg.dosing.resumeMs ≠ 0 ∧
     ({ s with loader := { s.loader with record := some { station7 with
       dosing := { station7.dosing with resumeMs := 0 } } } } : State).cfg.dosing.resumeMs = 0 ∧
     (s.head 0).hand.isSome = true ∧ ∀ k, k < 8 → k ≠ 0 → (s.head k).hand = none) := by decide

theorem witness_DoorAndKeyChangesAct :
    let s : State := { granted with cabinet := { granted.cabinet with
      door := ⟨false, true, some 2000, false⟩, key := ⟨false, true, some 2000, false⟩ } }
    s.listening = true ∧ s.cabinet.door.moved = false ∧ s.cabinet.key.moved = false ∧ s.cabinet.door.timer = some 2000 ∧ s.cfg.hall.doorDebounce * 100 ≤ 2000 ∧
    s.cabinet.key.timer = some 2000 ∧ s.cfg.hall.keyDebounce * 100 ≤ 2000 := by decide

theorem witness_CaptureOpensRecord :
    let s : State := { running with tracking := { running.tracking with infeed := ⟨true, false, some 1000, false⟩ } }
    s.running = true ∧ s.tracking.infeed.raw = true ∧ s.tracking.infeed.moved = false ∧ s.tracking.infeed.timer = some 1000 ∧
    s.cfg.track.infeedDebounce * 100 ≤ 1000 ∧ s.tracking.records.length < 64 := by decide

/-- An arrival with its window at these ends. -/
def arrival (first last : Time) : Arrival :=
  ⟨6, 5010, 0, none, ⟨2, 0⟩, ⟨0, 0⟩, 0, false, 0, first, last, true⟩

/-- One entry is lost by a microsecond; the next is in its window at either end, or ahead of it. -/
theorem witness_CaptureMatchesHeadArrival : (at' .running ConfigRecord.empty).cfg.track.upstream = 0 ∧
    running.cfg.track.upstream ≠ 0 ∧ before (arrival 0 1999999#48).windowEnd 2000000#48 = true ∧
    before (arrival 0 2000000#48).windowEnd 2000000#48 = false ∧
    before 2000000#48 (arrival 2000000#48 2040000#48).windowStart = false ∧
    before 2000000#48 (arrival 2000001#48 2040000#48).windowStart = true ∧
    [arrival 0 1999999#48, arrival 0 2000000#48] = [arrival 0 1999999#48] ++ [arrival 0 2000000#48] := by decide

theorem witness_UntrackedCapturesAndPitches :
    let sensed := fun s : State => { s with tracking := { s.tracking with
      infeed := ⟨true, false, some 1000, false⟩, pitch := ⟨true, false, some 1000, false⟩, records := List.replicate 64 (record 1) } }
    (sensed joining).tracking.infeed.moved = false ∧ (sensed joining).loader.station = .joining ∧ (sensed running).running = true ∧
    (sensed running).tracking.records.length = 64 ∧ (sensed running).cfg.track.infeedDebounce * 100 ≤ 1000 ∧
    (sensed running).cfg.track.pitchDebounce * 100 ≤ 1000 := by decide

theorem witness_DecideSettlesRecord : (record 3300).fill = some ⟨.pending, 0⟩ ∧ (record 3300).head = some 0 ∧
    ((dosing .run .paused).head 0).hand.map DoseInHand.sequence = some (record 3300).sequence := by decide

/-- A record is due at this microsecond; a gate, a downstream station, and neither. -/
theorem witness_DecideRoutesRecord : running.running = true ∧
    reached ((record 3300).capture + BitVec.ofNat 48 (1500 * 1000) - BitVec.ofNat 48 (300 * 1000)) running.now = true ∧
    reached ((record 3300).capture + BitVec.ofNat 48 (1500 * 1000) - BitVec.ofNat 48 (300 * 1000)) (running.now - 1) = false ∧
    (running.decided (record 3300)).reasons ≠ Reasons.none ∧
    (running.decided { record 3300 with fill := some ⟨.ok, 1590⟩, verdictA := .pass }).reasons = Reasons.none ∧
    running.cfg.track.gateFitted = true ∧ (at' .running ConfigRecord.empty).cfg.track.gateFitted = false ∧
    (at' .running ConfigRecord.empty).cfg.track.downstream = 0 ∧ running.cfg.track.downstream ≠ 0 := by decide

theorem witness_DosesAndJogsEmitPulses : granted.running = true ∧ 5 < granted.cfg.track.heads ∧ 5 < granted.heads.length ∧
    ((dosing .waitStart .stopped).head 0).dose = .waitStart ∧ reached 2000000#48 granted.now = true ∧
    ((dosing .run (.low 150)).head 0).train = .low 150 ∧ ((dosing .run (.high 150)).head 0).jog = none ∧
    granted.cfg.dosing.highTime ≤ 150 ∧ granted.cfg.dosing.lowTime ≤ 150 ∧
    ((jogging (.high 150)).head 5).jog = some ⟨2, 1, 5, 20⟩ := by decide

/-- Head 5 with its drive ready gone low, come high, and a meter pulse sampled. -/
theorem witness_ReadyAndMeterActOnTrain :
    let ticked := took (.localMicrosecond ⟨.recessive, true, true, false, 0xDF, 0x20⟩)
    let raised := took (.localMicrosecond quietPins)
    7 < running.heads.length ∧ ((ticked granted).head 5).ready = true ∧ ((ticked granted).head 5).readySample = false ∧
    ((raised running).head 5).ready = false ∧ ((raised running).head 5).readySample = true ∧
    ((raised running).head 5).meterRose = false ∧ ((jogging .paused).head 5).jog.isSome = true ∧
    (granted.head 5).jog.isSome = false ∧ running.running = true ∧ 5 < running.cfg.track.heads ∧
    ((ticked granted).head 5).meterRose = true := by decide

/-- The timers at their figures. -/
theorem witness_DosesEndWithResult : 0 < (dosing .run .paused).heads.length ∧
    ((dosing .run .paused).head 0).hand.map DoseInHand.doseTimer = some (some 1000000) ∧
    ((dosing .suspended .stopped).head 0).hand.map DoseInHand.resumeTimer = some (some 500000) ∧
    ((dosing .settle .stopped).head 0).hand.map DoseInHand.settleTimer = some (some 50000) ∧
    running.cfg.dosing.timeoutMs * 1000 = 1000000 ∧ running.cfg.dosing.resumeMs * 1000 = 500000 ∧
    running.cfg.dosing.settleMs * 1000 = 50000 ∧ running.running = true ∧ 0 < running.cfg.track.heads ∧
    running.cabinet.permission = false := by decide

/-- A due change to active, one to inactive of a FAULTED head, and a grant whose heads are all OUT or FAULTED and whose READY is not yet sent. -/
theorem witness_DriveFaultsTakeHeadsOut :
    let s : State := { granted with
      heads := granted.heads.modify 0 (fun x => { x with fault := ⟨true, false, some 1000, false⟩ })
      access := { granted.access with grants := granted.access.grants.map fun g => { g with readySent := false } } }
    let back := s.setHead 1 fun x => { x with fault := ⟨false, true, some 1000, false⟩, production := .faulted }
    s.listening = true ∧ 0 < s.cfg.track.heads ∧ 0 < s.heads.length ∧ (s.head 0).fault = ⟨true, false, some 1000, false⟩ ∧ s.GrantsSound ∧
    (back.listening = true ∧ 1 < back.cfg.track.heads ∧ 1 < back.heads.length ∧ (back.head 1).production = .faulted ∧
      (back.head 1).fault = ⟨false, true, some 1000, false⟩) ∧
    (∀ g ∈ s.access.grants, g.heads.getLsbD 5 = true ∧ g.readySent = false) ∧
    (∀ g ∈ granted.access.grants, g.heads.getLsbD 5 = true → g.readySent = true) :=
  ⟨by decide, by decide, by decide, by decide,
    ⟨by decide, List.pairwise_singleton _ _, List.pairwise_singleton _ _, by decide, by decide, by decide, by decide, by decide⟩,
    by decide, by decide, by decide⟩

/-- The trigger is due at capture + 40 ms, by a microsecond or more. -/
theorem witness_TriggersAreTakenOrRefused : running.running = true ∧ (running.camera .a).enabled = true ∧
    (record 3300).verdict .a = .pending ∧ running.portA.pending = [] ∧
    reached ((record 3300).capture + BitVec.ofNat 48 (running.camera .a).triggerDelay) (840000#48 : Time) = true ∧
    reached ((record 3300).capture + BitVec.ofNat 48 (running.camera .a).triggerDelay) running.now = true ∧
    (running.camera .a).triggerWidth ≤ 50 := by decide

theorem witness_StrobesAreGivenOrSkipped : running.running = true ∧ (running.camera .a).enabled = true ∧
    (running.camera .a).strobeDelay ≤ 10 ∧ (running.camera .a).strobeDuration ≤ 500 ∧ (running.camera .a).strobeOff ≤ 20000 ∧
    running.portA.strobeOut = false ∧ running.portA.offTimer = none := by decide

/-- A tag in the list behind another, a tag not in it, a good and a bad check byte. -/
theorem witness_ResultsAreAssembledAndMatched : running.running = true ∧ (running.camera .a).enabled = true ∧
    [⟨0, 3300⟩, ⟨1, 3301⟩] = [(⟨0, 3300⟩ : PendingTrigger)] ++ ⟨1, 3301⟩ :: [] ∧
    (∀ o ∈ [(⟨0, 3300⟩ : PendingTrigger)], o.tag ≠ 1) ∧ (∀ e ∈ [(⟨0, 3300⟩ : PendingTrigger)], e.tag ≠ 9) ∧
    (0xA1 : Byte) = 0xA5 ^^^ 1 ^^^ 5 ∧ (0xA0 : Byte) ≠ 0xA5 ^^^ 1 ^^^ 5 ∧
    [4166, 2083, 1041, 694, 347].getD (running.camera .a).baud 347 = 347 ∧
    (let c := { running.portA with receiver := .complete (some 0xA1), assembler := .check 1 5, interByte := some 346 }
     c.receiver = .complete (some 0xA1) ∧ ¬(c.assembler ≠ .hunt ∧ ∃ n, c.interByte = some n ∧ 347 ≤ n)) ∧
    (let c := { running.portA with receiver := .complete none, assembler := .tag, interByte := some 347 }
     c.receiver = .complete none ∧ c.assembler ≠ .hunt ∧ ∃ n, c.interByte = some n ∧ 347 ≤ n) := by
  refine ⟨by decide, by decide, by decide, by decide, by decide, by decide, by decide, by decide, ⟨rfl, ?_⟩, rfl, by decide, 347,
    rfl, by decide⟩
  rintro ⟨-, n, hn, h⟩
  cases hn
  exact absurd h (by decide)

/-- A firing that touches the new one by its last microsecond meets it; one that ends a microsecond earlier does not. The points
named lie within 2^46 = 70368744177664 µs of the start, the last of them just so. -/
theorem witness_FiringsArePlacedMergedOrLost :
    let start : Time := 3500000#48
    start = 2000000#48 + BitVec.ofNat 48 (running.cfg.track.rejectDelayMs * 1000) ∧ running.cfg.track.gatePulseMs = 70 ∧
    before start start = false ∧ before (start - 1) start = true ∧ running.gate.firings.length < 16 ∧
    ((start + 70000#48 - start).toInt = 70000 ∧ (211106236032993#48 - start).toInt = -70368744177663 ∧
      -(2 : Int) ^ 46 < -70368744177663) := by
  refine ⟨by decide, by decide, by decide, by decide, by decide, by decide, by decide, by norm_num⟩

/-- Due at this microsecond: a start, an end, the end of a window of 60 ms; an edge for the firing behind a full one, and an edge
that no firing takes, in RUNNING and in JOINING. -/
theorem witness_FiringsAreTimedAndJudged : running.listening = true ∧ joining.listening = true ∧
    joining.loader.station = .joining ∧ (∀ f ∈ running.gate.firings, f.phase = .waiting ∨ f.containers ≤ f.count) ∧
    running.running = true ∧ reached 2000000#48 running.now = true ∧
    running.cfg.track.confirmWindowMs ≠ 0 ∧ running.gate.confirm.moved = false ∧ running.cfg.track.confirmDebounce * 100 ≤ 500 ∧
    reached ((1940000#48 : Time) + BitVec.ofNat 48 (running.cfg.track.confirmWindowMs * 1000)) running.now = true ∧
    (∀ o ∈ [(⟨1800000#48, 1870000#48, 1, 1, .on⟩ : Firing)], o.phase = .waiting ∨ o.containers ≤ o.count) := by decide

/-! ### One microsecond short: the clauses of the commands that are not due -/

/-- The end of LOADING and of JOINING, a round, the restore timer, the discrepancy timer and the line's gap. -/
theorem witness_not_due_times : (loading 1103 image).loader.readTimer = some 1103 ∧ 1103 < 1104 ∧
    (59999 < 3 * joining.intervalMicros ∧ joining.loader.joining = none) ∧ reached 2000001#48 running.now = false ∧
    (999999 < granted.cfg.hall.restoreMs * 1000 ∧ granted.cabinet.restore = none) ∧ running.runConditions = false ∧
    199999 < running.cfg.hall.discrepancyMs * 1000 ∧ running.cabinet.switch ≠ .transit ∧
    (offering [] []).line.idle - 1 < 12 ∧ joining.running = false ∧
    ({ running.line with tx := some ⟨.cab, [], []⟩ } : LinePort).tx.isSome = true := by decide

/-- Debounced inputs a microsecond short of d, or low, or changed already in this microsecond. -/
theorem witness_not_due_inputs : 1999 < running.cfg.hall.doorDebounce * 100 ∧ 1999 < running.cfg.hall.keyDebounce * 100 ∧
    4999 < running.cfg.hall.switchDebounce * 100 ∧ 999 < running.cfg.track.infeedDebounce * 100 ∧
    999 < running.cfg.track.pitchDebounce * 100 ∧ 499 < running.cfg.track.confirmDebounce * 100 ∧
    running.tracking.infeed.raw = false ∧ running.tracking.pitch.raw = false ∧ running.gate.confirm.raw = false ∧
    (⟨true, false, some 1000, true⟩ : Debouncer).moved = true ∧ (running.head 0).fault.raw = false ∧
    (running.head 0).fault.timer = none := by decide

/-- A decide, an arrival, a trigger, a pulse and a guard, strobes, a firing's start, end and window. -/
theorem witness_not_due_containers :
    reached ((record 3300).capture + BitVec.ofNat 48 (1500 * 1000) - BitVec.ofNat 48 (300 * 1000)) 1999999#48 = false ∧
    running.tracking.arrivals.length ≤ 0 ∧
    reached ((record 3300).capture + BitVec.ofNat 48 (running.camera .a).triggerDelay) 839999#48 = false ∧
    49 < (running.camera .a).triggerWidth ∧ running.portA.guard = none ∧ 9 < (running.camera .a).strobeDelay ∧
    499 < (running.camera .a).strobeDuration ∧ 19999 < (running.camera .a).strobeOff ∧ (running.camera .b).enabled = false ∧
    reached 2000001#48 running.now = false ∧ running.gate.firings.find? (fun x => x.phase = .on) = none ∧
    reached ((1940001#48 : Time) + BitVec.ofNat 48 (running.cfg.track.confirmWindowMs * 1000)) running.now = false := by decide

/-- A dose start, the phases, and the three timers of a dose; a head that is not fitted. -/
theorem witness_not_due_heads : reached 2000001#48 granted.now = false ∧ 149 < granted.cfg.dosing.lowTime ∧
    149 < granted.cfg.dosing.highTime ∧ 999999 < running.cfg.dosing.timeoutMs * 1000 ∧
    499999 < running.cfg.dosing.resumeMs * 1000 ∧ 49999 < running.cfg.dosing.settleMs * 1000 ∧
    running.cfg.track.heads ≤ 6 ∧ (running.head 0).dose = .idle := by decide

/-- No frame collected, or another, and a whole frame for this station. -/
theorem witness_not_due_frames : running.line.rx = .watching ∧
    (collected (.ended []) running).line.rx = .collecting 1999600#48 ⟨.over (.ended []), 0, 12⟩ ∧ (frameOf (.lck 7 20)).isSome = true ∧
    (let bytes := frameBytes 7 20 0x0A [0x55, 0x55]
     6 ≤ bytes.length ∧ (bytes.getD 3 0).toNat + 6 = bytes.length ∧ crc16 bytes = 0) ∧
    (∃ row ∈ [((0x0A, 0, 0) : Byte × Nat × Nat)], row.1 = 0x0A ∧ row.2.1 ≤ 0 ∧ 0 ≤ row.2.2) := by decide

/-- The head of station 7 that is at rest is sound. -/
theorem atReset_sound : (Head.atReset false false false).Sound :=
  ⟨by decide, by decide, by decide, iff_of_false (by decide) (fun ⟨n, h⟩ => nomatch (h : Train.stopped = Train.high n)),
    by decide, by decide, by decide, by decide, by decide, by decide⟩

/-- Station 7 at work: head 5 jogs under the grant, and the one record, due for its decide in a microsecond, awaits its verdict at
port A; the first byte of a frame has been collected. -/
def working : State :=
  { jogging (.low 0) with
    clock := { granted.clock with time := 1999999#48 }
    tracking := { granted.tracking with records := [record 3300], nextSequence := 3301 }
    portA := { granted.portA with pending := [⟨255, 3300⟩] }
    line := { granted.line with idle := 4, rx := .collecting 1999900#48 ⟨.between [31] 3, 0, 4⟩ } }

/-- The head that jogs is sound. -/
theorem jogging_sound : (working.head 5).Sound :=
  ⟨by decide, by decide, by decide, iff_of_false (by decide) (fun ⟨n, h⟩ => nomatch (h : Train.low 0 = Train.high n)),
    by decide, by decide, by decide, by decide, by decide, by decide⟩

/-- Each head of the working state is sound. -/
theorem working_heads (h : Nat) (hh : h < 8) : (working.head h).Sound := by
  interval_cases h
  exacts [atReset_sound, atReset_sound, atReset_sound, atReset_sound, atReset_sound, jogging_sound, atReset_sound, atReset_sound]

/-- A clear latch is sound. -/
theorem clear_sound (cls localTime : Nat) : (Latch.clear cls).Sound localTime :=
  ⟨by simp [Latch.clear, Gathered.none], by simp [Latch.clear, Gathered.none], by simp [Latch.clear, Gathered.none],
    by simp [Latch.clear], by simp [Latch.clear], by simp [Latch.clear], by simp [Latch.clear]⟩

/-- The working state sends nothing. -/
theorem nothing_sent {a : Attempt} {p : Prop} (h : working.line.tx = some a) : p := absurd h (by
  show ¬none = some a
  simp)

/-- A debouncer whose timer does not run is sound. -/
theorem quiet_input {d : Debouncer} {reads : Bool} (h : d.timer = none) : d.Sound reads := by
  simp [Debouncer.Sound, h]

/-- A head with no dose in hand, and no jog or the working one, counts soundly. -/
theorem undosed_counts {h : Head} {pulses : Nat} (d : h.hand = none) (j : h.jog = none ∨ h.jog = some ⟨2, 1, 5, 20⟩) :
    h.CountsSound pulses := by
  rcases j with j | j <;> constructor <;> simp [d, j]

/-- The working state is sound. -/
theorem working_sound : working.Sound where
  bounded := ⟨by decide, by decide, by decide, by decide, by decide, by decide, by decide, by decide, by decide, by decide,
    by decide, by decide, by decide, fun _ h => nothing_sent h⟩
  clock := ⟨by decide, by decide, by decide, by decide⟩
  permission := ⟨by decide, by decide, by decide⟩
  grants := ⟨by decide, List.pairwise_singleton _ _, List.pairwise_singleton _ _, by decide, by decide, by decide, by decide,
    by decide⟩
  heads := ⟨working_heads, by decide⟩
  drive := ⟨by decide, fun g hg h hh => by
    obtain rfl : g = ⟨1, 20, .jog, 0x20#8, 1000000#48, 2000000#48, true⟩ := List.mem_singleton.mp hg
    by_cases hlt : h < 8
    · interval_cases h <;> first | decide | exact absurd hh (by decide)
    · exact absurd hh (by simp [inSet, BitVec.getLsbD_of_ge 0x20#8 h (by omega)])⟩
  outputs := ⟨iff_of_false (by decide) (by decide), ⟨rfl, rfl, fun _ => rfl, fun _ _ h => nomatch h⟩,
    ⟨rfl, rfl, fun _ => rfl, fun _ _ h => nomatch h⟩⟩
  line := ⟨by decide, by decide, by decide, iff_of_false (by decide) (fun ⟨_, _, h⟩ => nothing_sent h), by decide,
    (fun ⟨_, _, h⟩ => nothing_sent h),
    (fun i hi => iff_of_false (by interval_cases i <;> decide) (fun ⟨_, _, h⟩ => nothing_sent h)),
    (fun ⟨_, _, _, h⟩ => nothing_sent h), (fun _ => by decide), fun l hl => by
      obtain ⟨i, -, rfl⟩ := List.mem_map.mp (show l ∈ latchesAtReset from hl)
      exact clear_sound _ _,
    (fun _ _ h => by
      cases h
      exact ⟨rfl, .inl rfl, fun _ => by decide, (fun _ h => nomatch h), (fun _ _ h => by cases h; decide),
        (fun _ _ h => nomatch h), fun _ h => nomatch h⟩),
    fun h => absurd h (by decide)⟩
  quiet := ⟨by decide, by decide, by decide, by decide, by decide, by decide, by decide, by decide, by decide, fun h =>
    absurd h (by decide)⟩
  inputs := ⟨quiet_input rfl, quiet_input rfl, quiet_input rfl, quiet_input rfl, quiet_input rfl, quiet_input rfl, quiet_input rfl,
    fun h hh => by interval_cases h <;> exact quiet_input rfl⟩
  tracking := ⟨List.isChain_pair.mpr rfl, by decide, by decide, fun r hr => by cases hr; decide⟩
  targets := ⟨fun r hr => by cases hr; decide, fun h hh => by
    interval_cases h <;> first | exact undosed_counts rfl (.inl rfl) | exact undosed_counts rfl (.inr rfl)⟩
  triggers := fun p => by
    cases p
    · exact ⟨by decide, by decide, by decide, by decide⟩
    · exact ⟨rfl, List.nodup_nil, fun _ h => absurd h List.not_mem_nil, List.nil_prefix⟩

/-- The captures of the working state are in order. -/
theorem working_ordered : working.CapturesOrdered := ⟨List.pairwise_singleton _ _, by decide, by decide, by decide⟩

/-- A local microsecond begins with nothing due, and brings the decide. -/
theorem witness_StepsKeep : working.Sound ∧ working.CapturesOrdered ∧
    working.mayTake (.localMicrosecond quietPins) [] false = true ∧
    step { working with pending := [.localMicrosecond quietPins] } = .next (took (.localMicrosecond quietPins) working) :=
  ⟨working_sound, working_ordered, by decide, rfl⟩

theorem witness_FramesReadBackAsTheirCommands : (Instr.ans 7 20 (List.replicate 56 0)).wellFormed = true ∧
    (frameOf (.ans 7 20 (List.replicate 56 0))).isSome = true ∧ (frameOf (.lck 7 20)).isSome = true := by decide

theorem witness_LineBytesReadBack : (List.replicate 62 (0 : Byte)).length ≤ 62 ∧
    ({ running with line := { running.line with startMark := true } } : State).seesStartMark = true := by decide

end Sys2Proof.Tests
end

/-! PROOFS of the statements on hall time: LOCAL_MICROSECOND on the Hall Clock, the correction of a round, ROUND_END. -/

namespace Sys2Proof.Machine

/-! ## Hall time in one local microsecond (R1 to R3) -/

/-- The increment is base, trim and slew term (R2). -/
theorem increment_eq (trim slew : Int) :
    increment trim slew = 16777216 + trim + (if 0 < slew then 262144 else if slew < 0 then -262144 else 0) := by
  unfold increment slewSign
  split_ifs <;> rfl

/-- Slew remaining moves one unit toward zero (R3). -/
theorem sub_slewSign (slew : Int) :
    slew - slewSign slew = if 0 < slew then slew - 1 else if slew < 0 then slew + 1 else 0 := by
  unfold slewSign
  split_ifs <;> omega

/-- With the trim in its range (R21) an increment is positive and less than two microseconds. -/
theorem increment_bounds (trim slew : Int) (low : -4096 ≤ trim) (high : trim ≤ 4096) :
    0 < increment trim slew ∧ increment trim slew < 2 * 16777216 := by
  rw [increment_eq]
  split_ifs <;> omega

/-- Hall time and fraction after a tick are together the advanced figure, modulo 2^72 (R1, R2). -/
theorem HallClock.tick_figure (c : HallClock) :
    (c.tick.time.toNat * 16777216 + c.tick.frac.toNat : Int) = c.advanced % 2 ^ 72 := by
  simp only [HallClock.tick, BitVec.toNat_ofInt]
  omega

/-- The integer part of hall time rises by 0, 1 or 2 in a tick (R2). -/
theorem HallClock.tick_time (c : HallClock) (low : -4096 ≤ c.trim) (high : c.trim ≤ 4096) :
    c.tick.time = c.time ∨ c.tick.time = c.time + 1 ∨ c.tick.time = c.time + 2 := by
  have inc := increment_bounds c.trim c.slew low high
  have frac := c.frac.isLt
  have carry : c.advanced / 16777216 = c.time.toNat ∨ c.advanced / 16777216 = c.time.toNat + 1 ∨
      c.advanced / 16777216 = c.time.toNat + 2 := by
    unfold HallClock.advanced
    omega
  have time : c.tick.time = BitVec.ofInt 48 (c.advanced / 16777216) := rfl
  rw [time]
  rcases carry with e | e | e <;> rw [e] <;> simp [BitVec.ofInt_add]

/-- Outside RESET a local microsecond ticks the Hall Clock (R1). -/
theorem State.tick_clock (s : State) (pins : PinSamples) (station : s.loader.station ≠ .reset) :
    (s.tick pins).clock = { s.clock.tick with localTime := s.clock.localTime + 1 } := by
  simp [State.tick, State.tickClock, station]

/-- Settles O10, from the figure of hall time and fraction after one tick. -/
theorem hallTimeAdvancesByIncrement : Obligations.HallTimeAdvancesByIncrement := by
  intro s pins station low high
  refine ⟨s.tick pins, rfl, ?_⟩
  rw [State.tick_clock s pins station]
  refine ⟨?figure, HallClock.tick_time _ low high, sub_slewSign _, rfl, rfl, rfl, rfl, rfl⟩
  rw [HallClock.tick_figure, HallClock.advanced, increment_eq]

/-! ## The correction of a round (R12 to R14) -/

/-- The order of R14 is the insertion sort of the library. -/
theorem ascending_eq_insertionSort (xs : List Int) : ascending xs = xs.insertionSort (· ≤ ·) := by
  have insert (x : Int) (ys : List Int) : insertAscending x ys = ys.orderedInsert (· ≤ ·) x := by
    induction ys with
    | nil => rfl
    | cons y ys ih => simp only [insertAscending, List.orderedInsert_cons, ih]
  induction xs with
  | nil => rfl
  | cons x xs ih => rw [List.insertionSort_cons, ← ih, ← insert]; rfl

/-- Any ascending order of S is the one of R14 step 1. -/
theorem eq_ascending {members xs : List Int} (perm : members.Perm xs) (order : members.Pairwise (· ≤ ·)) :
    members = ascending xs := by
  rw [ascending_eq_insertionSort]
  exact (perm.trans (List.perm_insertionSort _ xs).symm).eq_of_pairwise' order (List.pairwise_insertionSort _ xs)

/-- The trimming takes k members from each end (R13, R14). -/
theorem averagedMembers_length (offsets : List Int) :
    (averagedMembers offsets).length =
      (ascending (0 :: offsets)).length - 2 * trimDepth (ascending (0 :: offsets)).length := by
  simp only [averagedMembers, List.length_take, List.length_drop]
  omega

/-- An entry gives its offset where its marks are set and its announced quality fits (R12). -/
theorem Peer.includedOffset_eq (own : Quality) (p : Peer) : Peer.includedOffset own p = match p.quality with
    | none => none
    | some q => if p.inRound = true ∧ p.counted = true ∧ (own = .free ∨ own = .acquire ∨ q ≠ .free) then p.offset
      else none := by
  cases h : p.quality <;> simp [Peer.includedOffset, qualityFits, h, and_assoc, or_assoc]

/-- Settles O12: any ascending order of S is the sorted one, and inclusion is judged entry by entry. -/
theorem correctionIsTrimmedMean : Obligations.CorrectionIsTrimmedMean := by
  refine ⟨fun offsets members perm order => ?_, fun s => ?_⟩
  · obtain rfl := eq_ascending perm order
    refine ⟨?_, by simp [roundOutcome]⟩
    simp only [correction, averagedMembers_length]
    rfl
  · exact congrArg (s.peers.filterMap ·) (funext (Peer.includedOffset_eq s.clock.quality))

/-! ## What run permission leaves of the line: the receiver and the BCN slot -/

/-- The handover of a frame (R168, R169) leaves the receiver and the BCN slot. -/
@[simp] theorem State.handOver_slots (s : State) (fr : OutFrame) (c : Nat) :
    (s.handOver fr c).line.rx = s.line.rx ∧ (s.handOver fr c).line.bcnSlot = s.line.bcnSlot := by
  simp only [State.handOver]
  repeat' split
  all_goals simp

/-- A reply leaves the receiver and the BCN slot. -/
@[simp] theorem State.reply_slots (s : State) (d : Byte) (r : Reply) :
    (s.reply d r).line.rx = s.line.rx ∧ (s.reply d r).line.bcnSlot = s.line.bcnSlot := State.handOver_slots s _ _

/-- The readiness test (R146) leaves the receiver and the BCN slot. -/
@[simp] theorem State.testReady_slots (s : State) (h : Nat) :
    (s.testReady h).line.rx = s.line.rx ∧ (s.testReady h).line.bcnSlot = s.line.bcnSlot := by
  simp only [State.testReady]
  repeat' split
  all_goals simp

/-- The end of a jog (R97) leaves the receiver and the BCN slot. -/
@[simp] theorem State.endJog_slots (s : State) (h : Nat) (c : JogCause) :
    (s.endJog h c).line.rx = s.line.rx ∧ (s.endJog h c).line.bcnSlot = s.line.bcnSlot := by
  unfold State.endJog; split <;> simp

/-- The end of a dose (R94) leaves the receiver and the BCN slot. -/
@[simp] theorem State.endDose_slots (s : State) (h : Nat) (r : FillResult) (m : Nat) :
    (s.endDose h r m).line.rx = s.line.rx ∧ (s.endDose h r m).line.bcnSlot = s.line.bcnSlot := by
  simp only [State.endDose]
  repeat' split
  all_goals simp

/-- A fall of run permission at a head (R89, R97) leaves the receiver and the BCN slot. -/
@[simp] theorem State.permissionLost_slots (s : State) (h : Nat) :
    (s.permissionLost h).line.rx = s.line.rx ∧ (s.permissionLost h).line.bcnSlot = s.line.bcnSlot := by
  simp only [State.permissionLost, State.suspend]
  repeat' split
  all_goals simp

/-- The announcement of the cabinet (R39) leaves the receiver and the BCN slot. -/
@[simp] theorem State.announce_slots (s : State) :
    s.announce.line.rx = s.line.rx ∧ s.announce.line.bcnSlot = s.line.bcnSlot := by
  unfold State.announce
  repeat' split
  all_goals simp

/-- Run permission following its conditions (R44) leaves the receiver and the BCN slot. -/
@[simp] theorem State.followConditions_slots (s : State) :
    s.followConditions.line.rx = s.line.rx ∧ s.followConditions.line.bcnSlot = s.line.bcnSlot := by
  have falls (s : State) : s.permissionFalls.line.rx = s.line.rx ∧ s.permissionFalls.line.bcnSlot = s.line.bcnSlot := by
    unfold State.permissionFalls
    rw [State.forHeads_keeps (·.line.rx) _ (by simp), State.forHeads_keeps (·.line.bcnSlot) _ (by simp)]
    simp
  have rises (s : State) : s.permissionRises.line.rx = s.line.rx ∧ s.permissionRises.line.bcnSlot = s.line.bcnSlot := by
    unfold State.permissionRises
    rw [State.forHeads_keeps (·.line) _ (by simp)]
    simp
  unfold State.followConditions
  repeat' split
  all_goals simp [falls, rises]

/-! ## The parts of a round end (R7, R11 to R28) -/

/-- Only the quality of the Hall Clock is written with a new quality (R17). -/
@[simp] theorem State.setQuality_clock (s : State) (q : Quality) :
    (s.setQuality q).clock = { s.clock with quality := q } := by
  simp only [State.setQuality]
  split <;> simp

/-- The Hall Clock at a round end takes the quality of R16 and the counters of R15. -/
theorem State.moveQuality_clock (s : State) (outcome : Option Int) (n : Nat) :
    let good := nextGood s.clock.goodRounds outcome
    let empty := nextEmpty s.clock.emptyRounds outcome
    let next := nextQuality s.clock.quality outcome good empty
    (s.moveQuality outcome n).clock = { s.clock with
      quality := next, goodRounds := if next = s.clock.quality then good else 0, emptyRounds := empty } := by
  simp only [State.moveQuality]
  split <;> simp

/-- A production dose is in flight in every dose state but IDLE (R77). -/
theorem Head.inFlight_iff (h : Head) : h.inFlight = true ↔ h.dose ≠ .idle := by
  unfold Head.inFlight
  cases h.dose <;> decide

/-- Timed work as R18 lists it. -/
theorem State.timedWork_iff (s : State) : s.timedWork = true ↔
    s.tracking.records ≠ [] ∨ s.tracking.arrivals ≠ [] ∨ s.gate.firings ≠ [] ∨ s.portA.pending ≠ [] ∨
      s.portB.pending ≠ [] ∨ (∃ h ∈ s.heads, h.dose ≠ .idle ∨ h.jog.isSome = true) ∨ s.access.grants ≠ [] := by
  simp only [State.timedWork, Bool.or_eq_true, Bool.not_eq_true', List.isEmpty_eq_false_iff, List.any_eq_true,
    Head.inFlight_iff, or_assoc]

/-- The counters and the quality leave the timed work. -/
@[simp] theorem State.moveQuality_timedWork (s : State) (outcome : Option Int) (n : Nat) :
    (s.moveQuality outcome n).timedWork = s.timedWork := by
  simp [State.timedWork]

/-- The offer of a beacon leaves the timed work. -/
@[simp] theorem State.placeBeacon_timedWork (s : State) : s.placeBeacon.timedWork = s.timedWork := by
  simp [State.timedWork]

/-- A heard round steps where the quality is FREE or ACQUIRE, |c| > 1000 and no timed work is pending (R19). -/
theorem State.steps_iff (s : State) (c : Int) : s.steps c = true ↔
    (s.clock.quality = .free ∨ s.clock.quality = .acquire) ∧ 1000 < c.natAbs ∧ s.timedWork = false := by
  simp [State.steps, and_assoc]

/-- A beacon that stands in its slot stays (R202). -/
theorem State.placeBeacon_taken {s : State} {p : BcnPlacement} (h : s.line.bcnSlot = some p) : s.placeBeacon = s := by
  simp [State.placeBeacon, h]

/-- A beacon is placed in an empty slot (R202). -/
theorem State.placeBeacon_empty {s : State} (h : s.line.bcnSlot = none) :
    s.placeBeacon.line.bcnSlot = some s.placement := by
  simp [State.placeBeacon, h]

/-- The offer of a beacon leaves the receiver. -/
@[simp] theorem State.placeBeacon_rx (s : State) : s.placeBeacon.line.rx = s.line.rx := by
  unfold State.placeBeacon; split <;> rfl

/-- The convergence leaves the fraction of hall time. -/
@[simp] theorem State.converge_frac (s : State) : s.converge.clock.frac = s.clock.frac := by
  simp only [State.converge, State.correctTime]
  repeat' split
  all_goals simp [State.stepTime, State.slewTime, State.moveQuality_clock]

/-- The convergence leaves the BCN slot. -/
@[simp] theorem State.converge_bcnSlot (s : State) : s.converge.line.bcnSlot = s.line.bcnSlot := by
  simp only [State.converge, State.correctTime]
  repeat' split
  all_goals simp [State.stepTime]

/-- The silence of the peers (R28) leaves the receiver and the BCN slot. -/
@[simp] theorem State.advanceSilence_slots (s : State) :
    s.advanceSilence.line.rx = s.line.rx ∧ s.advanceSilence.line.bcnSlot = s.line.bcnSlot := by
  have latched : ((List.range s.peers.length).foldl
      (fun s' i => s'.latchAbsent s.peers s.cfg.hall.absentLimit i) s).line = s.line :=
    foldl_keeps State.line _ (fun s' i => by simp) _ s
  simp [State.advanceSilence, latched]

/-- The silence of the peers is advanced entry by entry (R28). -/
@[simp] theorem State.advanceSilence_peers (s : State) :
    s.advanceSilence.peers = s.peers.map (Peer.advanceSilence s.cfg.hall.absentLimit) := by
  simp [State.advanceSilence]

/-- The heard mark is cleared and the in-this-round mark left as an entry's silence advances (R28). -/
theorem Peer.advanceSilence_marks (limit : Nat) (p : Peer) :
    (p.advanceSilence limit).heard = false ∧ (p.advanceSilence limit).inRound = p.inRound := by
  unfold Peer.advanceSilence
  split_ifs <;> exact ⟨rfl, rfl⟩

/-! ## A round end whole -/

/-- The Hall Clock after a round end is that of the convergence, with the next due point set (R7). -/
theorem State.endRound_clock (s : State) : s.endRound.clock = { s.placeBeacon.converge.clock with
    nextDue := s.placeBeacon.converge.clock.nextDue.map fun due => after due s.intervalMicros } := by
  simp [State.endRound, State.advanceDue, State.intervalMicros, State.cfg]

/-- The receiver after a round end is that of the convergence, and the BCN slot that of the beacon's offer. -/
theorem State.endRound_slots (s : State) :
    s.endRound.line.rx = s.placeBeacon.converge.line.rx ∧ s.endRound.line.bcnSlot = s.placeBeacon.line.bcnSlot := by
  simp [State.endRound]

/-- Both marks of every entry are cleared at a round end (R22, R28). -/
theorem State.endRound_marks (s : State) : ∀ p ∈ s.endRound.peers, p.inRound = false ∧ p.heard = false := by
  intro p hp
  simp only [State.endRound, State.advanceSilence_peers, State.advanceDue_peers, State.clearMarks, List.mem_map] at hp
  obtain ⟨_, ⟨q, -, rfl⟩, rfl⟩ := hp
  obtain ⟨heard, inRound⟩ := Peer.advanceSilence_marks _ { q with inRound := false }
  exact ⟨inRound, heard⟩

/-- The clamped correction of R20, over the integers. -/
theorem clampedCorrection_eq (interval : Nat) (c : Int) :
    clampedCorrection interval c = max (-(min 300 (interval / 64 : Nat) : Int)) (min (min 300 (interval / 64 : Nat)) c) := by
  simp [clampedCorrection, clampInt, slewLimit]

/-- The offer of a beacon leaves the offsets of the round. -/
@[simp] theorem State.placeBeacon_includedOffsets (s : State) : s.placeBeacon.includedOffsets = s.includedOffsets := by
  simp [State.includedOffsets]

/-- The convergence of an empty round moves the quality alone (R12, R22). -/
theorem State.converge_empty {s : State} (h : roundOutcome s.includedOffsets = none) :
    s.converge = s.moveQuality none s.includedOffsets.length := by
  simp [State.converge, h]

/-- The convergence of a heard round steps or slews after the quality is moved (R16, R19, R20). -/
theorem State.converge_heard {s : State} {c : Int} (h : roundOutcome s.includedOffsets = some c) :
    s.converge = (s.moveQuality (some c) s.includedOffsets.length).correctTime c := by
  simp [State.converge, h]


/-- ROUND_END ends the round where its due point is reached (R7, R11). -/
theorem exec_roundEnd {s : State} {due : Time} (running : s.running = true) (next : s.clock.nextDue = some due)
    (reach : reached due s.now = true) : exec .roundEnd s = .next s.endRound := by
  have stands : s.roundDue = true := by simp [State.roundDue, running, next, reach]
  show onOccasion s.roundDue s State.endRound = _
  rw [stands]
  rfl

/-- An empty round leaves time, slew and trim alone (R12). -/
theorem State.endRound_empty {s : State} {due : Time} (next : s.clock.nextDue = some due)
    (h : roundOutcome s.includedOffsets = none) :
    s.endRound.clock.time = s.clock.time ∧ s.endRound.clock.slew = s.clock.slew ∧
    s.endRound.clock.trim = s.clock.trim ∧
    s.endRound.clock.nextDue = some (after due s.intervalMicros) := by
  simp [State.endRound_clock, State.converge_empty, State.moveQuality_clock, h, next]

/-- The convergence of a heard round steps where R19 says so, of the quality after the round end. -/
theorem State.steps_iff_endRound {s : State} {c : Int} (h : roundOutcome s.includedOffsets = some c) :
    (s.placeBeacon.moveQuality (some c) s.includedOffsets.length).steps c = true ↔
      (s.endRound.clock.quality = .free ∨ s.endRound.clock.quality = .acquire) ∧ 1000 < c.natAbs ∧
        s.timedWork = false := by
  have kept (u : State) : (u.correctTime c).clock.quality = u.clock.quality := by
    unfold State.correctTime
    split <;> rfl
  simp [State.steps_iff, State.endRound_clock, State.converge_heard, h, kept]

/-- A round that ends in a step moves hall time, due point and a held stamp by c (R19). -/
theorem State.endRound_step {s : State} {due : Time} {c : Int} (next : s.clock.nextDue = some due)
    (h : roundOutcome s.includedOffsets = some c)
    (steps : (s.placeBeacon.moveQuality (some c) s.includedOffsets.length).steps c = true) :
    s.endRound.clock.time = movedBy s.clock.time c ∧ s.endRound.clock.slew = 0 ∧
    s.endRound.clock.trim = s.clock.trim ∧
    s.endRound.clock.nextDue = some (after (movedBy due c) s.intervalMicros) ∧
    s.endRound.line.rx = s.line.rx.movedBy c := by
  simp [State.endRound_clock, State.endRound_slots, State.converge_heard, State.correctTime, State.stepTime,
    State.moveQuality_clock, h, steps, next]

/-- A round that ends in a slew writes the slew and corrects the trim (R20, R21). -/
theorem State.endRound_slew {s : State} {due : Time} {c : Int} (next : s.clock.nextDue = some due)
    (h : roundOutcome s.includedOffsets = some c)
    (slews : (s.placeBeacon.moveQuality (some c) s.includedOffsets.length).steps c = false) :
    let cc := clampedCorrection s.intervalMicros c
    s.endRound.clock.time = s.clock.time ∧ s.endRound.clock.slew = 64 * cc ∧
    s.endRound.clock.trim = clampInt (-4096) 4096 (s.clock.trim + trimDelta s.intervalMicros cc) ∧
    s.endRound.clock.nextDue = some (after due s.intervalMicros) ∧ s.endRound.line.rx = s.line.rx := by
  simp [State.endRound_clock, State.endRound_slots, State.converge_heard, State.correctTime, State.slewTime,
    State.moveQuality_clock, State.intervalMicros, State.cfg, h, slews, next]

/-- The BCN slot after a round end: the beacon that stood there, or the one placed (R7, R202). -/
theorem State.endRound_bcnSlot (s : State) : s.endRound.line.bcnSlot = some (s.line.bcnSlot.getD s.placement) := by
  rw [State.endRound_slots s |>.2]
  cases h : s.line.bcnSlot with
  | none => exact State.placeBeacon_empty h
  | some p => rw [State.placeBeacon_taken h, h]; rfl

/-- What a beacon takes at its placement, under a lock mode that is set (R199, R202). -/
theorem State.placement_eq {s : State} {mode : LockMode} (h : s.access.lockMode = some mode) : s.placement =
    ⟨BitVec.ofNat 16 s.cfg.hall.intervalMs, lockCode mode, if s.gate.fault then 1 else 0,
      byte s.tracking.records.length⟩ := by
  simp [State.placement, State.lock, h, flagByte]

/-- Settles O14: the parts of a round end above, in the three outcomes of a round. -/
theorem roundEndStepsOrSlews : Obligations.RoundEndStepsOrSlews := by
  intro s due running next reach
  refine ⟨s.endRound, exec_roundEnd running next reach, by simp [State.endRound_clock], ?_, ?_, ?_,
    State.endRound_marks s, State.timedWork_iff s, ?_⟩
  · simp [State.endRound_bcnSlot]
  · intro p hp
    simp [State.endRound_bcnSlot, hp]
  · intro mode empty lock
    rw [State.endRound_bcnSlot, empty, Option.getD_none, State.placement_eq lock]
    cases mode <;> rfl
  · cases h : roundOutcome s.includedOffsets with
    | none => exact State.endRound_empty next h
    | some c =>
      dsimp only
      split
      case isTrue steps =>
        obtain ⟨time, slew, trim, nextDue, rx⟩ :=
          State.endRound_step next h ((State.steps_iff_endRound h).mpr steps)
        refine ⟨time, slew, trim, nextDue, fun stamp frame hold => ?_⟩
        rw [rx, hold]
        rfl
      case isFalse slews =>
        have slew :=
          State.endRound_slew next h (Bool.eq_false_iff.mpr (mt (State.steps_iff_endRound h).mp slews))
        rw [clampedCorrection_eq] at slew
        exact slew

end Sys2Proof.Machine

/-! PROOFS of the statements on service access: the head sets that span codes name. -/

namespace Sys2Proof.Machine

/-! ## Head sets (R140) -/

/-- The bits of a byte stand in the order of its list, and those past its end are 0. -/
theorem bitsByte_testBit (bits : List Bool) (i : Nat) : (bitsByte bits).testBit i = bits.getD i false := by
  induction bits generalizing i with
  | nil => simp [bitsByte]
  | cons b rest ih =>
    have bit : bitsByte (b :: rest) = Nat.bit b (bitsByte rest) := by
      cases b <;> simp [bitsByte, Nat.bit_val, Nat.add_comm]
    rw [bit]
    cases i with
    | zero => exact Nat.testBit_bit_zero b _
    | succ i => simpa [Nat.testBit_bit_succ] using ih i

/-- A head set holds the heads 0 to 7 that its predicate picks, and no other. -/
theorem headSetOf_getLsbD (p : Nat → Bool) (h : Nat) : (headSetOf p).getLsbD h = (decide (h < 8) && p h) := by
  rw [headSetOf, byte, BitVec.getLsbD_ofNat, bitsByte_testBit]
  by_cases inByte : h < 8 <;> simp [inByte]

/-- The rows of the table of R140 before the invert, for every code and head number. -/
theorem spanNames_iff (fitted code h : Nat) : spanNames fitted code h = true ↔
    (code = 1 ∧ fitted ≤ h + 1) ∨ (code = 2 ∧ fitted ≤ h + 2) ∨ (code = 3 ∧ fitted ≤ h + 4) ∨
    (code = 4 ∧ h = 0) ∨ (code = 5 ∧ h ≤ 1) ∨ (code = 6 ∧ h ≤ 3) ∨ code = 7 ∨ code = h + 8 := by
  match code with
  | 0 | 1 | 2 | 3 | 7 => simp [spanNames]
  | 4 | 5 | 6 => simp [spanNames, Nat.lt_succ_iff]
  | n + 8 => simp [spanNames, eq_comm]

/-- A resolved span holds the fitted heads that its code names, or with the invert flag those it does not name. -/
theorem resolveSpan_getLsbD {fitted h : Nat} (code : Nat) (invert : Bool) (inByte : h < 8) :
    (resolveSpan fitted code invert).getLsbD h = true ↔
      h < fitted ∧ (spanNames fitted code h = true ↔ invert = false) := by
  rw [resolveSpan, headSetOf_getLsbD]
  cases invert <;> simp [inByte]

/-- Settles O28: the resolved set by membership, with the rows of the table for what the code names. -/
theorem spanCodesNameHeadSets : Obligations.SpanCodesNameHeadSets := by
  intro fitted code h invert _ _ inByte
  dsimp only
  rw [resolveSpan_getLsbD code invert inByte, spanNames_iff]

end Sys2Proof.Machine

/-! PROOFS of the statements on the hall line: the handover of a frame to the General Queue. -/

namespace Sys2Proof.Machine

/-! ## The handover of a frame (R168, R169) -/

/-- The General Queue has a place free below its 16 entries (R168). -/
theorem State.queueHasRoom_iff (s : State) : s.queueHasRoom = true ↔ s.line.queue.length < 16 :=
  decide_eq_true_iff

/-- A queue that holds 16 entries has no place free (R169). -/
theorem State.queueHasRoom_full {s : State} (full : 16 ≤ s.line.queue.length) : s.queueHasRoom = false :=
  Bool.eq_false_iff.mpr (mt s.queueHasRoom_iff.mp (Nat.not_lt.mpr full))

/-- With room a frame is placed and nothing is dropped (R168). -/
theorem State.handOver_room {s : State} (frame : OutFrame) (cls : Nat) (room : s.line.queue.length < 16) :
    s.handOver frame cls =
      { s with line := { s.line with queue := insertByClass (s.newEntry frame cls) s.line.queue } } := by
  simp only [State.handOver, s.queueHasRoom_iff.mpr room, if_true]

/-- Into a full queue a frame of another class than 2 is dropped (R169). -/
theorem State.handOver_full_other {s : State} (frame : OutFrame) {cls : Nat} (full : 16 ≤ s.line.queue.length)
    (other : cls ≠ 2) : s.handOver frame cls = s.txDrop frame.kind := by
  simp [State.handOver, State.queueHasRoom_full full, other]

/-- Into a full queue with nothing to displace a frame of class 2 is dropped too (R169). -/
theorem State.handOver_full_none {s : State} (frame : OutFrame) (full : 16 ≤ s.line.queue.length)
    (none : dropNewestClassThree s.line.queue = none) : s.handOver frame 2 = s.txDrop frame.kind := by
  simp [State.handOver, State.queueHasRoom_full full, none]

/-- Into a full queue a frame of class 2 takes its place among the entries that a displacement keeps (R169). -/
theorem State.handOver_full_some {s : State} (frame : OutFrame) {kept : List QueueEntry} {kind : FrameKind}
    (full : 16 ≤ s.line.queue.length) (displaced : dropNewestClassThree s.line.queue = some (kept, kind)) :
    s.handOver frame 2 = ({ s with line := { s.line with
      queue := insertByClass (s.newEntry frame 2) kept } } : State).txDrop kind := by
  simp [State.handOver, State.queueHasRoom_full full, displaced]

/-- Settles O22, a row of the table of R169 at a time; a queue in order of class stays so when an entry is displaced. -/
theorem handoverFollowsQueueTable : Obligations.HandoverFollowsQueueTable := by
  intro s frame cls twoOrThree order
  refine ⟨fun room => ?placed, fun full keeps => ?dropped,
    fun older newer victim full two queue three idle passed => ?displaced⟩
  case placed =>
    rw [State.handOver_room frame cls room, insertByClass_eq_filter _ _ order]
    rfl
  case dropped =>
    obtain rfl | rfl := twoOrThree
    · have attempts : ∀ e ∈ s.line.queue, e.cls = 3 → e.inAttempt = true := keeps.resolve_left (by decide)
      exact State.handOver_full_none frame full (dropNewestClassThree_none _ attempts)
    · exact State.handOver_full_other frame full (by decide)
  case displaced =>
    subst two
    have taken : dropNewestClassThree s.line.queue = some (older ++ newer, victim.frame.kind) := by
      rw [queue]
      exact dropNewestClassThree_some older newer victim passed three idle
    have orderKept : (older ++ newer).Pairwise fun x y => x.cls ≤ y.cls := by
      rw [queue] at order
      exact order.sublist ((List.sublist_cons_self victim newer).append_left older)
    rw [State.handOver_full_some frame full taken, insertByClass_eq_filter _ _ orderKept]
    rfl

end Sys2Proof.Machine

/-! PROOFS of the statements on events and status: how an occurrence is merged into its latch. -/

namespace Sys2Proof.Machine

/-! ## One occurrence at a latch (R175) -/

/-- A blocked latch keeps its content; the occurrence is merged into the sending record (R170, R175). -/
theorem Latch.occur_blocked {l : Latch} (stamp : Time) (localTime : Nat) (detail : Byte) (blocked : l.blocked = true) :
    l.occur stamp localTime detail = { l with sending := l.sending.add stamp detail } := by
  simp [Latch.occur, blocked]

/-- A clear latch becomes pending with count 1, and ready at this local time (R164, R175). -/
theorem Latch.occur_clear {l : Latch} (stamp : Time) (localTime : Nat) (detail : Byte) (free : l.blocked = false)
    (clear : l.pending = false) : l.occur stamp localTime detail =
      { l with pending := true, content := ⟨1, some stamp, some detail⟩, ready := localTime } := by
  simp [Latch.occur, free, clear, Gathered.add, Gathered.none]

/-- A pending latch that is not blocked takes the occurrence into its content (R175). -/
theorem Latch.occur_pending {l : Latch} (stamp : Time) (localTime : Nat) (detail : Byte) (free : l.blocked = false)
    (pending : l.pending = true) :
    l.occur stamp localTime detail = { l with content := l.content.add stamp detail } := by
  simp [Latch.occur, free, pending]

/-- The 24 sources have numbers below 24 (R176). -/
theorem sourceNumber_lt (e : EventSource) : sourceNumber e < 24 := by
  cases e <;> decide

/-- In a bank of 24 latches an occurrence sets the latch of its source, and nothing else. -/
theorem State.occur_eq_set {s : State} (e : EventSource) (detail : Byte) (bank : s.latches.length = 24) :
    s.occur e detail = { s with
      latches := s.latches.set (sourceNumber e) ((s.latchOf e).occur s.now s.clock.localTime detail) } := by
  have inBank : sourceNumber e < s.latches.length := bank ▸ sourceNumber_lt e
  rw [State.occur, modify_eq_set _ _ _ (Latch.clear 2) inBank]
  rfl

/-- Settles O16, by what the latch of the source makes of the occurrence: blocked, clear or pending. -/
theorem occurrencesAndCountsSaturate : Obligations.OccurrencesAndCountsSaturate := by
  intro s e detail c bank
  dsimp only
  rw [State.occur_eq_set e detail bank]
  refine ⟨fun blocked => ?blocked, fun free clear => ?clear, fun free pending => ?pending, ?counter, ?sources,
    ?counters⟩
  case blocked => rw [Latch.occur_blocked _ _ _ blocked]; rfl
  case clear => rw [Latch.occur_clear _ _ _ free clear]
  case pending => rw [Latch.occur_pending _ _ _ free pending]; rfl
  case counter => rfl
  case sources => decide
  case counters => decide

end Sys2Proof.Machine

/-! PROOFS of the statements on the queue of commands, the resets and the station states in which nothing acts. -/

namespace Sys2Proof.Machine

/-! ## Occasions and effects (log 1) -/

/-- Where its occasion stands, a command has its effect. -/
theorem onOccasion_of {stands : Bool} (s : State) (effect : State → State) (h : stands = true) :
    onOccasion stands s effect = .next (effect s) := by
  rw [onOccasion, h]; rfl

/-- Where its occasion does not stand, a command changes nothing (log 1). -/
theorem onOccasion_not {stands : Bool} (s : State) (effect : State → State) (h : stands = false) :
    onOccasion stands s effect = .next s := by
  rw [onOccasion, h]; rfl

/-- A duration has reached a figure where it runs and has counted that far (R5). -/
theorem Timer.hasReached_iff (timer : Timer) (figure : Nat) :
    timer.hasReached figure = true ↔ ∃ n, timer = some n ∧ figure ≤ n := by
  cases timer <;> simp [Timer.hasReached]

/-- The occasion on which a command acts, as its meaning tests it; true for the commands that test nothing first. -/
def occasion (i : Instr) (s : State) : Bool :=
  match i with
  | .resetRelease _ => s.loader.station = .reset
  | .imageRejected image => s.rejects image
  | .endOfLoading image => s.accepts image
  | .endOfJoining => s.joiningDue
  | .roundEnd => s.roundDue
  | .startMark => s.seesStartMark
  | .checkError failure => s.collected = some failure && failsCheck failure
  | .frameDiscarded dest src kind payload =>
    s.hasBytes (frameBytes dest src kind payload) && s.discards dest src kind payload
  | .crp dest src payload => s.hasPayload (.crp dest src payload) payload
  | .evt dest src payload => s.hasPayload (.evt dest src payload) payload
  | .arp dest src payload => s.hasPayload (.arp dest src payload) payload
  | .ans dest src payload => s.hasPayload (.ans dest src payload) payload
  | .bcn dest src b => s.hasFrame (.bcn dest src b)
  | .cab dest src v => s.hasFrame (.cab dest src v)
  | .hnd dest src h => s.hasFrame (.hnd dest src h)
  | .arq dest src level span seconds => s.hasFrame (.arq dest src level span seconds)
  | .arl dest src number => s.hasFrame (.arl dest src number)
  | .jog dest src head count => s.hasFrame (.jog dest src head count)
  | .lck dest src => s.hasFrame (.lck dest src)
  | .qry dest src table start count clear => s.hasFrame (.qry dest src table start count clear)
  | .discrepancy => s.discrepancyDue
  | .restoreTimerExpiry => s.restoreDue
  | .capture => s.listening && s.tracking.infeed.raw
  | .pitch => s.listening && s.tracking.pitch.raw
  | .confirmEdge => s.listening && s.gate.confirm.raw
  | .switchChannelChange => s.listening
  | .doorChange => s.listening
  | .keyChange => s.listening
  | .debounceTimerExpiry _ => s.listening
  | .arrivalLost _ => s.running
  | .decide => s.running
  | .grantExpiry _ => s.running
  | .firingEnd => s.running
  | .confirmWindowEnd => s.running
  | .firingStart => s.firingStartDue
  | .doseStart h => s.doseStartDue h
  | .lowPhaseEnd h => s.lowPhaseOver h
  | .pulseEmitted h => s.highPhaseOver h
  | .driveReadyChange h high => (s.head h).readyTurns high
  | .meterPulse h => s.running && s.fitted h && (s.head h).meterRose
  | .doseTimeout h => s.doseTimedOut h
  | .resumeLimit h => s.resumeLimitDue h
  | .settleEnd h => s.settleDue h
  | .driveFaultActive h => s.driveFaultDue h true
  | .driveFaultInactive h => s.driveFaultDue h false
  | .triggerTime p _ => s.portWorks p
  | .strobeDue p => s.portWorks p
  | .triggerPulseEnd p => (s.port p).trigger.hasReached (s.camera p).triggerWidth
  | .guardEnd p => (s.port p).guard.hasReached Config.guardTime
  | .strobeEnd p => (s.port p).strobe.hasReached (s.camera p).strobeDuration
  | .strobeOffExpiry p => (s.port p).offTimer.hasReached (s.camera p).strobeOff
  | .resultByte p b => s.hasCharacter p (some b)
  | .resultMessage p b => s.checkCompletes p b
  | .framingError p => s.hasCharacter p none
  | .interByteTimeout p => s.interByteDue p
  | .powerOnReset | .resetPin | .localMicrosecond _ | .rawInputChange _ | .transmitStart | .frameSent | .collision => true

/-- What a command does where its occasion stands. -/
def effect (i : Instr) (s : State) : State :=
  match i with
  | .powerOnReset => s.takeReset (some 0) s.loader.rstLow false
  | .resetPin => s.takeReset s.loader.hold true s.access.heldLock
  | .resetRelease rstHigh =>
    if rstHigh && s.holdOver then s.enterLoading else { s with loader := { s.loader with rstLow := !rstHigh } }
  | .imageRejected _ =>
    { s with loader := { s.loader with station := .faulted, memSelected := false, readTimer := none, sampled := [] } }
  | .endOfLoading image => ((s.takeItems image).setLockMode).enterJoining
  | .endOfJoining => (((s.convergeJoining).enterRunning).latchClamps).followConditions
  | .localMicrosecond pins => s.tick pins
  | .roundEnd => s.endRound
  | .startMark => { s with line := { s.line with rx := .collecting s.now .begun, idle := 0, startMark := false } }
  | .checkError failure => ({ s with line := { s.line with rx := receiverAfter failure } } : State).count .checkErrors
  | .frameDiscarded dest src _ _ => s.releaseFrame.judgeFrame dest src State.discard
  | .bcn dest src b => s.receive dest src fun u =>
      (u.takeTime src (s.offsetOf b.stamp s.startStamp) b.quality).takeReport src b.cabinet
  | .cab dest src v => s.receive dest src fun u => u.takeReport src v
  | .hnd dest src h => s.receive dest src fun u => u.ownFrame dest fun u => u.takeHandover src h
  | .crp dest src payload => s.receiveIdle .crp dest src payload
  | .evt dest src payload => s.receiveIdle .evt dest src payload
  | .arp dest src payload => s.receiveIdle .arp dest src payload
  | .ans dest src payload => s.receiveIdle .ans dest src payload
  | .arq dest src level span seconds =>
    s.receive dest src fun u => u.ownFrame dest fun u => u.requestAccess src level span seconds.toNat
  | .arl dest src number => s.receive dest src fun u => u.ownFrame dest fun u => u.releaseGrant src number
  | .jog dest src head count => s.receive dest src fun u => u.ownFrame dest fun u => u.requestJog src head count
  | .lck dest src => s.receive dest src fun u => u.lockOut src
  | .qry dest src table start count clear =>
    s.receive dest src fun u => u.ownFrame dest fun u => u.query src table start count clear
  | .transmitStart =>
    match s.startCandidate with
    | some c => s.startAttempt c
    | none => s
  | .frameSent =>
    match s.line.tx.filter Attempt.isWhole with
    | some a => s.endSent a.candidate
    | none => s
  | .collision =>
    match s.line.tx.filter Attempt.collides with
    | some a => s.endCollided a.candidate
    | none => s
  | .rawInputChange input => s.rawInput input
  | .switchChannelChange => s.takeSwitch
  | .discrepancy => (s.occur .discrepancy s.discrepancyDetail).moveSwitch .fault none
  | .restoreTimerExpiry => s.permissionRises
  | .doorChange => s.takeDoor
  | .keyChange => s.takeKey
  | .capture => s.takeInfeed
  | .pitch => s.takePitch
  | .arrivalLost position => s.loseArrival position
  | .decide => s.decide
  | .doseStart h => s.startDose h
  | .lowPhaseEnd h => s.setHead h fun x => { x with train := .high 0, pulseOut := true }
  | .pulseEmitted h => s.emitPulse h
  | .driveReadyChange h high =>
    s.setHead h fun x => if x.emitting then x.readyChanges high else { x with ready := high }
  | .meterPulse h => s.setHead h Head.meterPulse
  | .doseTimeout h => s.endDose h .stalled (s.head h).meterCount
  | .resumeLimit h => s.endDose h .held (s.head h).meterCount
  | .settleEnd h =>
    s.endDose h (evaluateDose (s.head h).meterCount s.cfg.dosing.expected s.cfg.dosing.tolerance) (s.head h).meterCount
  | .driveFaultActive h => s.driveFaults h
  | .driveFaultInactive h => s.driveFaultClears h
  | .grantExpiry number => s.expireGrant number
  | .triggerTime p busy =>
    match s.triggerDue p with
    | none => s
    | some r => s.trigger p busy r
  | .triggerPulseEnd p => s.setPort p fun c => { c with trigger := none, triggerOut := false, guard := some 0 }
  | .guardEnd p => s.setPort p fun c => { c with guard := none }
  | .strobeDue p => s.strobeDue p
  | .strobeEnd p => s.setPort p fun c =>
      { c with strobe := none, strobeOut := false, offTimer := if (s.camera p).strobeOff = 0 then none else some 0 }
  | .strobeOffExpiry p => s.setPort p fun c => { c with offTimer := none }
  | .resultMessage p b => s.handOn p fun u => u.takeByte p b
  | .resultByte p b => s.handOn p fun u => u.takeByte p b
  | .framingError p => s.handOn p fun u => u.abandon p
  | .interByteTimeout p => s.abandon p
  | .firingStart => s.withFirings (modifyFirst Firing.isWaiting (fun f => { f with phase := .on }) s.gate.firings)
  | .firingEnd => s.firingEnds
  | .confirmEdge => s.takeConfirm
  | .confirmWindowEnd => s.confirmWindowEnds
  | .debounceTimerExpiry input => s.takeQuiet input

/-- Every command has its effect where its occasion stands, and changes nothing elsewhere. -/
theorem exec_eq (i : Instr) (s : State) : exec i s = onOccasion (occasion i s) s (effect i) := by
  cases i <;> rfl

/-- A command whose occasion stands has its effect. -/
theorem exec_effect {i : Instr} {s : State} (h : occasion i s = true) : exec i s = .next (effect i s) := by
  rw [exec_eq, onOccasion_of _ _ h]

/-- A command whose occasion does not stand changes nothing (log 1). -/
theorem exec_idle {i : Instr} {s : State} (h : occasion i s = false) : exec i s = .next s := by
  rw [exec_eq, onOccasion_not _ _ h]

/-! ## The queue of commands (log 4, log 5) -/

/-- Settles O1: the step on a queue with a front command, and on an empty one. -/
theorem stepRunsFrontCommand : Obligations.StepRunsFrontCommand := fun _ _ _ => ⟨rfl, rfl⟩

/-- Judging a frame leaves the queue where taking it does. -/
theorem State.judgeFrame_pending (s : State) (dest src : Byte) (taken : State → State)
    (kept : ∀ u : State, (taken u).pending = u.pending) : (s.judgeFrame dest src taken).pending = s.pending := by
  unfold State.judgeFrame
  repeat' split
  all_goals simp [kept]

/-- Receiving a frame leaves the queue where its owner does. -/
theorem State.receive_pending (s : State) (dest src : Byte) (owner : State → State)
    (kept : ∀ u : State, (owner u).pending = u.pending) : (s.receive dest src owner).pending = s.pending := by
  rw [State.receive, State.judgeFrame_pending _ _ _ _ (by simp [kept])]
  simp

/-- A frame with a single owner leaves the queue where the owner does (R172). -/
theorem State.ownFrame_pending (s : State) (dest : Byte) (owner : State → State)
    (kept : ∀ u : State, (owner u).pending = u.pending) : (s.ownFrame dest owner).pending = s.pending := by
  unfold State.ownFrame
  split
  · exact kept s
  · simp

/-- A frame that acts on nothing leaves the queue (R171). -/
theorem State.receiveIdle_pending (s : State) (kind : FrameKind) (dest src : Byte) (payload : List Byte) :
    (s.receiveIdle kind dest src payload).pending = s.pending := by
  unfold State.receiveIdle
  split
  · exact State.receive_pending _ _ _ _ fun _ => rfl
  · rw [State.judgeFrame_pending _ _ _ _ (by simp)]
    simp

/-- An input whose debounce time is 0 leaves the queue where its change does (R32). -/
theorem State.atOnce_pending (s : State) (steps : Nat) (take : State → State)
    (kept : ∀ u : State, (take u).pending = u.pending) : (s.atOnce steps take).pending = s.pending := by
  unfold State.atOnce
  split
  · exact kept s
  · rfl

/-- A raw input leaves the queue (R32). -/
theorem State.rawInput_pending (s : State) (input : RawInput) : (s.rawInput input).pending = s.pending := by
  cases input <;> simp only [State.rawInput]
  case driveFault => simp
  all_goals rw [State.atOnce_pending _ _ _ (by simp)]

/-- A change that acts on nothing leaves the queue (R48, R120). -/
theorem State.takeQuiet_pending (s : State) (input : QuietInput) : (s.takeQuiet input).pending = s.pending := by
  cases input <;> simp only [State.takeQuiet] <;> split <;> simp

/-- The end of LOADING leaves the queue (R195). -/
theorem State.enterJoining_pending (s : State) : s.enterJoining.pending = s.pending := by
  unfold State.enterJoining State.settleAtOnce
  repeat rw [State.atOnce_pending _ _ _ (by simp)]
  rfl

/-- The lock mode set at the end of LOADING leaves the queue (R195). -/
theorem State.setLockMode_pending (s : State) : s.setLockMode.pending = s.pending := by
  unfold State.setLockMode
  split <;> simp

/-- The end of JOINING leaves the queue (R196). -/
theorem State.joined_pending (s : State) :
    (s.convergeJoining.enterRunning.latchClamps.followConditions).pending = s.pending := by
  have latched (u : State) : u.latchClamps.pending = u.pending := by
    simp only [State.latchClamps]
    exact foldl_keeps State.pending _ (fun u f => by simp) _ u
  have converged : s.joiningConvergence.pending = s.pending := by
    unfold State.joiningConvergence
    split <;> simp
  simp [latched, State.enterRunning, State.convergeJoining, converged]

/-- A round end leaves the queue (R11). -/
theorem State.endRound_pending (s : State) : s.endRound.pending = s.pending := by
  simp [State.endRound]

/-- A character handed on leaves the queue where what it acts on does (R112). -/
theorem State.handOn_pending (s : State) (p : Port) (act : State → State)
    (kept : ∀ u : State, (act u).pending = u.pending) : (s.handOn p act).pending = s.pending := by
  simp only [State.handOn, kept]
  split <;> simp

/-- The effect of every command keeps the queue. -/
theorem effect_pending (i : Instr) (s : State) : (effect i s).pending = s.pending := by
  cases i <;> simp only [effect]
  case powerOnReset | resetPin | localMicrosecond => rfl
  case rawInputChange input => exact State.rawInput_pending s input
  case transmitStart => split <;> simp
  case frameSent => split <;> simp [State.endSent]
  case collision => split <;> simp [State.endCollided]
  case resetRelease => split <;> rfl
  case endOfLoading => rw [State.enterJoining_pending, State.setLockMode_pending]; rfl
  case endOfJoining => exact State.joined_pending s
  case roundEnd => exact State.endRound_pending s
  case frameDiscarded => rw [State.judgeFrame_pending _ _ _ _ (by simp)]; simp
  case crp | evt | arp | ans => exact State.receiveIdle_pending _ _ _ _ _
  case bcn | cab | lck => exact State.receive_pending _ _ _ _ (by simp)
  case hnd | arq | arl | jog | qry =>
    exact State.receive_pending _ _ _ _ fun u => State.ownFrame_pending _ _ _ (by simp)
  case debounceTimerExpiry input => exact State.takeQuiet_pending s input
  case arrivalLost =>
    unfold State.loseArrival
    repeat' split
    all_goals simp [State.latchLost]
  case decide =>
    unfold State.decide
    repeat' split
    all_goals simp
  case triggerTime => split <;> simp
  case resultMessage | framingError | resultByte => exact State.handOn_pending _ _ _ (by simp)
  all_goals simp

/-- Settles O2: what a command does leaves the queue, and where its occasion does not stand it does nothing. -/
theorem commandsCompleteAndKeepQueue : Obligations.CommandsCompleteAndKeepQueue := by
  intro c s
  cases h : occasion c s
  case false => exact ⟨s, exec_idle h, rfl⟩
  case true => exact ⟨_, exec_effect h, effect_pending c s⟩

end Sys2Proof.Machine

namespace Sys2Proof.Machine

/-! ## The station states in which nothing acts (R33, R100, R161, R163, R194) -/

/-- RUNNING is one of the states in which the station listens. -/
theorem State.running_of_listening {s : State} (quiet : s.listening = false) : s.running = false := by
  simp_all [State.listening, State.running]

/-- Outside JOINING and RUNNING no frame has been collected (R161). -/
theorem State.collected_quiet {s : State} (quiet : s.listening = false) : s.collected = none := by
  simp [State.collected, quiet]

/-- Outside JOINING and RUNNING no frame command stands (R161). -/
theorem State.hasFrame_quiet {s : State} (quiet : s.listening = false) (i : Instr) : s.hasFrame i = false := by
  cases h : frameOf i <;> simp [State.hasFrame, State.hasBytes, State.collected_quiet quiet, h]

/-- Outside RUNNING no port works (R100). -/
theorem State.portWorks_quiet {s : State} (quiet : s.listening = false) (p : Port) : s.portWorks p = false := by
  simp [State.portWorks, State.running_of_listening quiet]

/-- Outside RUNNING the run conditions do not hold (R43). -/
theorem State.runConditions_quiet {s : State} (quiet : s.listening = false) : s.runConditions = false := by
  simp [State.runConditions, State.running_of_listening quiet]

/-- Outside JOINING and RUNNING no occasion of these commands stands, but that of TRANSMIT_START, which finds no candidate. -/
theorem occasion_quiet {c : Instr} {s : State} (needs : needsListening c = true) (quiet : s.listening = false)
    (other : c ≠ .transmitStart) : occasion c s = false := by
  have idle := State.running_of_listening quiet
  have unjoined : s.loader.station ≠ .joining := by
    intro h; simp [State.listening, h] at quiet
  cases c <;> cases needs
  case transmitStart => exact absurd rfl other
  case bcn | cab | hnd | arq | arl | jog | lck | qry => exact State.hasFrame_quiet quiet _
  case crp | evt | arp | ans => simp [occasion, State.hasPayload, State.hasFrame_quiet quiet]
  case checkError | frameDiscarded => simp [occasion, State.hasBytes, State.collected_quiet quiet]
  case triggerTime | strobeDue => exact State.portWorks_quiet quiet _
  case resultMessage | framingError | resultByte | interByteTimeout =>
    simp [occasion, State.checkCompletes, State.hasCharacter, State.interByteDue, State.portWorks_quiet quiet]
  case endOfJoining => simp [occasion, State.joiningDue, unjoined]
  case roundEnd => simp [occasion, State.roundDue, idle]
  case startMark => simp [occasion, State.seesStartMark, quiet]
  case restoreTimerExpiry => simp [occasion, State.restoreDue, State.runConditions_quiet quiet]
  case discrepancy => simp [occasion, State.discrepancyDue, quiet]
  case doseStart => simp [occasion, State.doseStartDue, idle]
  case lowPhaseEnd => simp [occasion, State.lowPhaseOver, idle]
  case pulseEmitted => simp [occasion, State.highPhaseOver, idle]
  case doseTimeout => simp [occasion, State.doseTimedOut, idle]
  case resumeLimit => simp [occasion, State.resumeLimitDue, idle]
  case settleEnd => simp [occasion, State.settleDue, idle]
  case driveFaultActive | driveFaultInactive => simp [occasion, State.driveFaultDue, quiet]
  case firingStart => simp [occasion, State.firingStartDue, idle]
  all_goals simp [occasion, quiet, idle]

/-- Settles O3: no occasion stands, and the transmitter may not start. -/
theorem nothingActsBeforeJoining : Obligations.NothingActsBeforeJoining := by
  intro c s needs quiet
  by_cases other : c = .transmitStart
  · subst other
    have none : s.startCandidate = none := by
      simp [State.startCandidate, State.mayStart, State.running_of_listening quiet]
    show Host.Outcome.next _ = _
    rw [none]
  · exact exec_idle (occasion_quiet needs quiet other)

/-! ## Resets (R186, R187) -/

/-- Settles O4: both resets written out, with the 24 latches clear in their classes. -/
theorem resetsTakeResetValues : Obligations.ResetsTakeResetValues := by
  intro s
  refine ⟨_, _, rfl, rfl, rfl, rfl, rfl, rfl, rfl, rfl, rfl, rfl, rfl, rfl, rfl, ?_, rfl, rfl, rfl⟩
  intro l hl
  obtain ⟨i, -, rfl⟩ := List.mem_map.mp hl
  rfl

/-- The Loader's command and address go out most significant bit first (R188). -/
theorem readCommandBits_get (gone : Nat) : readCommandBits[gone]? =
    if gone < 32 then some ((0x03000000#32).getLsbD (31 - gone)) else none := by
  split
  case isTrue inside =>
    have all : ∀ n < 32, readCommandBits[n]? = some ((0x03000000#32).getLsbD (31 - n)) := by decide
    exact all gone inside
  case isFalse outside =>
    have length : readCommandBits.length = 32 := by decide
    exact List.getElem?_eq_none (by omega)

/-- Settles O5: RESET_RELEASE by its sample and the hold, and the pins of the serial memory by the read timer. -/
theorem resetReleaseEntersLoading : Obligations.ResetReleaseEntersLoading := by
  refine ⟨fun s station => ?_, fun s => ⟨fun stopped => ?_, fun gone runs => ?_⟩⟩
  · have stands (high : Bool) : occasion (.resetRelease high) s = true := by simp [occasion, station]
    refine ⟨by rw [exec_effect (stands false)]; rfl, fun none => ?_, fun n runs => ?_⟩
    · simp [exec_effect (stands true), effect, State.holdOver, none, State.enterLoading]
    · have holdOver : s.holdOver = !decide (n < 10000) := by
        simp only [State.holdOver, runs, Config.powerOnHold, Nat.not_lt.symm, decide_not]
      rw [exec_effect (stands true)]
      by_cases runsOn : n < 10000 <;> simp [effect, holdOver, State.enterLoading, runsOn]
  · simp [State.memClocks, State.memSends, stopped]
  · simp [State.memClocks, State.memSends, runs, readCommandBits_get]

end Sys2Proof.Machine

/-! PROOFS of the statements on the configuration image: its checks and what it gives (R188 to R193, R204). -/

namespace Sys2Proof.Machine

/-! ## The bytes sampled from the memory (R188) -/

/-- The bits of a byte, most significant first, spell it. -/
theorem byteOfBits_memory (b : Byte) : byteOfBits [b.getLsbD 0, b.getLsbD 1, b.getLsbD 2, b.getLsbD 3, b.getLsbD 4,
    b.getLsbD 5, b.getLsbD 6, b.getLsbD 7] = b := by
  refine BitVec.eq_of_getLsbD_eq fun i inByte => ?_
  rw [byteOfBits, byte, BitVec.getLsbD_ofNat, bitsByte_testBit]
  interval_cases i <;> simp

/-- Bytes sampled most significant bit first read back, whatever has begun of the next one. -/
theorem memoryBytes_sampled (bytes : List Byte) (begun : List Bool) (short : begun.length < 8) :
    memoryBytes (bytes.flatMap (fun b => (List.range 8).map fun i => b.getLsbD (7 - i)) ++ begun) = bytes := by
  induction bytes with
  | nil =>
    match begun, short with
    | [], _ | [_], _ | [_, _], _ | [_, _, _], _ | [_, _, _, _], _ | [_, _, _, _, _], _ | [_, _, _, _, _, _], _
    | [_, _, _, _, _, _, _], _ => rfl
  | cons b bytes ih =>
    have bits : (List.range 8).map (fun i => b.getLsbD (7 - i)) = [b.getLsbD 7, b.getLsbD 6, b.getLsbD 5, b.getLsbD 4,
        b.getLsbD 3, b.getLsbD 2, b.getLsbD 1, b.getLsbD 0] := rfl
    simp only [List.flatMap_cons, bits, List.cons_append, List.nil_append, memoryBytes, ih,
      byteOfBits_memory]

/-! ## The sum (R190) -/

/-- The word at an even place of bytes, by its number. -/
def wordOf (bytes : List Byte) (i : Nat) : Nat := 256 * (bytes.getD (2 * i) 0).toNat + (bytes.getD (2 * i + 1) 0).toNat

/-- Addition with end-around carry agrees with the sum modulo FFFFH, stays a word, and is 0 for two zeros alone. -/
theorem addAround_spec {a b : Nat} (ha : a ≤ 65535) (hb : b ≤ 65535) :
    addAround a b % 65535 = (a + b) % 65535 ∧ addAround a b ≤ 65535 ∧ (addAround a b = 0 ↔ a + b = 0) := by
  unfold addAround
  split <;> omega

/-- A word is at most FFFFH. -/
theorem wordOf_le (bytes : List Byte) (i : Nat) : wordOf bytes i ≤ 65535 := by
  have high := (bytes.getD (2 * i) 0).isLt
  have low := (bytes.getD (2 * i + 1) 0).isLt
  unfold wordOf
  omega

/-- The one's-complement total of whole words agrees with their sum modulo FFFFH and is 0 where all are. -/
theorem totalOf_spec (n : Nat) (bytes : List Byte) (total : Nat) (whole : bytes.length = 2 * n) (word : total ≤ 65535) :
    totalOf total bytes % 65535 = (total + ((List.range n).map (wordOf bytes)).sum) % 65535 ∧
      totalOf total bytes ≤ 65535 ∧ (totalOf total bytes = 0 ↔ total + ((List.range n).map (wordOf bytes)).sum = 0) := by
  induction n generalizing bytes total with
  | zero =>
    obtain rfl : bytes = [] := List.eq_nil_of_length_eq_zero whole
    simpa [totalOf] using word
  | succ n ih =>
    match bytes, whole with
    | high :: low :: rest, whole =>
      have shifted : wordOf (high :: low :: rest) ∘ Nat.succ = wordOf rest := rfl
      have first : wordOf (high :: low :: rest) 0 = 256 * high.toNat + low.toNat := rfl
      obtain ⟨mod, le, zero⟩ := addAround_spec word (wordOf_le (high :: low :: rest) 0)
      rw [first] at mod le zero
      obtain ⟨mod', le', zero'⟩ := ih rest _ (by simpa [Nat.mul_succ] using whole) le
      rw [List.range_succ_eq_map, List.map_cons, List.map_map, shifted, List.sum_cons, first, totalOf]
      refine ⟨?_, le', ?_⟩ <;> omega

/-- The sum agrees where the 67 words of an image, the stored sum among them, add up to a multiple of FFFFH above 0. -/
theorem sumAgrees_iff {image : List Byte} (length : image.length = 134) : sumAgrees image = true ↔
    0 < ((List.range 67).map (wordOf image)).sum ∧ ((List.range 67).map (wordOf image)).sum % 65535 = 0 := by
  have stored : (wordAt image 132).toNat = wordOf image 66 := by
    have number := numberOf_part_two image 132 (by omega)
    have le := wordOf_le image 66
    unfold wordOf at le ⊢
    rw [wordAt, number, BitVec.toNat_ofNat, Nat.mod_eq_of_lt (by omega)]
  have before : (List.range 66).map (wordOf (image.take 132)) = (List.range 66).map (wordOf image) := by
    refine List.map_congr_left fun i hi => ?_
    have inside := List.mem_range.mp hi
    have even : 2 * i < 132 := by omega
    have odd : 2 * i + 1 < 132 := by omega
    simp [wordOf, List.getD_eq_getElem?_getD, even, odd]
  obtain ⟨mod, le, zero⟩ := totalOf_spec 66 (image.take 132) 0 (by simp [length]) (by omega)
  rw [before] at mod zero
  obtain ⟨mod', le', zero'⟩ := addAround_spec le (wordOf_le image 66)
  have split : ((List.range 67).map (wordOf image)).sum = ((List.range 66).map (wordOf image)).sum + wordOf image 66 := by
    simp [List.range_succ (n := 66)]
  rw [split, sumAgrees, stored, decide_eq_true_iff]
  omega

/-! ## The checks (R189 to R191) -/

/-- The check on bytes 3 and 4 reads them one by one. -/
theorem lengthWord_iff {image : List Byte} (length : image.length = 134) :
    wordAt image 3 ≠ 0x007F ↔ image.getD 3 0 ≠ 0x00 ∨ image.getD 4 0 ≠ 0x7F := by
  have bytewise (high low : Byte) :
      BitVec.ofNat 16 (256 * high.toNat + low.toNat) ≠ 0x007F ↔ high ≠ 0x00 ∨ low ≠ 0x7F := by
    rw [← not_and_or, not_iff_not]
    constructor
    · intro h
      constructor <;> bv_omega
    · rintro ⟨rfl, rfl⟩
      rfl
  rw [wordAt, numberOf_part_two image 3 (by omega)]
  exact bytewise _ _

/-- The first failing check of an image decides how many of its bytes are read (R189). -/
theorem failsAfter_eq {image : List Byte} (length : image.length = 134) : failsAfter image =
    if image.getD 0 0 ≠ 0x47 ∨ image.getD 1 0 ≠ 0x55 then some 2
    else if image.getD 2 0 ≠ 0x01 then some 3
    else if image.getD 3 0 ≠ 0x00 ∨ image.getD 4 0 ≠ 0x7F then some 5
    else if sumAgrees image = false then some 134
    else if (image.getD 5 0).toNat = 0 ∨ 30 < (image.getD 5 0).toNat then some 134
    else none := by
  simp only [← lengthWord_iff length]
  simp [failsAfter, byteAt, imageAddress, Config.imageBytes]

/-- Settles O6: the first failing check with what has been sampled, and the sum by its words. -/
theorem rejectedImageFaults : Obligations.RejectedImageFaults := by
  intro s image bytes begun elapsed station timer length sampled short
  have read : s.imageRead = bytes := by rw [State.imageRead, sampled, memoryBytes_sampled bytes begun short]
  dsimp only
  rw [← failsAfter_eq length]
  refine ⟨fun n fails => ?_, fun passes => ?_, sumAgrees_iff length⟩
  · have stands : occasion (.imageRejected image) s = true ↔ 32 + 8 * n ≤ elapsed ∧ bytes.take n = image.take n := by
      simp [occasion, State.rejects, fails, State.haveRead, station, timer, Timer.hasReached_iff, readMicros, read]
    split
    case isTrue due => exact exec_effect (stands.mpr due)
    case isFalse early => exact exec_idle (Bool.eq_false_iff.mpr (mt stands.mp early))
  · exact exec_idle (by simp [occasion, State.rejects, passes])

end Sys2Proof.Machine

/-! PROOFS. What the operations that several commands share make of the heads (R77, R85 to R97). -/

namespace Sys2Proof.Machine

/-! ## Changing one head -/

/-- A change that leaves every item as it is. -/
@[simp] theorem modify_same {α : Type} (l : List α) (h : Nat) : l.modify h (fun x => x) = l := List.modify_id h l

/-- The configuration is what the record in the Loader gives. -/
theorem State.cfg_congr {s t : State} (record : t.loader.record = s.loader.record) : t.cfg = s.cfg := by
  rw [State.cfg, record]; rfl

/-- Two changes that agree on a head change it alike. -/
theorem State.modify_head_congr {s : State} {h : Nat} {f g : Head → Head} (same : f (s.head h) = g (s.head h)) :
    s.heads.modify h f = s.heads.modify h g := by
  by_cases inside : h < s.heads.length
  · rw [State.modify_head_eq_set s h f inside, State.modify_head_eq_set s h g inside, same]
  · rw [List.modify_eq_self (by omega), List.modify_eq_self (by omega)]

/-- A change that leaves a head as it is changes nothing. -/
theorem State.modify_head_id {s : State} {h : Nat} {f : Head → Head} (same : f (s.head h) = s.head h) :
    s.heads.modify h f = s.heads := by
  rw [State.modify_head_congr (g := fun x => x) same, modify_same]

/-- The changed head itself, where the list holds it. -/
theorem State.head_modify_self {s t : State} {h : Nat} {f : Head → Head} (heads : t.heads = s.heads.modify h f)
    (inside : h < s.heads.length) : t.head h = f (s.head h) := by
  simp [State.head, heads, inside, List.getD_eq_getElem?_getD]

/-- A head that is not changed. -/
theorem State.head_modify_ne {s t : State} {h k : Nat} {f : Head → Head} (heads : t.heads = s.heads.modify h f)
    (other : h ≠ k) : t.head k = s.head k := by
  simp [State.head, heads, List.getD_eq_getElem?_getD, other]

/-- A head of equal lists of heads. -/
theorem State.head_congr {s t : State} (heads : t.heads = s.heads) (h : Nat) : t.head h = s.head h := by
  rw [State.head, heads]; rfl

/-- A change at each of the first n places in turn is one at each place below n. -/
theorem foldl_modify_range {α : Type} (l : List α) (f : Nat → α → α) (n : Nat) :
    (List.range n).foldl (fun l' i => l'.modify i (f i)) l = l.mapIdx fun i x => if i < n then f i x else x := by
  induction n with
  | zero => exact (List.ext_getElem (by simp) fun i _ _ => by simp).symm
  | succ n ih =>
    rw [List.range_succ, List.foldl_append, ih]
    refine List.ext_getElem (by simp) fun i _ _ => ?_
    simp only [List.foldl_cons, List.foldl_nil, List.getElem_modify, List.getElem_mapIdx]
    by_cases same : n = i
    · simp [same]
    · have le : i < n + 1 ↔ i < n := by omega
      simp [same, le]

/-- An operation at each of the first n heads changes each of them, where it changes its own head alone. -/
theorem heads_foldl_range (op : State → Nat → State) (f : Nat → Head → Head) (n : Nat)
    (one : ∀ u h, (op u h).heads = u.heads.modify h (f h)) (s : State) :
    ((List.range n).foldl op s).heads = s.heads.mapIdx fun i x => if i < n then f i x else x := by
  rw [← foldl_modify_range]
  generalize List.range n = hs
  induction hs generalizing s with
  | nil => rfl
  | cons h hs ih => rw [List.foldl_cons, List.foldl_cons, ih, one]

/-- A head after a change at every place. -/
theorem State.head_mapIdx {s t : State} {f : Nat → Head → Head} (heads : t.heads = s.heads.mapIdx f) {h : Nat}
    (inside : h < s.heads.length) : t.head h = f h (s.head h) := by
  simp [State.head, heads, inside, List.getD_eq_getElem?_getD]

/-! ## What ends at a head -/

/-- The head after the end of a jog, where one runs (R97). -/
def Head.jogEnded (x : Head) : Head := if x.jog.isSome then { x.quiet with jog := none } else x

/-- The head after the end of a dose, where one is in hand (R94). -/
def Head.doseEnded (result : FillResult) (x : Head) : Head := if x.hand.isSome then x.endDose result else x

/-- The end of a jog changes its own head alone. -/
@[simp] theorem State.endJog_heads (s : State) (h : Nat) (cause : JogCause) :
    (s.endJog h cause).heads = s.heads.modify h Head.jogEnded := by
  cases running : (s.head h).jog with
  | none =>
    rw [State.modify_head_id (by simp [Head.jogEnded, running])]
    simp [State.endJog, running]
  | some j =>
    simp only [State.endJog, running, State.reply_frame, State.setHead_heads]
    exact State.modify_head_congr (by simp [Head.jogEnded, running])

/-- The end of a dose changes its own head alone. -/
@[simp] theorem State.endDose_heads (s : State) (h : Nat) (result : FillResult) (meter : Nat) :
    (s.endDose h result meter).heads = s.heads.modify h (Head.doseEnded result) := by
  cases held : (s.head h).hand with
  | none =>
    rw [State.modify_head_id (by simp [Head.doseEnded, held])]
    simp [State.endDose, held]
  | some d =>
    have same : s.heads.modify h (Head.endDose · result) = s.heads.modify h (Head.doseEnded result) :=
      State.modify_head_congr (by simp [Head.doseEnded, held])
    simp only [State.endDose, held]
    split <;> simp [same]

/-! ## Run permission at a head (R89, R90, R97) -/

/-- The head with its dose in hand suspended (R89). -/
def Head.suspended (x : Head) : Head :=
  { x.quiet with dose := .suspended, hand := x.hand.map fun d => { d with resumeTimer := some 0 } }

/-- The head after a fall of run permission, with a resume limit in ms: its dose in RUN is suspended, or ends HELD at once,
and its jog ends (R89, R97, log 21). -/
def Head.loses (resumeMs : Nat) (x : Head) : Head :=
  if x.dose = .run then
    if x.hand.isSome then (if resumeMs = 0 then x.suspended.endDose .held else x.suspended) else x
  else x.jogEnded

/-- The head after a rise of run permission (R90). -/
def Head.gains (x : Head) : Head :=
  if x.dose = .suspended then
    { x with
      dose := .run
      hand := x.hand.map fun d => { d with resumeTimer := none }
      enableOut := true
      train := x.startTrain }
  else x

/-- A suspension changes its own head alone. -/
theorem State.suspend_heads (s : State) (h : Nat) : (s.suspend h).heads = s.heads.modify h fun x =>
    if x.hand.isSome then (if s.cfg.dosing.resumeMs = 0 then x.suspended.endDose .held else x.suspended) else x := by
  cases held : (s.head h).hand with
  | none => simp only [State.suspend, held]; exact (State.modify_head_id (by simp [held])).symm
  | some d =>
    simp only [State.suspend, held]
    split
    case isTrue atOnce =>
      rw [State.endDose_heads, State.setHead_heads]
      have twice : (s.heads.modify h fun x => { x.quiet with
          dose := .suspended, hand := some { d with resumeTimer := some 0 } }).modify h (Head.doseEnded .held) = _ :=
        congrArg State.heads (State.setHead_setHead s h _ (Head.doseEnded .held))
      rw [twice]
      exact State.modify_head_congr (by simp [held, Head.doseEnded, Head.suspended])
    case isFalse later =>
      exact State.modify_head_congr (by simp [held, Head.suspended])

/-- A fall of run permission changes each head alone. -/
@[simp] theorem State.permissionLost_heads (s : State) (h : Nat) :
    (s.permissionLost h).heads = s.heads.modify h (Head.loses s.cfg.dosing.resumeMs) := by
  unfold State.permissionLost
  split
  case isTrue runs =>
    rw [State.suspend_heads]
    exact State.modify_head_congr (by simp [Head.loses, runs])
  case isFalse idle =>
    rw [State.endJog_heads]
    exact State.modify_head_congr (by simp [Head.loses, idle])

/-- A rise of run permission changes each head alone. -/
@[simp] theorem State.permissionGained_heads (s : State) (h : Nat) :
    (s.permissionGained h).heads = s.heads.modify h Head.gains := by
  unfold State.permissionGained
  split
  case isTrue waits => exact State.modify_head_congr (by simp [Head.gains, waits])
  case isFalse other => exact (State.modify_head_id (by simp [Head.gains, other])).symm

/-- The heads after a rise of run permission (R90). -/
theorem State.permissionRises_heads (s : State) : s.permissionRises.heads =
    s.heads.mapIdx fun i x => if i < s.cfg.track.heads then x.gains else x := by
  rw [State.permissionRises, State.forHeads,
    heads_foldl_range _ (fun _ => Head.gains) _ (fun u h => State.permissionGained_heads u h),
    State.cfg_congr (s := s) (by simp), State.announce_heads]

/-- An operation at each of the first n heads that keeps a reading changes each head by what that reading says. -/
theorem heads_foldl_range_reading {α : Type} (reading : State → α) (op : State → Nat → State) (f : α → Head → Head) (n : Nat)
    (one : ∀ u h, (op u h).heads = u.heads.modify h (f (reading u))) (kept : ∀ u h, reading (op u h) = reading u)
    (s : State) : ((List.range n).foldl op s).heads = s.heads.mapIdx fun i x => if i < n then f (reading s) x else x := by
  rw [← foldl_modify_range s.heads fun _ => f (reading s)]
  generalize List.range n = hs
  induction hs generalizing s with
  | nil => rfl
  | cons h hs ih => rw [List.foldl_cons, List.foldl_cons, ih, one, kept]

/-- The heads after a fall of run permission (R89, R97). -/
theorem State.permissionFalls_heads (s : State) : s.permissionFalls.heads =
    s.heads.mapIdx fun i x => if i < s.cfg.track.heads then x.loses s.cfg.dosing.resumeMs else x := by
  rw [State.permissionFalls, State.forHeads, heads_foldl_range_reading (·.cfg.dosing.resumeMs) _ Head.loses _
    (fun u h => State.permissionLost_heads u h) (fun u h => by simp [State.cfg]), State.cfg_congr (s := s) (by simp),
    State.announce_heads]

/-! ## Grants at the heads (R77, R149) -/

/-- A change at each head of a set changes those heads alone. -/
theorem State.atHeads_heads (s : State) (set : HeadSet) (f : Head → Head) :
    (s.atHeads set f).heads = s.heads.mapIdx fun i x => if i < 8 then (if inSet set i then f x else x) else x :=
  heads_foldl_range (fun u h => if inSet set h then u.setHead h f else u) (fun h x => if inSet set h then f x else x) 8
    (fun u h => by cases held : inSet set h <;> simp) s

/-- The jogs on a set of heads end at those heads alone. -/
theorem State.endJogsOn_heads (s : State) (set : HeadSet) (cause : JogCause) :
    (s.endJogsOn set cause).heads =
      s.heads.mapIdx fun i x => if i < 8 then (if inSet set i then x.jogEnded else x) else x :=
  heads_foldl_range (fun u h => if inSet set h then u.endJog h cause else u)
    (fun h x => if inSet set h then x.jogEnded else x) 8
    (fun u h => by cases held : inSet set h <;> simp) s

/-- The readiness test leaves the heads (R146). -/
theorem State.testReady_heads (s : State) (h : Nat) : (s.testReady h).heads = s.heads := (State.testReady_frame s h).2.2.2.2.2.1

end Sys2Proof.Machine

/-! PROOFS of the statements on reception: the frame that is taken, judged, discarded or failed (R27, R161, R162, R172). -/

namespace Sys2Proof.Machine

/-! ## A frame on its way -/

/-- A station address is 1 to 30 (R162 check 3). -/
theorem isStation_iff (src : Byte) : isStation src = true ↔ 1 ≤ src.toNat ∧ src.toNat ≤ 30 := by
  simp [isStation]

/-- In a table of 30 entries the entry of a station address is set by changing it (R25). -/
theorem State.setPeer_eq_set {s : State} {src : Byte} (table : s.peers.length = 30) (station : isStation src = true)
    (f : Peer → Peer) : s.setPeer src.toNat f = { s with peers := s.peers.set (src.toNat - 1) (f (s.peer src.toNat)) } := by
  have bounds := (isStation_iff src).mp station
  rw [State.setPeer, modify_eq_set _ _ _ Peer.atReset (by omega)]
  rfl

/-- A payload has arrived where its frame has, and is no longer than a frame may be (R160). -/
theorem State.hasPayload_iff (s : State) (i : Instr) (payload : List Byte) :
    s.hasPayload i payload = true ↔ s.hasFrame i = true ∧ payload.length ≤ 56 := by
  simp [State.hasPayload]

/-- A frame that acts on nothing is received where its length is allowed (R171, R198). -/
theorem State.receiveIdle_allowed (s : State) {kind : FrameKind} (dest src : Byte) {payload : List Byte}
    (allowed : lenAllowed kind payload.length = true) :
    s.receiveIdle kind dest src payload = s.receive dest src fun u => u := by
  rw [State.receiveIdle, if_pos allowed]

/-- Settles O17: the parts of a taken frame, and the four kinds that do no more. -/
theorem takenFrameMarksItsPeer : Obligations.TakenFrameMarksItsPeer := by
  intro s i dest src table passes
  obtain ⟨collected, notOwn, station, forUs⟩ := id passes
  have idle {kind : FrameKind} {payload : List Byte} (allowed : lenAllowed kind payload.length = true)
      (meaning : effect i s = s.receiveIdle kind dest src payload) (stands : occasion i s = true) :
      exec i s = .next (s.takenFrom src) := by
    rw [exec_effect stands, meaning, State.receiveIdle_allowed _ _ _ allowed, State.receive_passes passes]
  refine ⟨?taken, fun payload => ⟨?crp, ?evt, ?arp, ?ans⟩⟩
  case taken =>
    have same : s.releaseFrame.peer src.toNat = s.peer src.toNat := rfl
    rw [State.takenFrom, State.peerHeard, same, State.setPeer_eq_set (s := s.releaseFrame) table station]
    split <;> rfl
  case crp =>
    rintro rfl length
    exact idle (by simp [lenAllowed, length]) rfl ((State.hasPayload_iff _ _ _).mpr ⟨collected, by omega⟩)
  case evt =>
    rintro rfl length
    exact idle (by simp [lenAllowed, length]) rfl ((State.hasPayload_iff _ _ _).mpr ⟨collected, by omega⟩)
  case arp =>
    rintro rfl length
    exact idle (by simp [lenAllowed, length]) rfl ((State.hasPayload_iff _ _ _).mpr ⟨collected, by omega⟩)
  case ans =>
    rintro rfl low high
    exact idle (by simp [lenAllowed, low, high]) rfl ((State.hasPayload_iff _ _ _).mpr ⟨collected, high⟩)

/-! ## Frame commands judged (R162, R172) -/

/-- A command whose frame has not been collected changes nothing (log 1, log 10). -/
theorem exec_frame_absent {i : Instr} {s : State} {bytes : List Byte} (frame : frameOf i = some bytes)
    (absent : s.hasFrame i = false) : exec i s = .next s := by
  cases i <;> cases frame
  all_goals exact exec_idle (by simp [occasion, State.hasPayload, absent])

/-- The kinds whose frames go to a single owner, which refuses them in JOINING or sent to 31 (R172). -/
def hasSingleOwner : FrameKind → Bool
  | .hnd | .arq | .arl | .jog | .qry => true
  | .bcn | .cab | .crp | .evt | .arp | .lck | .ans => false

/-- A frame that acts on nothing is received where it has been collected and its length is allowed (R171, R198). -/
theorem exec_idleFrame {i : Instr} {s : State} {kind : FrameKind} {dest src : Byte} {payload : List Byte}
    (meaning : effect i s = s.receiveIdle kind dest src payload) (test : occasion i s = s.hasPayload i payload)
    (collected : s.hasFrame i = true) (short : payload.length ≤ 56) (allowed : lenAllowed kind payload.length = true) :
    exec i s = .next (s.receive dest src fun u => u) := by
  have stands := test.trans ((State.hasPayload_iff _ _ _).mpr ⟨collected, short⟩)
  rw [exec_effect stands, meaning, State.receiveIdle_allowed _ _ _ allowed]

/-- A well-formed frame command is received; the kinds with a single owner go to it, and LCK to the Access Unit (R172). -/
theorem exec_frame_received {i : Instr} {s : State} {bytes : List Byte} (frame : frameOf i = some bytes)
    (wellFormed : i.wellFormed = true) (collected : s.hasFrame i = true) :
    ∃ dest src kind payload owner, bytes = frameBytes dest src (kindCode kind) payload ∧
      exec i s = .next (s.receive dest src owner) ∧
      (hasSingleOwner kind = true → ∃ f, owner = fun u => u.ownFrame dest f) ∧
      (kind = .lck → owner = fun u => u.lockOut src) := by
  have next (stands : occasion i s = true) {s' : State} (meaning : effect i s = s') : exec i s = .next s' :=
    (exec_effect stands).trans (congrArg _ meaning)
  cases i <;> cases frame
  case crp dest src payload | evt dest src payload | arp dest src payload =>
    have length : payload.length = _ := of_decide_eq_true wellFormed
    exact ⟨dest, src, _, payload, _, rfl, exec_idleFrame rfl rfl collected (by omega) (by simp [lenAllowed, length]), nofun,
      nofun⟩
  case ans dest src payload =>
    have length : 4 ≤ payload.length ∧ payload.length ≤ 56 := by simpa [Instr.wellFormed] using wellFormed
    exact ⟨dest, src, .ans, payload, _, rfl,
      exec_idleFrame rfl rfl collected length.2 (by simp [lenAllowed, length]), nofun, nofun⟩
  case bcn dest src b =>
    exact ⟨dest, src, .bcn, _, fun u => (u.takeTime src (s.offsetOf b.stamp s.startStamp) b.quality).takeReport src b.cabinet,
      rfl, next collected rfl, nofun, nofun⟩
  case cab dest src v =>
    exact ⟨dest, src, .cab, _, fun u => u.takeReport src v, rfl, next collected rfl, nofun, nofun⟩
  case lck dest src => exact ⟨dest, src, .lck, _, fun u => u.lockOut src, rfl, next collected rfl, nofun, fun _ => rfl⟩
  case hnd dest src h | arq dest src _ _ _ | arl dest src _ | jog dest src _ _ | qry dest src _ _ _ _ =>
    exact ⟨dest, src, _, _, _, rfl, next collected (Eq.refl (s.receive _ _ fun u => u.ownFrame _ _)), fun _ => ⟨_, rfl⟩, nofun⟩

/-- A single owner refuses a frame in JOINING or sent to 31 (R172). -/
theorem State.ownFrame_refuses {s : State} {dest : Byte} (owner : State → State)
    (refuses : s.loader.station = .joining ∨ dest = 31) : s.ownFrame dest owner = s.discard := by
  rcases refuses with h | h <;> simp [State.ownFrame, State.running, h]

/-- Settles O18: a frame command reaches its owner by the checks of R162, in their order. -/
theorem frameCommandsAreJudged : Obligations.FrameCommandsAreJudged := by
  refine ⟨fun s i bytes frame absent => ?_, fun s stamp dominant recessive i bytes frame wellFormed listens rx => ?_⟩
  · refine exec_frame_absent frame (Bool.eq_false_iff.mpr fun has => ?_)
    obtain ⟨_, same, listens, stamp, place, rx, ended⟩ := (State.hasFrame_iff s i).mp has
    cases frame.symm.trans same
    rcases absent with quiet | elsewhere
    · simp [quiet] at listens
    · exact elsewhere stamp place rx ended
  · have collected : s.hasFrame i = true := (State.hasFrame_iff s i).mpr ⟨bytes, frame, listens, stamp, _, rx, rfl⟩
    obtain ⟨dest, src, kind, payload, owner, rfl, meaning, single, lockOut⟩ := exec_frame_received frame wellFormed collected
    have own : s.releaseFrame.ownAddress = s.ownAddress := rfl
    have forUs (dest : Byte) : s.releaseFrame.isForUs dest = s.isForUs dest := rfl
    have parts : (frameBytes dest src (kindCode kind) payload).getD 0 0 = dest ∧
        (frameBytes dest src (kindCode kind) payload).getD 1 0 = src ∧
        (frameBytes dest src (kindCode kind) payload).getD 2 0 = kindCode kind := ⟨rfl, rfl, rfl⟩
    dsimp only
    rw [meaning, parts.1, parts.2.1, parts.2.2]
    refine ⟨fun clash => ?clash, fun foreign strange => ?strange, fun foreign low high notOwn notAll => ?others,
      fun passes owned refuses => ?refused, fun passes lck station => ?locked⟩
    case clash => rw [State.receive, State.judgeFrame, own, if_pos clash]; rfl
    case strange =>
      have noStation : isStation src = false := by
        rw [Bool.eq_false_iff, Ne, isStation_iff]; omega
      rw [State.receive, State.judgeFrame, own, if_neg foreign, noStation]
      rfl
    case others =>
      have station := (isStation_iff src).mpr ⟨low, high⟩
      have notForUs : s.isForUs dest = false := by simpa [State.isForUs, notOwn] using notAll
      rw [State.receive, State.judgeFrame, own, if_neg foreign, station, forUs, notForUs]
      rfl
    case refused =>
      have singleOwner : hasSingleOwner kind = true := by cases kind <;> simp_all [kindCode, hasSingleOwner]
      obtain ⟨f, rfl⟩ := single singleOwner
      rw [State.receive_passes passes, State.ownFrame_refuses f (by simpa [State.takenFrom_frame] using refuses)]
      rfl
    case locked =>
      have isLck : kind = .lck := by cases kind <;> simp_all [kindCode]
      have later : (s.takenFrom src).loader.station = .joining := (State.takenFrom_frame s src).1 ▸ station
      rw [State.receive_passes passes, lockOut isLck]
      simp only [State.lockOut, State.running, later]
      rfl

/-! ## Start marks and failed frames (R159, R161, R162) -/

/-- The twelve frame kinds. -/
theorem FrameKind.exists_iff (p : FrameKind → Prop) : (∃ k, p k) ↔ p .bcn ∨ p .cab ∨ p .hnd ∨ p .crp ∨ p .evt ∨ p .arq ∨
    p .arp ∨ p .arl ∨ p .jog ∨ p .lck ∨ p .qry ∨ p .ans := by
  constructor
  · rintro ⟨k, h⟩; cases k <;> simp [h]
  · rintro (h | h | h | h | h | h | h | h | h | h | h | h) <;> exact ⟨_, h⟩

/-- A KIND code is that of a kind in the list of R171. -/
theorem kindOf_eq_some (code : Byte) (kind : FrameKind) : kindOf code = some kind ↔ kindCode kind = code := by
  constructor
  · intro h
    simpa using List.find?_some h
  · rintro rfl
    cases kind <;> decide

/-- The line allows a kind and a length where one of the twelve kinds has both (R162 checks 5 and 6). -/
theorem allowedKind_isNone (code : Byte) (len : Nat) : (allowedKind code len).isNone = true ↔
    ¬∃ kind, kindCode kind = code ∧ lenAllowed kind len = true := by
  rw [allowedKind, Option.isNone_iff_eq_none, Option.filter_eq_none_iff]
  simp [kindOf_eq_some]

/-- The lengths that R198 gives the kinds of R171, as ranges. -/
theorem lenAllowed_table (code : Byte) (len : Nat) : (∃ kind, kindCode kind = code ∧ lenAllowed kind len = true) ↔
    ∃ row ∈ ([(0x01, 16, 16), (0x02, 4, 4), (0x03, 19, 19), (0x04, 33, 33), (0x05, 9, 9), (0x06, 4, 4), (0x07, 11, 11),
      (0x08, 1, 1), (0x09, 2, 2), (0x0A, 0, 0), (0x0B, 4, 4), (0x0C, 4, 56)] : List (Byte × Nat × Nat)),
      row.1 = code ∧ row.2.1 ≤ len ∧ len ≤ row.2.2 := by
  have single (n : Nat) : len = n ↔ n ≤ len ∧ len ≤ n := by omega
  rw [FrameKind.exists_iff]
  simp only [List.exists_mem_cons_iff, List.not_mem_nil, kindCode, lenAllowed, decide_eq_true_eq, Bool.and_eq_true, single,
    false_and, exists_false, or_false]
  rfl

/-- A whole frame fails one of checks 2 to 6 of R162. -/
theorem State.discards_iff (s : State) (dest src kind : Byte) (payload : List Byte) :
    s.discards dest src kind payload = true ↔ payload.length ≤ 56 ∧ (src = s.ownAddress ∨ ¬isStation src = true ∨
      (dest ≠ s.ownAddress ∧ dest ≠ 31) ∨ ¬∃ k, kindCode k = kind ∧ lenAllowed k payload.length = true) := by
  simp only [State.discards, Bool.and_eq_true, decide_eq_true_eq, Bool.or_eq_true, allowedKind_isNone, State.isForUs,
    Bool.not_eq_true', Bool.not_eq_true, or_assoc, Bool.or_eq_false_iff, decide_eq_false_iff_not]

/-- Check 1 of R162, part by part. -/
theorem wholeFrame_iff (bytes : List Byte) : wholeFrame bytes = true ↔
    6 ≤ bytes.length ∧ bytes.length ≤ 62 ∧ (bytes.getD 3 0).toNat + 6 = bytes.length ∧ crc16 bytes = 0 := by
  simp only [wholeFrame, Bool.and_eq_true, decide_eq_true_eq]
  tauto

/-- Settles O19: the start mark, the frame that fails check 1, and the frame that fails a later one. -/
theorem failedFramesAreCounted : Obligations.FailedFramesAreCounted := by
  intro s listens
  have bytesOnly (bytes : List Byte) : s.hasBytes bytes = true ↔
      ∃ stamp frame, s.line.rx = .collecting stamp frame ∧ frame.place = .over (.ended bytes) := by
    rw [State.hasBytes, decide_eq_true_iff, State.collected_iff]
    simp [listens]
  refine ⟨fun watches mark => ?mark, fun none => ?noMark, fun got elsewhere => ⟨?noError, ?noDiscard⟩,
    fun stamp got dominant recessive rx => ⟨?broken, ?checked, fun dest src kind payload short whole => ?discarded⟩⟩
  case mark => exact exec_effect (by simp [occasion, State.seesStartMark, listens, watches, mark])
  case noMark =>
    exact exec_idle (by rcases none with h | h <;> simp [occasion, State.seesStartMark, h])
  case noError =>
    refine exec_idle ?_
    have absent : ¬s.collected = some got := by
      rw [State.collected_iff]
      rintro ⟨-, stamp, frame, rx, place⟩
      exact elsewhere stamp frame rx place
    simp [occasion, absent]
  case noDiscard =>
    rintro dest src kind payload rfl
    refine exec_idle ?_
    have absent : s.hasBytes (frameBytes dest src kind payload) = false := by
      rw [Bool.eq_false_iff, Ne, bytesOnly]
      rintro ⟨stamp, frame, rx, place⟩
      exact elsewhere stamp frame rx place
    simp [occasion, absent]
  case broken =>
    rintro onDominant rfl
    have collected := (State.collected_iff s (.broken onDominant)).mpr ⟨listens, stamp, _, rx, rfl⟩
    exact exec_effect (by simp [occasion, collected, failsCheck])
  case checked =>
    rintro bytes rfl
    have collected := (State.collected_iff s (.ended bytes)).mpr ⟨listens, stamp, _, rx, rfl⟩
    split
    case isTrue whole => exact exec_idle (by simp [occasion, collected, failsCheck, (wholeFrame_iff _).mpr whole])
    case isFalse fails =>
      have notWhole := Bool.eq_false_iff.mpr (mt (wholeFrame_iff _).mp fails)
      exact exec_effect (by simp [occasion, collected, failsCheck, notWhole])
  case discarded =>
    subst whole
    have has := (bytesOnly (frameBytes dest src kind payload)).mpr ⟨stamp, _, rx, rfl⟩
    have stands : occasion (.frameDiscarded dest src kind payload) s = true ↔
        s.discards dest src kind payload = true := by simp [occasion, has]
    have own : s.releaseFrame.ownAddress = s.ownAddress := rfl
    have forUs (dest : Byte) : s.releaseFrame.isForUs dest = s.isForUs dest := rfl
    dsimp only
    rw [← lenAllowed_table]
    refine ⟨fun clash => ?clash, fun foreign strange => ?strange, fun foreign low high fails => ?heard,
      fun foreign low high here allowed => ?passes⟩
    case clash =>
      rw [exec_effect (stands.mpr ((State.discards_iff ..).mpr ⟨short, .inl clash⟩))]
      simp only [effect, State.judgeFrame, own, clash]
      rfl
    case strange =>
      have noStation : ¬isStation src = true := by rw [isStation_iff]; omega
      rw [exec_effect (stands.mpr ((State.discards_iff ..).mpr ⟨short, .inr (.inl noStation)⟩))]
      simp only [effect, State.judgeFrame, own, foreign, noStation]
      rfl
    case heard =>
      have station := (isStation_iff src).mpr ⟨low, high⟩
      rw [exec_effect (stands.mpr ((State.discards_iff ..).mpr ⟨short, .inr (.inr fails)⟩))]
      simp only [effect, State.judgeFrame, own, foreign, station]
      cases s.releaseFrame.isForUs dest <;> rfl
    case passes =>
      refine exec_idle (Bool.eq_false_iff.mpr (mt stands.mp (mt (State.discards_iff ..).mp ?_)))
      rintro ⟨-, own | noStation | ⟨other, notAll⟩ | unknown⟩
      · exact foreign own
      · exact noStation ((isStation_iff src).mpr ⟨low, high⟩)
      · exact here.elim other notAll
      · exact unknown allowed

end Sys2Proof.Machine

/-! PROOFS of the statements on run permission and on the two frames that report a cabinet (R30, R43 to R45, R89, R90, R97). -/

namespace Sys2Proof.Machine

/-! ## The announcement (R39) -/

/-- The line after an announcement: in RUNNING by the state of the CAB slot, else as it was (R39). -/
def LinePort.announced (runs : Bool) (line : LinePort) : LinePort :=
  if runs then match line.cabSlot with
    | .empty => { line with cabSlot := .pending }
    | .pending => line
    | .sending => { line with renew := true }
  else line

/-- The announcement changes the line alone (R39). -/
theorem State.announce_eq (s : State) : s.announce = { s with line := s.line.announced s.running } := by
  unfold State.announce LinePort.announced
  split
  · split <;> simp_all
  · rfl

/-! ## A rise of run permission (R44, R45, R90) -/

/-- Folds whose operations each change one head and nothing else change the heads alone. -/
theorem foldl_heads_range (op : State → Nat → State) (f : Nat → Head → Head) (n : Nat)
    (one : ∀ u h, op u h = { u with heads := u.heads.modify h (f h) }) (s : State) :
    (List.range n).foldl op s = { s with heads := s.heads.mapIdx fun i x => if i < n then f i x else x } := by
  rw [← foldl_modify_range]
  generalize List.range n = hs
  induction hs generalizing s with
  | nil => rfl
  | cons h hs ih => rw [List.foldl_cons, List.foldl_cons, ih, one]

/-- A rise of run permission at a head, whole (R90). -/
theorem State.permissionGained_eq (s : State) (h : Nat) :
    s.permissionGained h = { s with heads := s.heads.modify h Head.gains } := by
  rw [← State.permissionGained_heads]
  unfold State.permissionGained
  split <;> rfl

/-- A rise of run permission, whole (R44, R45, R90). -/
theorem State.permissionRises_eq (s : State) : s.permissionRises = ({ s with
    cabinet := { s.cabinet with permission := true, restore := none }
    loader := { s.loader with runLamp := true }
    heads := s.heads.mapIdx fun i x => if i < s.cfg.track.heads then x.gains else x } : State).announce := by
  rw [State.permissionRises, State.forHeads,
    foldl_heads_range _ (fun _ => Head.gains) _ (fun u h => State.permissionGained_eq u h), State.cfg_congr (s := s) (by simp),
    State.announce_heads, State.announce_eq, State.announce_eq]
  rfl

/-! ## A fall of run permission (R44, R89, R97) -/

/-- Two operations that agree on states with a property that the first keeps make the same of a list. -/
theorem foldl_congr_kept {α β : Type} (keeps : α → Prop) (f g : α → β → α) (xs : List β)
    (same : ∀ a, keeps a → ∀ b ∈ xs, f a b = g a b ∧ keeps (f a b)) (a : α) (start : keeps a) :
    xs.foldl f a = xs.foldl g a := by
  induction xs generalizing a with
  | nil => rfl
  | cons b xs ih =>
    obtain ⟨eq, kept⟩ := same a start b (by simp)
    rw [List.foldl_cons, List.foldl_cons, ih (fun a' h b' hb => same a' h b' (List.mem_cons_of_mem _ hb)) _ kept, eq]

/-- The end of a jog, written out (R97, R152). -/
theorem State.endJog_eq {s : State} {h : Nat} (inside : h < s.heads.length) (cause : JogCause) :
    s.endJog h cause = match (s.head h).jog with
      | none => s
      | some j => ({ s with heads := s.heads.set h { s.head h with
          jog := none, train := .stopped, pulseOut := false, enableOut := false } } : State).answered (byte j.holder)
          ([7, byte h, jogCauseCode cause] ++ bytesOf 2 j.emitted ++ bytesOf 2 j.meter) := by
  unfold State.endJog
  cases running : (s.head h).jog with
  | none => rfl
  | some j =>
    simp only
    rw [State.reply_eq_answered _ _ _ (by simp [replyBytes]), State.setHead, State.modify_head_eq_set s h _ inside]
    rfl

/-- A suspension, written out (R89, log 21). -/
theorem State.suspend_eq {s : State} {h : Nat} (inside : h < s.heads.length) :
    s.suspend h = match (s.head h).hand with
      | none => s
      | some d =>
        let v : State := { s with heads := s.heads.set h { s.head h with
          dose := .suspended, hand := some { d with resumeTimer := some 0 }
          train := .stopped, pulseOut := false, enableOut := false } }
        if s.cfg.dosing.resumeMs = 0 then v.endDose h .held d.meter else v := by
  unfold State.suspend
  cases (s.head h).hand with
  | none => rfl
  | some d => simp only [State.setHead, State.modify_head_eq_set s h _ inside]; rfl

/-- What a fall of run permission makes of the records (R59, R89, R94): one whose dose ends HELD takes that result. -/
theorem State.permissionLost_records (s : State) (h : Nat) :
    (s.permissionLost h).tracking.records = s.tracking.records.map fun r =>
      if (s.head h).dose = .run ∧ s.cfg.dosing.resumeMs = 0 then
        match (s.head h).hand with
        | some d => if r.sequence = d.sequence then { r with fill := some ⟨.held, d.meter⟩ } else r
        | none => r
      else r := by
  by_cases runs : (s.head h).dose = .run
  case neg => simp [State.permissionLost, runs]
  rw [State.permissionLost, if_pos runs]
  cases held : (s.head h).hand with
  | none => simp [State.suspend, held]
  | some d =>
    by_cases atOnce : s.cfg.dosing.resumeMs = 0
    case neg => simp [State.suspend, held, atOnce]
    have inside : h < s.heads.length := by
      by_contra outside
      have absent : s.head h = Head.atReset false false false := by
        rw [State.head, List.getD_eq_getElem?_getD, List.getElem?_eq_none (Nat.le_of_not_lt outside)]; rfl
      rw [absent] at held
      cases held
    simp only [State.suspend, held, atOnce, runs, if_true, and_self]
    generalize suspended : s.setHead h _ = v
    have hand : (v.head h).hand = some { d with resumeTimer := some 0 } := by
      rw [← suspended, State.head_modify_self (State.setHead_heads ..) inside]
    have records : v.tracking = s.tracking := by rw [← suspended]; simp
    simp only [State.endDose, hand]
    have delivered : (v.deliverFill h d.sequence ⟨.held, d.meter⟩).tracking.records = s.tracking.records.map fun r =>
        if r.sequence = d.sequence then { r with fill := some ⟨.held, d.meter⟩ } else r := by
      unfold State.deliverFill
      split
      case isTrue tracked => simp [State.updateRecord, records]
      case isFalse untracked =>
        have none : ∀ r ∈ s.tracking.records, r.sequence ≠ d.sequence := by
          simpa [State.tracks, records] using untracked
        simp only [State.occur_tracking, records]
        refine ((List.map_congr_left fun r hr => ?_).trans (List.map_id _)).symm
        simp [none r hr]
    split <;> simpa using delivered

/-- Heads not yet reached by a fall of run permission are as they were. -/
theorem State.head_foldl_lost (s : State) {n k : Nat} (later : n ≤ k) :
    ((List.range n).foldl (fun u h => u.permissionLost h) s).head k = s.head k := by
  have heads := heads_foldl_range_reading (·.cfg.dosing.resumeMs) (fun u h => u.permissionLost h) Head.loses n
    (fun u h => State.permissionLost_heads u h) (fun u h => by simp [State.cfg]) s
  rw [State.head, heads, State.head, List.getD_eq_getElem?_getD, List.getD_eq_getElem?_getD, List.getElem?_mapIdx]
  cases s.heads[k]? <;> simp [Nat.not_lt.mpr later]

/-- The record of a dose that a fall of run permission ends HELD has its meter count (R89, R94). -/
theorem State.fill_foldl_lost {s : State} {h n : Nat} {d : DoseInHand} (reached : h < n) (runs : (s.head h).dose = .run)
    (held : (s.head h).hand = some d) (atOnce : s.cfg.dosing.resumeMs = 0)
    (alone : ∀ k, k ≠ h → ∀ e, (s.head k).hand = some e → e.sequence ≠ d.sequence) :
    ∀ r ∈ ((List.range n).foldl (fun u h => u.permissionLost h) s).tracking.records, r.sequence = d.sequence →
      r.fill = some ⟨.held, d.meter⟩ := by
  induction n with
  | zero => omega
  | succ n ih =>
    rw [List.range_succ, List.foldl_append, List.foldl_cons, List.foldl_nil, State.permissionLost_records]
    generalize before : (List.range n).foldl _ s = u at ih ⊢
    have here : u.head n = s.head n := by rw [← before]; exact State.head_foldl_lost s (Nat.le_refl n)
    have figure : u.cfg = s.cfg := by
      rw [← before]; exact foldl_keeps State.cfg _ (fun v k => by simp [State.cfg]) _ s
    intro r hr
    obtain ⟨q, hq, rfl⟩ := List.mem_map.mp hr
    rw [here, figure]
    by_cases same : n = h
    · subst same
      rw [if_pos ⟨runs, atOnce⟩, held]
      by_cases named : q.sequence = d.sequence <;> simp [named]
    · have rest := ih (by omega) q hq
      have other := alone n same
      split
      · cases hand : (s.head n).hand with
        | none => exact rest
        | some e =>
          simp only
          split
          · rename_i named
            exact fun seq => absurd (named.symm.trans seq) (other e hand)
          · exact rest
      · exact rest

/-- A sound head after a fall of run permission, with the dose in RUN waiting for its resume (R89). -/
theorem Head.loses_run {x : Head} {d : DoseInHand} {resumeMs : Nat} (runs : x.dose = .run) (held : x.hand = some d) :
    x.loses resumeMs = if resumeMs = 0 then
      { x with
        dose := .idle, hand := none, train := .stopped, pulseOut := false, enableOut := false
        production := if x.production = .draining then .out else x.production }
    else
      { x with
        dose := .suspended, hand := some { d with resumeTimer := some 0 }
        train := .stopped, pulseOut := false, enableOut := false } := by
  simp [Head.loses, runs, held, Head.suspended, Head.endDose, Head.quiet]

/-- A sound head after a fall of run permission, with no dose in RUN (R97). -/
theorem Head.loses_other {x : Head} {resumeMs : Nat} (sound : x.Sound) (idle : x.dose ≠ .run) :
    x.loses resumeMs = { x with jog := none, train := .stopped, pulseOut := false, enableOut := false } := by
  rw [Head.loses, if_neg idle, Head.jogEnded]
  split
  case isTrue runs => rfl
  case isFalse noJog =>
    have noJog : x.jog = none := by simpa using noJog
    have still : x.emitting = false := by simp [Head.emitting, idle, noJog]
    have train := sound.stopped.mpr still
    have enable : x.enableOut = false := sound.enable.trans still
    have pulse : x.pulseOut = false := by
      rw [Bool.eq_false_iff, Ne, sound.pulse, train]; simp
    cases x
    simp_all

/-- After a fall of run permission a sound head drives nothing (R89, R97). -/
theorem Head.loses_drives_nothing {x : Head} (resumeMs : Nat) (sound : x.Sound) :
    (x.loses resumeMs).enableOut = false ∧ (x.loses resumeMs).pulseOut = false := by
  by_cases runs : x.dose = .run
  · obtain ⟨d, held⟩ := Option.isSome_iff_exists.mp (sound.hand.mpr (by simp [runs]))
    rw [Head.loses_run runs held]
    split <;> simp
  · simp [Head.loses_other sound runs]

/-- The heads' losses one by one, as R44 lists them. -/
def State.losesAt (resumeMs : Nat) (u : State) (h : Nat) : State :=
  if (u.head h).dose = .run then
    match (u.head h).hand with
    | none => u
    | some d =>
      let v : State := { u with heads := u.heads.set h { u.head h with
        dose := .suspended, hand := some { d with resumeTimer := some 0 }
        train := .stopped, pulseOut := false, enableOut := false } }
      if resumeMs = 0 then v.endDose h .held d.meter else v
  else match (u.head h).jog with
    | none => u
    | some j => ({ u with heads := u.heads.set h { u.head h with
        jog := none, train := .stopped, pulseOut := false, enableOut := false } } : State).answered (byte j.holder)
        ([7, byte h, 4] ++ bytesOf 2 j.emitted ++ bytesOf 2 j.meter)

/-- A fall of run permission at one head is its loss. -/
theorem State.permissionLost_eq {s : State} {h : Nat} (inside : h < s.heads.length) :
    s.permissionLost h = s.losesAt s.cfg.dosing.resumeMs h := by
  rw [State.permissionLost, State.losesAt, State.suspend_eq inside, State.endJog_eq inside]
  rfl

/-- A fall of run permission, head by head in ascending order (R44). -/
theorem State.permissionFalls_eq {s : State} (eight : s.heads.length = 8) (fitted : s.cfg.track.heads ≤ 8) :
    s.permissionFalls = (List.range s.cfg.track.heads).foldl (State.losesAt s.cfg.dosing.resumeMs)
      ({ s with
        cabinet := { s.cabinet with permission := false, restore := none }
        loader := { s.loader with runLamp := false } } : State).announce := by
  rw [State.permissionFalls, State.forHeads, State.cfg_congr (s := s) (by simp)]
  refine foldl_congr_kept (fun u => u.heads.length = 8 ∧ u.cfg = s.cfg) _ _ _ (fun u kept h listed => ?_) _
    ⟨by simpa using eight, State.cfg_congr (by simp)⟩
  obtain ⟨heads, cfg⟩ := kept
  have below := List.mem_range.mp listed
  refine ⟨?_, by simpa using heads, by simpa [State.cfg] using cfg⟩
  rw [State.permissionLost_eq (by omega), cfg]

/-- Run permission follows where the conditions hold (R44). -/
theorem State.followConditions_holds {s : State} (hold : s.runConditions = true) :
    (s.cabinet.permission = true ∨ s.cabinet.restore.isSome = true → s.followConditions = s) ∧
    (s.cabinet.permission = false → s.cabinet.restore = none → s.followConditions =
      if s.cfg.hall.restoreMs = 0 then s.permissionRises else { s with cabinet := { s.cabinet with restore := some 0 } }) := by
  rw [State.followConditions, if_pos hold]
  refine ⟨fun standing => if_pos (by simpa using standing), fun down stopped => if_neg (by simp [down, stopped])⟩

/-- Run permission follows where a condition fails (R44). -/
theorem State.followConditions_fails {s : State} (fail : s.runConditions = false) :
    (s.cabinet.permission = false → s.followConditions = { s with cabinet := { s.cabinet with restore := none } }) ∧
    (s.cabinet.permission = true → s.followConditions = s.permissionFalls) := by
  rw [State.followConditions, if_neg (by simp [fail])]
  exact ⟨fun down => if_neg (by simp [down]), fun up => if_pos up⟩

/-- The restore timer has run its delay, and the conditions hold (R44). -/
theorem State.restoreDue_iff (s : State) : s.restoreDue = true ↔
    s.runConditions = true ∧ ∃ n, s.cabinet.restore = some n ∧ s.cfg.hall.restoreMs * 1000 ≤ n := by
  rw [State.restoreDue, Bool.and_eq_true, Timer.hasReached_iff]

/-- What a fall of run permission makes of the Cabinet Monitor, the lamp and the CAB slot. -/
theorem State.permissionFalls_rest (s : State) :
    s.permissionFalls.cabinet = { s.cabinet with permission := false, restore := none } ∧
    s.permissionFalls.loader = { s.loader with runLamp := false } := by
  unfold State.permissionFalls
  exact ⟨by rw [State.forHeads_keeps State.cabinet _ (fun n s => by simp)]; simp,
    by rw [State.forHeads_keeps State.loader _ (fun n s => by simp)]; simp⟩

/-- The handover of a frame leaves the CAB slot (R168). -/
@[simp] theorem State.handOver_cabSlot (s : State) (fr : OutFrame) (c : Nat) :
    (s.handOver fr c).line.cabSlot = s.line.cabSlot ∧ (s.handOver fr c).line.renew = s.line.renew := by
  simp only [State.handOver]
  repeat' split
  all_goals simp

/-- A reply leaves the CAB slot. -/
@[simp] theorem State.reply_cabSlot (s : State) (d : Byte) (r : Reply) :
    (s.reply d r).line.cabSlot = s.line.cabSlot ∧ (s.reply d r).line.renew = s.line.renew := State.handOver_cabSlot s _ _

/-- A fall of run permission at a head leaves the CAB slot (R89, R97). -/
@[simp] theorem State.permissionLost_cabSlot (s : State) (h : Nat) :
    (s.permissionLost h).line.cabSlot = s.line.cabSlot ∧ (s.permissionLost h).line.renew = s.line.renew := by
  simp only [State.permissionLost, State.suspend, State.endDose, State.endJog, State.testReady]
  repeat' split
  all_goals simp

/-- A fall of run permission leaves the CAB slot as the announcement makes it (R39). -/
theorem State.permissionFalls_cabSlot (s : State) :
    s.permissionFalls.line.cabSlot = (s.line.announced s.running).cabSlot ∧
    s.permissionFalls.line.renew = (s.line.announced s.running).renew := by
  unfold State.permissionFalls
  rw [State.forHeads_keeps (·.line.cabSlot) _ (by simp), State.forHeads_keeps (·.line.renew) _ (by simp), State.announce_eq]
  exact ⟨rfl, rfl⟩

/-- The record of a dose that a fall of run permission ends HELD has its meter count (R89, R94). -/
theorem State.permissionFalls_fill {s : State} {h : Nat} {d : DoseInHand} (fitted : h < s.cfg.track.heads)
    (runs : (s.head h).dose = .run) (held : (s.head h).hand = some d) (atOnce : s.cfg.dosing.resumeMs = 0)
    (alone : ∀ k, k ≠ h → ∀ e, (s.head k).hand = some e → e.sequence ≠ d.sequence) :
    ∀ r ∈ s.permissionFalls.tracking.records, r.sequence = d.sequence → r.fill = some ⟨.held, d.meter⟩ := by
  rw [State.permissionFalls, State.forHeads, State.announce_eq]
  exact State.fill_foldl_lost fitted runs held atOnce alone

/-- Settles O37: run permission along its conditions, both ways. -/
theorem permissionFollowsConditions : Obligations.PermissionFollowsConditions := by
  intro s eight fitted runs announced risen
  have announcedEq (u : State) (same : u.loader.station = s.loader.station) : u.announce = announced u := by
    have runs : u.running = true := by simpa [State.running, same] using runs
    rw [State.announce_eq, runs]
    rfl
  have rises : s.permissionRises = risen := by
    have gains : (fun i (x : Head) => if i < s.cfg.track.heads then x.gains else x) = fun h x =>
        if h < s.cfg.track.heads ∧ x.dose = .suspended then { x with
          dose := .run
          hand := x.hand.map fun d => { d with resumeTimer := none }
          enableOut := true
          train := if x.ready then .low 0 else .paused } else x := by
      funext h x
      by_cases below : h < s.cfg.track.heads <;> simp [below, Head.gains, Head.startTrain]
    rw [State.permissionRises_eq, gains]
    exact announcedEq _ rfl
  refine ⟨announcedEq s rfl, fun notDue => ?notDue,
    fun hold => ⟨(State.followConditions_holds hold).1, ?starts, fun n started run => ?expires⟩,
    fun fail => ⟨(State.followConditions_fails fail).1, fun up => ?falls⟩⟩
  case notDue =>
    refine exec_idle (Bool.eq_false_iff.mpr fun due => ?_)
    obtain ⟨hold, n, started, done⟩ := (State.restoreDue_iff s).mp due
    rcases notDue with fail | early
    · rw [fail] at hold; cases hold
    · have := early n started; omega
  case starts => rw [← rises]; exact (State.followConditions_holds hold).2
  case expires =>
    rw [← rises]
    exact exec_effect ((State.restoreDue_iff s).mpr ⟨hold, n, started, run⟩)
  case falls =>
    intro t jogEnded suspended
    have t_eq : t = s.permissionFalls := (State.followConditions_fails fail).2 up
    obtain ⟨cabinet, loader⟩ := State.permissionFalls_rest s
    obtain ⟨slot, renew⟩ := State.permissionFalls_cabSlot s
    obtain ⟨clock, peers, portA, portB, gate, -⟩ := State.permissionFalls_frame s
    have announcedLine : (announced s).line = s.line.announced s.running := by rw [← announcedEq s rfl, State.announce_eq]
    rw [t_eq, announcedLine]
    refine ⟨?fold, cabinet, loader, slot, renew, clock, peers, gate, portA, portB, fun h below sound => ?_⟩
    case fold =>
      rw [State.permissionFalls_eq eight fitted, announcedEq]
      · rfl
      · rfl
    have headEq : s.permissionFalls.head h = (s.head h).loses s.cfg.dosing.resumeMs := by
      rw [State.head_mapIdx (State.permissionFalls_heads s) (by omega), if_pos below]
    rw [headEq]
    refine ⟨fun d run held limit => ?_, fun d run held limit => ⟨?_, ?_⟩, fun other => Head.loses_other sound other⟩
    · rw [Head.loses_run run held, if_neg limit]
    · rw [Head.loses_run run held, if_pos limit]
    · exact State.permissionFalls_fill below run held limit

end Sys2Proof.Machine

/-! PROOFS of the statements on the two frames that report a cabinet (R9, R10, R30). -/

namespace Sys2Proof.Machine

/-! ## Codes read from a frame (R30, R199) -/

/-- A switch code is read by its list; a code above 3 is not read (R30). -/
theorem readSwitch_eq (code : Byte) : readSwitch code =
    if code.toNat ≤ 3 then some ([SwitchState.off, .on, .transit, .fault].getD code.toNat .off) else none := by
  revert code; decide

/-- A flag code is read as 0 or 1; a code above 1 is not read (R30). -/
theorem readFlag_eq (code : Byte) : readFlag code = if code.toNat ≤ 1 then some (decide (code = 1)) else none := by
  revert code; decide

/-- A quality code is read by its list, and a code above 3 as FREE (R199). -/
theorem readQuality_eq (code : Byte) :
    readQuality code = [Quality.free, .acquire, .synced, .holdover].getD code.toNat .free := by
  revert code; decide

/-- A cabinet report is read where all four codes are in their lists (R30). -/
theorem readCabinet_eq (v : CabinetCodes) : readCabinet v =
    if v.switch.toNat ≤ 3 ∧ v.door.toNat ≤ 1 ∧ v.key.toNat ≤ 1 ∧ v.permission.toNat ≤ 1 then
      some ⟨[SwitchState.off, .on, .transit, .fault].getD v.switch.toNat .off, v.door = 1, v.key = 1, v.permission = 1⟩
    else none := by
  rw [readCabinet, readSwitch_eq, readFlag_eq, readFlag_eq, readFlag_eq]
  by_cases switch : v.switch.toNat ≤ 3
  case neg => simp [switch]
  by_cases door : v.door.toNat ≤ 1
  case neg => simp [door]
  by_cases key : v.key.toNat ≤ 1
  case neg => simp [key]
  by_cases permission : v.permission.toNat ≤ 1 <;> simp [switch, door, key, permission]

/-! ## What run permission leaves as it was -/

/-- A reading that a fall and a rise at a head, the announcement and the Cabinet Monitor leave is kept as run permission follows. -/
theorem State.followConditions_keeps {α : Type} (g : State → α) (lost : ∀ u h, g (State.permissionLost u h) = g u)
    (gained : ∀ u h, g (State.permissionGained u h) = g u) (announced : ∀ u, g (State.announce u) = g u)
    (own : ∀ u c l, g { u with cabinet := c, loader := l } = g u) (s : State) : g s.followConditions = g s := by
  have falls : g s.permissionFalls = g s := by
    rw [State.permissionFalls, State.forHeads_keeps g _ (fun h u => lost u h), announced]
    exact own s _ _
  have rises : g s.permissionRises = g s := by
    rw [State.permissionRises, State.forHeads_keeps g _ (fun h u => gained u h), announced]
    exact own s _ _
  unfold State.followConditions
  repeat' split
  · rfl
  · exact rises
  · exact own s _ s.loader
  · exact falls
  · exact own s _ s.loader

/-- Different counters stand at different places (R179). -/
theorem counterIndex_injective : Function.Injective counterIndex := by
  refine Function.LeftInverse.injective (g := fun i => [Counter.captures, .untracked, .recordsOpened, .rejected, .passed,
    .rejectsUnexecuted, .hndSent, .hndReceived, .arrivalsMatched, .unknownArrivals, .dosesOk, .dosesNotOk, .verdictsMatched,
    .strayVerdicts, .framesSent, .framesTaken, .checkErrors, .discards, .collisions, .txDrops].getD i .captures) fun c => ?_
  cases c <;> rfl

/-- Counting leaves every other counter (R179). -/
theorem State.count_counter_ne (s : State) {c d : Counter} (other : c ≠ d) : (s.count c).counter d = s.counter d := by
  have places : counterIndex c ≠ counterIndex d := fun same => other (counterIndex_injective same)
  simp only [State.count, State.counter, List.getD_eq_getElem?_getD, List.getElem?_modify, if_neg places, Option.map_eq_map,
    Option.map_id']

/-- An occurrence leaves the counters. -/
@[simp] theorem State.occur_counter (s : State) (e : EventSource) (d : Byte) (c : Counter) :
    (s.occur e d).counter c = s.counter c := rfl

/-- A changed head leaves the counters. -/
@[simp] theorem State.setHead_counter (s : State) (h : Nat) (f : Head → Head) (c : Counter) :
    (s.setHead h f).counter c = s.counter c := rfl

/-- A changed grant leaves the counters. -/
@[simp] theorem State.setGrant_counter (s : State) (n : Nat) (f : Grant → Grant) (c : Counter) :
    (s.setGrant n f).counter c = s.counter c := rfl

/-- A dropped frame counts nothing but the TX drops (R169). -/
theorem State.txDrop_counter (s : State) (kind : FrameKind) {c : Counter} (other : c ≠ .txDrops) :
    (s.txDrop kind).counter c = s.counter c := by
  rw [State.txDrop, State.count_counter_ne _ other.symm, State.occur_counter]

/-- The handover of a frame counts nothing but the TX drops (R169). -/
theorem State.handOver_counter (s : State) (fr : OutFrame) (cls : Nat) {c : Counter} (other : c ≠ .txDrops) :
    (s.handOver fr cls).counter c = s.counter c := by
  unfold State.handOver
  repeat' split
  · rfl
  · rw [State.txDrop_counter _ _ other]; rfl
  · rw [State.txDrop_counter _ _ other]
  · rw [State.txDrop_counter _ _ other]

/-- A reply counts nothing but the TX drops. -/
theorem State.reply_counter (s : State) (d : Byte) (r : Reply) {c : Counter} (other : c ≠ .txDrops) :
    (s.reply d r).counter c = s.counter c := State.handOver_counter s _ _ other

/-- The end of a jog counts nothing but the TX drops (R97). -/
theorem State.endJog_counter (s : State) (h : Nat) (cause : JogCause) {c : Counter} (other : c ≠ .txDrops) :
    (s.endJog h cause).counter c = s.counter c := by
  unfold State.endJog
  split
  · rfl
  · rw [State.reply_counter _ _ _ other]; rfl

/-- The readiness test counts nothing but the TX drops (R146). -/
theorem State.testReady_counter (s : State) (h : Nat) {c : Counter} (other : c ≠ .txDrops) :
    (s.testReady h).counter c = s.counter c := by
  unfold State.testReady
  repeat' split
  · rfl
  · rw [State.reply_counter _ _ _ other]; rfl
  · rfl

/-- The end of a dose leaves the frames taken (R94). -/
theorem State.endDose_framesTaken (s : State) (h : Nat) (result : FillResult) (meter : Nat) :
    (s.endDose h result meter).counter .framesTaken = s.counter .framesTaken := by
  have delivered (u : State) (n : Word32) (f : Fill) : (u.deliverFill h n f).counter .framesTaken = u.counter .framesTaken := by
    rw [State.counter, (State.deliverFill_frame u h n f).2.2.2.2.2.2.2.2.2.1, State.counter]
  unfold State.endDose
  split
  · rfl
  · have ended (c : Counter) (notIt : c ≠ .framesTaken) (d : DoseInHand) :
        (((s.deliverFill h d.sequence ⟨result, meter⟩).count c).setHead h fun x => x.endDose result).counter .framesTaken =
          s.counter .framesTaken := by
      rw [State.setHead_counter, State.count_counter_ne _ notIt, delivered]
    have doses : (if result = .ok then Counter.dosesOk else .dosesNotOk) ≠ .framesTaken := by split <;> simp
    simp only
    split
    · rw [State.testReady_counter _ _ (by simp), ended _ doses]
    · exact ended _ doses _

/-- The end of a dose leaves the arrivals and the lock mode (R94). -/
theorem State.endDose_others (s : State) (h : Nat) (result : FillResult) (meter : Nat) :
    (s.endDose h result meter).tracking.arrivals = s.tracking.arrivals ∧
    (s.endDose h result meter).access.lockMode = s.access.lockMode := by
  simp only [State.endDose, State.deliverFill, State.testReady]
  repeat' split
  all_goals simp [State.updateRecord, State.setGrant]

/-- A dose or a jog that ends for want of run permission leaves the arrivals, the lock mode and the frames taken. -/
theorem State.permissionLost_others (s : State) (h : Nat) :
    (s.permissionLost h).tracking.arrivals = s.tracking.arrivals ∧
    (s.permissionLost h).access.lockMode = s.access.lockMode ∧
    (s.permissionLost h).counter .framesTaken = s.counter .framesTaken := by
  have suspended : (s.suspend h).tracking.arrivals = s.tracking.arrivals ∧ (s.suspend h).access.lockMode = s.access.lockMode ∧
      (s.suspend h).counter .framesTaken = s.counter .framesTaken := by
    simp only [State.suspend]
    repeat' split
    · simp
    · simp [State.endDose_others, State.endDose_framesTaken]
    · simp
  unfold State.permissionLost
  split
  · exact suspended
  · simp [State.endJog_counter]

/-- Run permission following its conditions leaves the arrivals, the lock mode and the frames taken. -/
theorem State.followConditions_others (s : State) :
    s.followConditions.tracking.arrivals = s.tracking.arrivals ∧
    s.followConditions.access.lockMode = s.access.lockMode ∧
    s.followConditions.counter .framesTaken = s.counter .framesTaken :=
  ⟨State.followConditions_keeps (·.tracking.arrivals) (fun u h => (u.permissionLost_others h).1) (by simp) (by simp)
    (fun _ _ _ => rfl) s,
   State.followConditions_keeps (·.access.lockMode) (fun u h => (u.permissionLost_others h).2.1) (by simp) (by simp)
    (fun _ _ _ => rfl) s,
   State.followConditions_keeps (·.counter .framesTaken) (fun u h => (u.permissionLost_others h).2.2) (by simp [State.counter])
    (by simp [State.counter]) (fun _ _ _ => rfl) s⟩

/-- Where a run condition fails, run permission is false afterwards and the restore timer stopped (R44). -/
theorem State.followConditions_denied {s : State} (fail : s.runConditions = false) :
    s.followConditions.cabinet = { s.cabinet with permission := false, restore := none } := by
  cases up : s.cabinet.permission with
  | true => rw [(State.followConditions_fails fail).2 up, (State.permissionFalls_rest s).1]
  | false => rw [(State.followConditions_fails fail).1 up, ← up]

/-- Where the conditions hold and nothing waits, run permission rises at once or the restore timer starts (R44). -/
theorem State.followConditions_begins {s : State} (hold : s.runConditions = true) (down : s.cabinet.permission = false)
    (stopped : s.cabinet.restore = none) : s.followConditions.cabinet = { s.cabinet with
      permission := s.cfg.hall.restoreMs = 0, restore := if s.cfg.hall.restoreMs = 0 then none else some 0 } := by
  rw [(State.followConditions_holds hold).2 down stopped]
  split
  case isTrue atOnce => simp [State.permissionRises_eq, State.announce_eq, atOnce]
  case isFalse later => simp [later, ← down]

/-! ## The report of a peer (R30) -/

/-- A dependent peer without a good report makes the run conditions fail (R43). -/
theorem State.runConditions_denied {s : State} {p : Peer} (listed : p ∈ s.peers) (dependent : p.dependent = true)
    (bad : ∀ r, p.report = some r → r.switch ≠ .on ∨ r.door = false) : s.runConditions = false := by
  have fails : p.meetsDependence = false := by
    rw [Peer.meetsDependence]
    cases report : p.report with
    | none => simp
    | some r => rcases bad r report with h | h <;> simp [h]
  have all : (s.peers.all fun p => !p.dependent || p.meetsDependence) = false := by
    rw [List.all_eq_false]
    exact ⟨p, listed, by simp [dependent, fails]⟩
  simp [State.runConditions, all]

/-- The entry of a taken frame's source, changed once more (R25, R27). -/
theorem State.takenFrom_setPeer {s : State} {src : Byte} (table : s.peers.length = 30) (station : isStation src = true)
    (f : Peer → Peer) : (s.takenFrom src).setPeer src.toNat f =
      { s.takenFrom src with peers := s.peers.set (src.toNat - 1) (f (s.peer src.toNat).isHeard) } := by
  have bounds := (isStation_iff src).mp station
  have peers := (State.takenFrom_frame s src).2.2.2.2.2.2.2.2.2.2.2
  rw [State.setPeer, peers, modify_eq_set _ _ _ Peer.atReset (by simp; omega), modify_eq_set _ _ _ Peer.atReset (by omega)]
  congr 1
  rw [List.set_set]
  simp [State.peer, List.getD_eq_getElem?_getD, show src.toNat - 1 < s.peers.length by omega]

/-- A taken frame counts as taken (R27). -/
theorem State.takenFrom_counter (s : State) (src : Byte) : (s.takenFrom src).counter .framesTaken =
    min 65535 (s.counter .framesTaken + (if s.counters.length ≤ 15 then 0 else 1)) := by
  have bank : (s.takenFrom src).counters = s.counters.modify 15 fun n => saturate 65535 (n + 1) := by
    simp [State.takenFrom, State.count, State.peerHeard_frame, counterIndex]
  rw [State.counter, bank, State.counter, List.getD_eq_getElem?_getD, List.getD_eq_getElem?_getD]
  by_cases short : s.counters.length ≤ 15
  · simp [counterIndex, short]
  · simp [counterIndex, short, saturate, show 15 < s.counters.length by omega]

/-- A taken frame from a peer changes its entry once more, and run permission follows (R25, R27, R30, R44). -/
theorem State.takenFrom_reported {s : State} {src : Byte} (table : s.peers.length = 30) (station : isStation src = true)
    {p : Peer} (dependent : p.dependent = true) (bad : ∀ r, p.report = some r → r.switch ≠ .on ∨ r.door = false) :
    ({ s.takenFrom src with peers := s.peers.set (src.toNat - 1) p } : State).runConditions = false := by
  have bounds := (isStation_iff src).mp station
  refine State.runConditions_denied (p := p) ?_ dependent bad
  simp only [List.mem_iff_getElem]
  exact ⟨src.toNat - 1, by simp; omega, by simp⟩

/-- Two changes of one entry are one. -/
theorem State.setPeer_setPeer (s : State) (address : Nat) (f g : Peer → Peer) :
    (s.setPeer address f).setPeer address g = s.setPeer address fun p => g (f p) := by
  simp only [State.setPeer, List.modify_modify_eq]
  rfl

/-- Settles O20: a beacon's entry, and what follows from its report. -/
theorem beaconGivesOffsetAndReport : Obligations.BeaconGivesOffsetAndReport := by
  intro s stamp frame dest src b rx passes table report peers
  obtain ⟨collected, -, station, -⟩ := id passes
  have startStamp : s.startStamp = stamp := by simp [State.startStamp, rx]
  have taken := State.takenFrom_frame s src
  generalize reported : ({ s.takenFrom src with peers := peers } : State) = u
  have meaning : exec (.bcn dest src b) s = .next u.followConditions := by
    rw [exec_effect (i := .bcn dest src b) collected, ← reported]
    simp only [effect, State.receive_passes passes, State.takeReport, State.takeTime, State.setPeer_setPeer]
    rw [State.takenFrom_setPeer table station]
    simp only [readCabinet_eq, readQuality_eq, State.offsetOf, startStamp]
    rfl
  obtain ⟨arrivals, lockMode, framesTaken⟩ := State.followConditions_others u
  obtain ⟨clock, peersKept, portA, portB, gate, -⟩ := State.followConditions_frame u
  refine ⟨_, meaning, rfl, ?_, fun dependent bad => ?_, ?_⟩
  · rw [peersKept, ← reported]
  · have fail : u.runConditions = false := by
      rw [← reported]; exact State.takenFrom_reported table station dependent bad
    simp [State.followConditions_denied fail]
  · rw [(State.followConditions_slots u).1, clock, arrivals, portA, portB, gate, lockMode, framesTaken, ← reported]
    simp only [taken, true_and]
    exact State.takenFrom_counter s src

/-- A head after a fall of run permission (R89, R97). -/
theorem State.permissionFalls_head (s : State) (h : Nat) : s.permissionFalls.head h =
    if h < s.cfg.track.heads then (s.head h).loses s.cfg.dosing.resumeMs else s.head h := by
  have fixed : (Head.atReset false false false).loses s.cfg.dosing.resumeMs = Head.atReset false false false := rfl
  rw [State.head, State.permissionFalls_heads, State.head, List.getD_eq_getElem?_getD, List.getD_eq_getElem?_getD,
    List.getElem?_mapIdx]
  cases s.heads[h]? <;> simp [fixed]

/-- Settles O21: a cabinet report, and what follows from it. -/
theorem cabReportMovesPermission : Obligations.CabReportMovesPermission := by
  intro s dest src v passes table report peers
  obtain ⟨collected, -, station, -⟩ := id passes
  obtain ⟨loaderTaken, clockTaken, cabinetTaken, trackingTaken, headsTaken, portATaken, portBTaken, gateTaken, -, -, lineTaken, -⟩ :=
    State.takenFrom_frame s src
  generalize reported : ({ s.takenFrom src with peers := peers } : State) = u
  have meaning : exec (.cab dest src v) s = .next u.followConditions := by
    rw [exec_effect (i := .cab dest src v) collected, ← reported]
    simp only [effect, State.receive_passes passes, State.takeReport]
    rw [State.takenFrom_setPeer table station]
    simp only [readCabinet_eq]
    rfl
  have cabinet : u.cabinet = s.cabinet := by rw [← reported]; exact cabinetTaken
  have loader : u.loader = s.loader := by rw [← reported]; exact loaderTaken
  have cfg : u.cfg = s.cfg := State.cfg_congr (by rw [loader])
  obtain ⟨arrivals, -, -⟩ := State.followConditions_others u
  obtain ⟨clock, peersKept, portA, portB, gate, -⟩ := State.followConditions_frame u
  refine ⟨_, meaning, rfl, ?_, fun hold down stopped => ?_, fun dependent bad => ?_, ?_⟩
  · rw [peersKept, ← reported]
  · have conditions : u.runConditions = true := by
      rw [← hold, ← reported]
      simp only [State.runConditions, State.running, loaderTaken, cabinetTaken]
    rw [State.followConditions_begins conditions (by rw [cabinet]; exact down) (by rw [cabinet]; exact stopped), cabinet, cfg]
  · have fail : u.runConditions = false := by
      rw [← reported]; exact State.takenFrom_reported table station dependent bad
    refine ⟨by simp [State.followConditions_denied fail], by simp [State.followConditions_denied fail], fun up => ?_⟩
    have falls := (State.followConditions_fails fail).2 (by rw [cabinet]; exact up)
    rw [falls]
    refine ⟨by simp [State.permissionFalls_rest], fun h _ fitted sound => ?_⟩
    have heads : u.heads = s.heads := by rw [← reported]; exact headsTaken
    have head : u.permissionFalls.head h = (s.head h).loses s.cfg.dosing.resumeMs := by
      rw [State.permissionFalls_head, cfg, if_pos fitted, State.head_congr heads]
    rw [head]
    exact Head.loses_drives_nothing _ sound
  · rw [(State.followConditions_slots u).1, clock, arrivals, portA, portB, gate, ← reported]
    simp only [clockTaken, trackingTaken, portATaken, portBTaken, gateTaken, lineTaken, and_self]

end Sys2Proof.Machine

/-! PROOFS of the statements on handovers received and on the Access Unit's grants, jogs and lockouts (R61 to R63, R136 to R156). -/

namespace Sys2Proof.Machine

/-! ## A frame that reaches its owner (R162, R172) -/

/-- A frame with a single owner that reaches it has the owner's effect on what taking it leaves. -/
theorem exec_owned {i : Instr} {s : State} {dest src : Byte} {owner : State → State} (owns : s.owns i dest src)
    (meaning : effect i s = s.receive dest src fun u => u.ownFrame dest owner) (test : occasion i s = s.hasFrame i) :
    exec i s = .next (owner (s.takenFrom src)) := by
  rw [exec_effect (test.trans owns.1.1), meaning, State.receive_passes owns.1, State.ownFrame_owns owns]

/-- The source of a frame that reaches its owner is a station. -/
theorem State.owns_station {i : Instr} {s : State} {dest src : Byte} (owns : s.owns i dest src) :
    1 ≤ src.toNat ∧ src.toNat ≤ 30 := (isStation_iff src).mp owns.1.2.2.1

section
variable (s : State) (src : Byte)

/-- Taking a frame leaves the Access Unit. -/
@[simp] theorem State.takenFrom_access : (s.takenFrom src).access = s.access := (State.takenFrom_frame s src).2.2.2.2.2.2.2.2.1

/-- Taking a frame leaves the Hall Clock. -/
@[simp] theorem State.takenFrom_clock : (s.takenFrom src).clock = s.clock := (State.takenFrom_frame s src).2.1

/-- Taking a frame leaves the Cabinet Monitor. -/
@[simp] theorem State.takenFrom_cabinet : (s.takenFrom src).cabinet = s.cabinet := (State.takenFrom_frame s src).2.2.1

/-- Taking a frame leaves the Tracking Unit. -/
@[simp] theorem State.takenFrom_tracking : (s.takenFrom src).tracking = s.tracking := (State.takenFrom_frame s src).2.2.2.1

/-- Taking a frame leaves the heads. -/
@[simp] theorem State.takenFrom_heads : (s.takenFrom src).heads = s.heads := (State.takenFrom_frame s src).2.2.2.2.1

/-- Taking a frame leaves each head. -/
@[simp] theorem State.takenFrom_head (h : Nat) : (s.takenFrom src).head h = s.head h :=
  State.head_congr (State.takenFrom_heads s src) h

/-- Taking a frame leaves the present hall time. -/
@[simp] theorem State.takenFrom_now : (s.takenFrom src).now = s.now := by simp [State.now]

end

/-! ## HND (R61 to R63) -/

/-- A peer keeps time where its beacon code reads SYNCED or HOLDOVER (R62, R199). -/
theorem readQuality_keepsTime (code : Byte) :
    (decide (readQuality code = .synced) || decide (readQuality code = .holdover)) = (decide (code = 2) || decide (code = 3)) := by
  revert code; decide

/-- The first code of a verdict pair is its high half (R199). -/
theorem pairCodeA_eq (b : Byte) : pairCodeA b = b.extractLsb' 4 4 := by
  revert b; decide

/-- The second code of a verdict pair is its low half (R199). -/
theorem pairCodeB_eq (b : Byte) : pairCodeB b = b.extractLsb' 0 4 := by
  revert b; decide

/-- Settles O27: an HND by its source, its window and the room of the Arrival List. -/
theorem handoverIsListed : Obligations.HandoverIsListed := by
  intro s dest src h owns u v expected half keepsTime trusted late low
  have station := State.owns_station owns
  have meaning : exec (.hnd dest src h) s = .next (u.takeHandover src h) := exec_owned owns rfl rfl
  have listed (from_ : src.toNat = s.cfg.track.upstream) :
      u.takeHandover src h = v.listArrival (u.arrivalOf src h) := by
    have fitted : s.cfg.track.upstream ≠ 0 := by omega
    simp [State.takeHandover, u, v, from_, fitted]
  have passed : (u.arrivalOf src h).passed v.now = late := by
    simp [Arrival.passed, State.arrivalOf, readQuality_keepsTime, u, v, late, trusted, keepsTime, expected, half, after,
      State.now]
  have arrivals : v.tracking = s.tracking := by simp [v, u]
  rw [meaning]
  refine ⟨fun other => ?_, fun from_ isLate => ?_, fun from_ inTime full => ?_, fun from_ inTime room => ?_⟩
  · rw [State.takeHandover, if_pos (by simpa [u] using other)]
    rfl
  · rw [listed from_, State.listArrival, if_pos (passed.trans isLate)]
    rfl
  · rw [listed from_, State.listArrival, if_neg (by simp [passed, inTime]), if_pos (by rw [arrivals]; exact full)]
    rfl
  · rw [listed from_, State.listArrival, if_neg (by simp [passed, inTime]),
      if_neg (by rw [arrivals]; exact Nat.not_le.mpr room), arrivals]
    simp [State.arrivalOf, readQuality_keepsTime, readCarriedVerdict, readCarriedFill, pairCodeA_eq, pairCodeB_eq, u,
      trusted, keepsTime, expected, half, after]

/-! ## The Grant Table (R141, R144) -/

/-- Two grants of a table in ascending order that bear one number are one grant. -/
theorem grant_unique {grants : List Grant} (ascending : grants.Pairwise fun g k => g.number < k.number) {g k : Grant}
    (hg : g ∈ grants) (hk : k ∈ grants) (same : g.number = k.number) : g = k := by
  have distinct : (grants.map Grant.number).Nodup := List.pairwise_map.mpr (ascending.imp Nat.ne_of_lt)
  exact List.inj_on_of_nodup_map distinct hg hk same

/-- The grant of a number is the one that bears it (R144). -/
theorem State.grantNumbered_eq {s : State} (sound : s.GrantsSound) {g : Grant} (listed : g ∈ s.access.grants) :
    s.grantNumbered g.number = some g := by
  cases found : s.grantNumbered g.number with
  | none => simpa using List.find?_eq_none.mp found g listed
  | some k =>
    have number : k.number = g.number := by simpa using List.find?_some found
    rw [grant_unique sound.ascending (List.mem_of_find?_eq_some found) listed number]

/-- No grant bears a number that none of the table has. -/
theorem State.grantNumbered_none {s : State} {n : Nat} (none : ∀ g ∈ s.access.grants, g.number ≠ n) :
    s.grantNumbered n = Option.none := List.find?_eq_none.mpr fun g hg => by simpa using none g hg

/-- An expiry of another grant than the next to expire changes nothing (R149, R150). -/
theorem State.expireGrant_other {s : State} {n : Nat} (other : ∀ g, s.expiringGrant = some g → g.number ≠ n) :
    s.expireGrant n = s := by
  unfold State.expireGrant
  split
  · rfl
  · rename_i g found
    exact if_neg (other g found)

/-- An expiry that ends nothing changes nothing, in RUNNING or elsewhere. -/
theorem exec_grantExpiry_idle {s : State} {n : Nat} (idle : s.expireGrant n = s) : exec (.grantExpiry n) s = .next s := by
  cases runs : s.running with
  | false => exact exec_idle (i := .grantExpiry n) runs
  | true => rw [exec_effect (i := .grantExpiry n) runs]; exact congrArg _ idle

/-- Settles O32: the release and the expiry of a grant. -/
theorem grantsEndByReleaseAndExpiry : Obligations.GrantsEndByReleaseAndExpiry := by
  intro s sound
  have lowest := State.expiringGrant_lowest s sound.ascending
  have released (dest src number : Byte) (owns : s.owns (.arl dest src number) dest src) :
      exec (.arl dest src number) s = .next ((s.takenFrom src).releaseGrant src number) := exec_owned owns rfl rfl
  have numbered (src : Byte) (n : Nat) : (s.takenFrom src).grantNumbered n = s.grantNumbered n := by
    simp [State.grantNumbered]
  refine ⟨fun dest src number owns unknown => ?_, fun n absent => ?_, fun g listed =>
    ⟨fun dest src number owns same holder => ?_, fun dest src number owns same other => ?_, fun runs due first => ?_,
      fun k hk lower due => ?_, fun early => ?_⟩⟩
  · rw [released dest src number owns, State.releaseGrant, numbered, State.grantNumbered_none unknown]
    exact congrArg _ (State.reply_eq_answered _ _ _ (by simp [replyBytes]))
  · rcases absent with quiet | absent
    · exact exec_idle (i := .grantExpiry n) quiet
    · exact exec_grantExpiry_idle (State.expireGrant_other fun g found => absent g (lowest g found).1)
  · rw [released dest src number owns, State.releaseGrant, numbered, ← same, State.grantNumbered_eq sound listed]
    simp only [holder, if_true]
  · rw [released dest src number owns, State.releaseGrant, numbered, ← same, State.grantNumbered_eq sound listed]
    simp only [other, if_false]
    exact congrArg _ (State.reply_eq_answered _ _ _ (by simp [replyBytes]))
  · rw [exec_effect (i := .grantExpiry g.number) runs]
    cases found : s.expiringGrant with
    | none => simpa [due] using List.find?_eq_none.mp found g listed
    | some k =>
      obtain ⟨hk, reachedK, least⟩ := lowest k found
      have notLower : ¬k.number < g.number := fun lower => by simp [first k hk lower] at reachedK
      have same : k = g := grant_unique sound.ascending hk listed (by have := least g listed due; omega)
      simp [effect, State.expireGrant, found, same]
  · refine exec_grantExpiry_idle (State.expireGrant_other fun j found => ?_)
    have := (lowest j found).2.2 k hk due
    omega
  · refine exec_grantExpiry_idle (State.expireGrant_other fun j found same => ?_)
    obtain ⟨hj, reachedJ, -⟩ := lowest j found
    rw [grant_unique sound.ascending hj listed same, early] at reachedJ
    cases reachedJ

/-! ## The end of a grant (R149) -/

/-- One change at each head of a set, whole. -/
theorem State.atHeads_eq (s : State) (set : HeadSet) (f : Head → Head) : s.atHeads set f =
    { s with heads := s.heads.mapIdx fun i x => if inSet set i then f x else x } := by
  have whole := foldl_heads_range (fun u h => if inSet set h then u.setHead h f else u)
    (fun h x => if inSet set h then f x else x) 8
    (fun u h => by cases held : inSet set h <;> simp [State.setHead]) s
  refine whole.trans ?_
  congr 2
  funext i x
  by_cases below : i < 8
  · rw [if_pos below]
  · rw [if_neg below]
    have out : inSet set i = false := BitVec.getLsbD_of_ge set i (by omega)
    simp [out]

/-- The jogs on a set of heads end one by one (R149 step 1). -/
theorem State.endJogsOn_eq {s : State} (eight : s.heads.length = 8) (set : HeadSet) (cause : JogCause) :
    s.endJogsOn set cause = (List.range 8).foldl (fun u h => if set.getLsbD h then (match (u.head h).jog with
      | none => u
      | some j => ({ u with heads := u.heads.set h { u.head h with
          jog := none, train := .stopped, pulseOut := false, enableOut := false } } : State).answered (byte j.holder)
          ([7, byte h, jogCauseCode cause] ++ bytesOf 2 j.emitted ++ bytesOf 2 j.meter)) else u) s := by
  refine foldl_congr_kept (fun u => u.heads.length = 8) _ _ _ (fun u heads h listed => ?_) _ eight
  have below := List.mem_range.mp listed
  refine ⟨?_, by split <;> simpa using heads⟩
  rw [State.endJog_eq (by omega)]
  rfl

/-- What the end of a grant makes of the Access Unit (R149 step 2). -/
theorem State.endGrant_access (s : State) (g : Grant) (reason : EndReason) : (s.endGrant g reason).access =
    { s.access with grants := s.access.grants.filter fun x => x.number != g.number } := by
  simp only [State.endGrant]
  split <;> simp [State.removeGrant]

/-- Settles O31: the five steps of the end of a grant, in their order. -/
theorem grantEndsInOrder : Obligations.GrantEndsInOrder := by
  intro s g reason eight jogEnded jogs ended
  have jogs_eq : s.endJogsOn g.heads .grantEnded = jogs := State.endJogsOn_eq eight g.heads .grantEnded
  have access : jogs.access = s.access := by rw [← jogs_eq]; simp
  have grantEnds : (fun i (x : Head) => if inSet g.heads i then x.grantEnds else x) = fun h x =>
      if g.heads.getLsbD h ∧ (x.production = .draining ∨ x.production = .out) then
        { x with production := .inProduction } else x := by
    funext i x
    cases held : g.heads.getLsbD i <;> cases production : x.production <;> simp [inSet, Head.grantEnds, held, production]
  have ended_eq : (((s.endJogsOn g.heads .grantEnded).removeGrant g.number).atHeads g.heads Head.grantEnds).reply
      (byte g.holder) (.ended g.number reason) = ended := by
    rw [State.reply_eq_answered _ _ _ (by simp [replyBytes]), State.atHeads_eq, grantEnds, jogs_eq, State.removeGrant, access]
    have others : (s.access.grants.filter fun x => x.number != g.number) = s.access.grants.filter fun x => x.number ≠ g.number :=
      List.filter_congr fun x _ => by by_cases same : x.number = g.number <;> simp [same]
    rw [others]
    rfl
  have door : ended.cabinet = s.cabinet := by rw [← ended_eq]; simp
  simp only [State.endGrant]
  rw [ended_eq, door]
  simp

/-! ## LCK (R139) -/

/-- A table after the end of each of some grants holds no grant that bears one of their numbers (R136). -/
theorem State.endGrants_access (s : State) (gs : List Grant) (reason : EndReason) :
    (gs.foldl (fun u g => u.endGrant g reason) s).access =
      { s.access with grants := s.access.grants.filter fun x => gs.all fun g => x.number != g.number } := by
  induction gs generalizing s with
  | nil => simp
  | cons g gs ih =>
    rw [List.foldl_cons, ih, State.endGrant_access]
    simp [List.filter_filter, Bool.and_comm]

/-- After the end of every grant the table is empty (R136, R138). -/
theorem State.endAllGrants_access (s : State) (reason : EndReason) :
    (s.endAllGrants reason).access = { s.access with grants := [] } := by
  rw [State.endAllGrants, State.endGrants_access]
  have none : (s.access.grants.filter fun x => s.access.grants.all fun g => x.number != g.number) = [] := by
    rw [List.filter_eq_nil_iff]
    intro x listed all
    simpa using List.all_eq_true.mp all x listed
  rw [none]

/-- A sender may lock out where it is the report address or holds a grant (R139). -/
theorem State.mayLock_iff (s : State) {src : Byte} (station : 1 ≤ src.toNat) : s.mayLock src = true ↔
    s.cfg.track.report = src.toNat ∨ ∃ g ∈ s.access.grants, g.holder = src.toNat := by
  simp only [State.mayLock, Bool.or_eq_true, Bool.and_eq_true, bne_iff_ne, decide_eq_true_eq, List.any_eq_true]
  constructor
  · rintro (⟨-, report⟩ | holder)
    · exact .inl report
    · exact .inr holder
  · rintro (report | holder)
    · exact .inl ⟨by omega, report⟩
    · exact .inr holder

/-- Settles O34: a lockout by its sender and the lock mode. -/
theorem lockOutEntersHeld : Obligations.LockOutEntersHeld := by
  intro s dest src passes runs sound u ended qualifies
  have station := (isStation_iff src).mp passes.2.2.1
  have meaning : exec (.lck dest src) s = .next (u.lockOut src) := by
    rw [exec_effect (i := .lck dest src) passes.1]
    exact congrArg _ (State.receive_passes passes fun v => v.lockOut src)
  have may : u.mayLock src = true ↔ qualifies := by
    rw [State.mayLock_iff u station.1]
    simp [u, qualifies]
  have reply (v : State) : v.reply src .holdTaken = v.answered src [8] :=
    State.reply_eq_answered _ _ _ (by simp [replyBytes])
  have running : u.running = true := by simpa [u] using runs
  rw [meaning, State.lockOut, running]
  refine ⟨fun no => ?_, fun yes held => ?_, fun yes open_ => ?_⟩
  · rw [if_neg (by simp [may, no])]
    rfl
  · rw [if_pos (by simp [may, yes]), State.enterHeld, if_pos (by simpa [u] using held), reply]
  · rw [if_pos (by simp [may, yes]), State.enterHeld, if_neg (by simpa [u] using open_), reply]
    have all : u.endAllGrants .locked = ended := by simp only [State.endAllGrants, u, ended, State.takenFrom_access]
    have access : ended.access = { s.access with grants := [] } := by
      rw [← all, State.endAllGrants_access]
      simp [u]
    have held : (({ ended with access := { ended.access with lockMode := some .held, heldLock := true } } : State).occur
        .accessHeld src |>.answered src [8]).access = ⟨some .held, true, [], s.access.nextGrant⟩ := by
      rw [State.answered]
      simp [access]
    refine ⟨_, rfl, ?_, ?_⟩
    · rw [all]; exact held
    · have entered : ({ ended.access with lockMode := some .held, heldLock := true } : Access) =
          ⟨some .held, true, [], s.access.nextGrant⟩ := by rw [access]
      rw [all]
      exact congrArg (fun a => (({ ended with access := a } : State).occur .accessHeld src).answered src [8])
        (entered.trans held.symm)

/-! ## ARQ refused or extended (R142, R147) -/

/-- The lock modes as R142 reads them. -/
theorem State.lock_of {s : State} {m : LockMode} (mode : s.access.lockMode = some m) : s.lock = m := by
  simp [State.lock, mode]

/-- A level byte reads as its level (R142). -/
theorem readLevel_levelCode (level : Level) : readLevel (levelCode level) = some level := by
  cases level <;> rfl

/-- A level byte of 0 or above 3 is none (R142). -/
theorem readLevel_none {code : Byte} (bad : code.toNat = 0 ∨ 3 < code.toNat) : readLevel code = none := by
  revert code; decide

/-- Past the lock and the key a request is decided by its level and set (R142 steps 3 and 4). -/
theorem State.decideAccess_open {s : State} {src code span : Byte} (open_ : s.access.lockMode = some .free ∨
    s.access.lockMode = some .keyed ∧ s.cabinet.key.state = true) : s.decideAccess src code span =
      match readLevel code with
      | none => .refused .badLevel 0
      | some level => if level = .door && s.cabinet.switch != .off then .refused .switchOn 0
        else s.decideSet src level (s.requestedHeads level span) := by
  rcases open_ with free | ⟨keyed, key⟩
  · rw [State.decideAccess, State.lock_of free]
    rfl
  · rw [State.decideAccess, State.lock_of keyed, key]
    rfl

/-- A request past the lock, the key and the switch is decided by its set (R142 steps 5 to 9). -/
theorem State.decideAccess_set {s : State} {src code span : Byte} {level : Level} (open_ : s.access.lockMode = some .free ∨
    s.access.lockMode = some .keyed ∧ s.cabinet.key.state = true) (coded : levelCode level = code)
    (switch : level = .door → s.cabinet.switch = .off) :
    s.decideAccess src code span = s.decideSet src level (s.requestedHeads level span) := by
  rw [State.decideAccess_open open_, ← coded, readLevel_levelCode]
  by_cases door : level = .door
  · simp [door, switch door]
  · simp [door]

/-- The first item that meets a test is the only one that does. -/
theorem find_unique {α : Type} {test : α → Bool} {l : List α} {x : α} (listed : x ∈ l) (meets : test x = true)
    (only : ∀ y ∈ l, test y = true → y = x) : l.find? test = some x := by
  cases found : l.find? test with
  | none => exact absurd meets (List.find?_eq_none.mp found x listed)
  | some y => rw [only y (List.mem_of_find?_eq_some found) (List.find?_some found)]

/-- Two items of a list of which neither stands in the list's relation to the other are one. -/
theorem pairwise_eq {α : Type} {related : α → α → Prop} {l : List α} (ordered : l.Pairwise related) {x y : α} (hx : x ∈ l)
    (hy : y ∈ l) (notBefore : ¬related x y) (notAfter : ¬related y x) : x = y := by
  induction ordered with
  | nil => cases hx
  | cons first _ ih =>
    rcases List.mem_cons.mp hx with hx | hx <;> rcases List.mem_cons.mp hy with hy | hy
    · rw [hx, hy]
    · exact absurd (hx ▸ first y hy) notBefore
    · exact absurd (hy ▸ first x hx) notAfter
    · exact ih hx hy

/-- Only one grant of a station has a level and a set that a request may ask for (R142, R144). -/
theorem grant_same {s : State} (sound : s.GrantsSound) {g k : Grant} {holder : Nat} {level : Level} {heads : HeadSet}
    (hg : g ∈ s.access.grants) (hk : k ∈ s.access.grants) (isG : g.holder = holder ∧ g.level = level ∧ g.heads = heads)
    (isK : k.holder = holder ∧ k.level = level ∧ k.heads = heads) (asked : level ≠ .door → heads ≠ 0) : g = k := by
  have shared {a b : Grant} (isA : a.level = level ∧ a.heads = heads) (isB : b.level = level ∧ b.heads = heads) :
      ¬a.Apart b := by
    rintro ⟨apart, notDoors, -⟩
    rw [isA.2, isB.2, BitVec.and_self] at apart
    exact notDoors ⟨isA.1.trans (Decidable.of_not_not fun other => asked other apart),
      isB.1.trans (Decidable.of_not_not fun other => asked other apart)⟩
  exact pairwise_eq sound.apart hg hk (shared isG.2 isK.2) (shared isK.2 isG.2)

/-- The end of a grant decided now (R143). -/
theorem State.grantEnd_eq (s : State) (seconds : Word16) : s.grantEnd seconds.toNat =
    s.now + BitVec.ofNat 48 ((if seconds = 0 then 1 else min seconds.toNat s.cfg.maxGrantS) * 1000000) := by
  have zero : seconds.toNat = 0 ↔ seconds = 0 := by rw [← BitVec.toNat_inj]; rfl
  simp only [State.grantEnd, State.grantSeconds, after, zero]

/-- Settles O30: a request refused or extended by the first step of R142 that applies. -/
theorem accessRequestFollowsSteps : Obligations.AccessRequestFollowsSteps := by
  intro s dest src code span seconds owns sound u refused lockOpen
  have meaning : exec (.arq dest src code span seconds) s = .next (u.requestAccess src code span seconds.toNat) :=
    exec_owned owns rfl rfl
  have refuses {reason : Refused} {heads : HeadSet} (decision : u.decideAccess src code span = .refused reason heads) :
      refused (refusedCode reason) heads := by
    simp only [refused, meaning, State.requestAccess, decision]
    exact congrArg _ (State.reply_eq_answered _ _ _ (by simp [replyBytes]))
  have mode : u.lock = s.lock := by simp [State.lock, u]
  have cabinet : u.cabinet = s.cabinet := by simp [u]
  have goesOn (open_ : lockOpen) : u.decideAccess src code span = match readLevel code with
      | none => .refused .badLevel 0
      | some level => if level = .door && s.cabinet.switch != .off then .refused .switchOn 0
        else u.decideSet src level (u.requestedHeads level span) := by
    rw [State.decideAccess_open (by simpa [u] using open_), cabinet]
  refine ⟨fun locked => refuses (reason := .locked) ?_, fun keyed off => refuses (reason := .noKey) ?_,
    fun open_ bad => refuses (reason := .badLevel) ?_, fun open_ door on => refuses (reason := .switchOn) ?_,
    fun level open_ coded switch => ?_⟩
  · rcases locked with fixed | held
    · simp [State.decideAccess, mode, State.lock_of fixed]
    · simp [State.decideAccess, mode, State.lock_of held]
  · simp [State.decideAccess, mode, State.lock_of keyed, cabinet, off]
  · rw [goesOn open_, readLevel_none bad]
  · rw [goesOn open_, door]
    simp [readLevel, on]
  · intro heads expires same overlaps
    have set : u.requestedHeads level span = heads := by
      simp [State.requestedHeads, heads, u, spanCode, spanInvert]
    have decides : u.decideAccess src code span = u.decideSet src level heads := by
      rw [State.decideAccess_set (by simpa [u] using open_) coded (by simpa [u] using switch), set]
    have grants : u.access.grants = s.access.grants := by simp [u]
    have grantEnd : u.grantEnd seconds.toNat = expires := by
      rw [State.grantEnd_eq]
      simp [u, expires]
    refine ⟨fun notDoor none => refuses (reason := .empty) ?_, fun some_ => ⟨fun g listed isSame => ?_, fun new => ⟨?_, ?_⟩⟩⟩
    · simp [decides, State.decideSet, notDoor, none]
    all_goals
      have notEmpty : (level != .door && decide (heads = 0)) = false := by
        by_cases door : level = .door
        · simp [door]
        · simpa [door] using some_ door
    · have found : u.grantToExtend src level heads = some g := by
        rw [State.grantToExtend, grants]
        exact find_unique listed (by simpa [same, and_assoc] using isSame) fun k hk isSameK => grant_same sound hk listed
          (by simpa [and_assoc] using isSameK) isSame some_
      have decision : u.decideAccess src code span = .extended g := by
        rw [decides, State.decideSet, if_neg (Bool.eq_false_iff.mp notEmpty), found]
      rw [meaning, State.requestAccess, decision]
      simp only [State.extendGrant]
      rw [State.reply_eq_answered _ _ _ (by simp [replyBytes, grantReplyBytes, timeBytes]), grantEnd]
      obtain ⟨-, hasLevel, hasHeads⟩ := isSame
      simp only [State.setGrant, replyBytes, grantReplyBytes, u, State.takenFrom_access, hasLevel, hasHeads, coded, flagByte]
      rfl
    all_goals
      have notFound : u.grantToExtend src level heads = none := by
        rw [State.grantToExtend, grants, List.find?_eq_none]
        intro g listed
        simpa [same, and_assoc] using new g listed
    · intro meets
      refine refuses (reason := .overlap) ?_
      have overlap : u.overlaps level heads = true := by
        rw [State.overlaps, grants, List.any_eq_true]
        obtain ⟨g, listed, shares⟩ := meets
        exact ⟨g, listed, by simpa [overlaps, and_comm] using shares⟩
      rw [decides, State.decideSet, if_neg (Bool.eq_false_iff.mp notEmpty), notFound]
      simp [overlap]
    · intro apart full
      refine refuses (reason := .full) ?_
      have noOverlap : u.overlaps level heads = false := by
        rw [State.overlaps, grants, List.any_eq_false]
        intro g listed
        simpa [overlaps, and_comm] using apart g listed
      rw [decides, State.decideSet, if_neg (Bool.eq_false_iff.mp notEmpty), notFound]
      simp [noOverlap, grants, Config.grantCapacity, full]

end Sys2Proof.Machine

/-! PROOFS of the statements on jogs requested and on access granted (R142 to R145, R151). -/

namespace Sys2Proof.Machine

/-! ## JOG (R96, R97, R151) -/

/-- A JOG_REFUSED answers with its code, head and count (R155). -/
theorem State.refuseJog_eq (s : State) (src : Byte) (code : JogRefused) (head count : Byte) :
    s.refuseJog src code head count = s.answered src [6, jogRefusedCode code, head, count] :=
  State.reply_eq_answered _ _ _ (by simp [replyBytes])

/-- A sender holds a jog where it holds a JOG grant over the head (R151). -/
theorem State.holdsJog_iff (s : State) (src head : Byte) : s.holdsJog src head = true ↔
    ∃ g ∈ s.access.grants, g.holder = src.toNat ∧ g.level = .jog ∧ g.heads.getLsbD head.toNat = true := by
  simp [State.holdsJog, inSet, and_assoc]

/-- A byte is its number. -/
theorem byte_toNat (b : Byte) : byte b.toNat = b := by
  simp [byte]

/-- The jog of a running head completes at a stop in the microsecond in which its last high phase has run (R85, R97). -/
theorem State.jogCompletes_iff {s : State} {h : Nat} {j : JogInHand} (runs : s.running = true)
    (jogs : (s.head h).jog = some j) : s.jogCompletes h j = true ↔
      (∃ n, (s.head h).train = .high n ∧ s.cfg.dosing.highTime ≤ n) ∧ h < s.cfg.track.heads ∧ j.target ≤ j.emitted + 1 := by
  have emitting : (s.head h).emitting = true := by simp [Head.emitting, jogs]
  cases train : (s.head h).train <;>
    simp [State.jogCompletes, State.highPhaseOver, runs, emitting, train, State.fitted, and_left_comm, and_assoc]

/-- A count of 255 asks for a continuous jog, of target 65535 (R96). -/
theorem jogTarget_eq (count : Byte) : jogTarget count.toNat = if count = 255 then 65535 else count.toNat := by
  have continuous : count.toNat = 255 ↔ count = 255 := by rw [← BitVec.toNat_inj]; rfl
  simp only [jogTarget, continuous]

/-- Settles O33: a JOG by the steps of R151. -/
theorem jogFollowsSteps : Obligations.JogFollowsSteps := by
  intro s dest src head count owns eight u h result refused holds target stopped
  have meaning : exec (.jog dest src head count) s = .next (u.requestJog src head count) := exec_owned owns rfl rfl
  have holdsJog : u.holdsJog src head = true ↔ holds := by
    rw [State.holdsJog_iff]
    simp [u, holds, h]
  have here : u.head h = s.head h := by simp [u]
  have permission : u.cabinet.permission = s.cabinet.permission := by simp [u]
  have inside (yes : holds) : h < 8 := by
    obtain ⟨g, -, -, -, held⟩ := yes
    by_contra outside
    rw [BitVec.getLsbD_of_ge _ _ (by omega)] at held
    cases held
  have passes (yes : holds) (on : s.cabinet.permission = true) : u.requestJog src head count =
      if (s.head h).production = .faulted then u.refuseJog src .headFault head count
      else if (s.head h).production = .draining then u.refuseJog src .headBusy head count
      else u.jogHead src head count := by
    rw [State.requestJog, if_neg (by simp [holdsJog, yes]), if_neg (by simp [permission, on]), here]
  have goes {t : State} (eq : u.requestJog src head count = t) : result t := meaning.trans (congrArg _ eq)
  refine ⟨fun no => goes ?_, fun yes off => goes ?_, fun yes on => ⟨fun faulted => goes ?_, fun draining => goes ?_,
    fun out => ⟨fun j jogs => ⟨fun stop => ?stops, fun more same => goes ?_, fun more other => goes ?_⟩,
      fun noJog => ⟨fun stop => goes ?_, fun more => goes ?starts⟩⟩⟩⟩
  · rw [State.requestJog, if_pos (by simpa using mt holdsJog.mp no), State.refuseJog_eq]
    rfl
  · rw [State.requestJog, if_neg (by simp [holdsJog, yes]), if_pos (by simp [permission, off]), State.refuseJog_eq]
    rfl
  · rw [passes yes on, if_pos faulted, State.refuseJog_eq]
    rfl
  · rw [passes yes on, if_neg (by simp [draining]), if_pos draining, State.refuseJog_eq]
    rfl
  all_goals
    have atHead := passes yes on
    rw [if_neg (by simp [out]), if_neg (by simp [out])] at atHead
  case stops =>
    intro completes reports
    have running : u.running = true := by simpa [u] using owns.2.1
    have jogsHere : (u.head h).jog = some j := here ▸ jogs
    have completed : u.jogCompletes h j = true ↔ completes := by
      rw [State.jogCompletes_iff running jogsHere, here]
      simp [u, completes]
    have reply (n : Nat) : (u.setHead h fun x => { x.quiet with jog := none }).reply (byte j.holder)
        (.jogDone h .stopped n j.meter) = ({ u with heads := s.heads.set h stopped } : State).answered (byte j.holder)
          ([7, head, 2] ++ bytesOf 2 n ++ bytesOf 2 j.meter) := by
      rw [State.reply_eq_answered _ _ _ (by simp [replyBytes]), State.setHead,
        State.modify_head_eq_set u h _ (by simp [u, eight, inside yes])]
      simp only [replyBytes, jogCauseCode, h, byte_toNat, u, State.takenFrom_heads, State.takenFrom_head]
      rfl
    have stops : u.requestJog src head count = (u.setHead h fun x => { x.quiet with jog := none }).reply (byte j.holder)
        (.jogDone h .stopped (if u.jogCompletes h j then j.emitted + 1 else j.emitted) j.meter) := by
      rw [atHead, State.jogHead, jogsHere]
      simp only [stop, if_true]
      exact State.stopJog_eq u h j jogsHere
    rw [reply] at stops
    refine ⟨fun yes => goes ?_, fun no => goes ?_⟩
    · rw [stops, if_pos (completed.mpr yes)]
    · rw [stops, if_neg (mt completed.mp no)]
  case starts =>
    rw [atHead, State.jogHead, here, noJog]
    simp only [more, if_false]
    rw [State.reply_eq_answered _ _ _ (by simp [replyBytes]), State.setHead,
      State.modify_head_eq_set _ h _ (by simp [State.answered, u, eight, inside yes])]
    have heads : (u.answered src [5, head, count]).heads = s.heads := by simp [State.answered, u]
    rw [replyBytes, heads, State.head_congr heads, jogTarget_eq]
    rfl
  all_goals rw [atHead, State.jogHead, here]
  · simp only [jogs, more, if_false]
    exact if_pos (same.trans (jogTarget_eq count).symm)
  · simp only [jogs, more, if_false]
    rw [if_neg fun same => other (same.trans (jogTarget_eq count)), State.refuseJog_eq]
    rfl
  · simp only [noJog, stop, if_true]

/-! ## ARQ granted (R143 to R145) -/

/-- The number that stands i places after a grant number, 1 following 255 (R144). -/
def numberFrom (next i : Nat) : Nat := (next - 1 + i) % 255 + 1

/-- One place on is the number after (R144). -/
theorem numberAfter_numberFrom (next i : Nat) : numberAfter (numberFrom next i) = numberFrom next (i + 1) := by
  by_cases last : numberFrom next i = 255
  · rw [numberAfter, if_pos last]
    simp only [numberFrom] at last ⊢
    omega
  · rw [numberAfter, if_neg last]
    simp only [numberFrom] at last ⊢
    omega

/-- The search for a free number passes numbers in use, and ends at one that is not or with its tries (R144). -/
theorem freeNumber_numberFrom (used : List Nat) (next fuel i : Nat) : ∃ tries ≤ fuel,
    freeNumber used fuel (numberFrom next i) = numberFrom next (i + tries) ∧
    (∀ k < tries, numberFrom next (i + k) ∈ used) ∧ (tries = fuel ∨ numberFrom next (i + tries) ∉ used) := by
  induction fuel generalizing i with
  | zero => exact ⟨0, Nat.le_refl _, rfl, nofun, .inl rfl⟩
  | succ fuel ih =>
    by_cases taken : numberFrom next i ∈ used
    · obtain ⟨tries, few, found, passed, ends⟩ := ih (i + 1)
      refine ⟨tries + 1, by omega, ?_, fun k less => ?_, ?_⟩
      · rw [freeNumber, if_pos (by simpa using taken), numberAfter_numberFrom, found]
        congr 1; omega
      · cases k with
        | zero => exact taken
        | succ k => have := passed k (by omega); rwa [show i + (k + 1) = i + 1 + k by omega]
      · rw [show i + (tries + 1) = i + 1 + tries by omega]
        exact ends.imp (congrArg (· + 1)) id
    · exact ⟨0, Nat.zero_le _, by rw [freeNumber, if_neg (by simpa using taken)]; rfl, nofun, .inr taken⟩

/-- With fewer than four grants the new number is the first from the next grant number on that none holds (R144). -/
theorem State.newNumber_spec {s : State} (room : s.access.grants.length < 4)
    (range : 1 ≤ s.access.nextGrant ∧ s.access.nextGrant ≤ 255) : ∃ tries,
    s.newNumber = numberFrom s.access.nextGrant tries ∧ (∀ g ∈ s.access.grants, g.number ≠ s.newNumber) ∧
    ∀ i < tries, ∃ g ∈ s.access.grants, g.number = numberFrom s.access.nextGrant i := by
  have first : numberFrom s.access.nextGrant 0 = s.access.nextGrant := by simp only [numberFrom]; omega
  obtain ⟨tries, few, found, passed, ends⟩ :=
    freeNumber_numberFrom (s.access.grants.map Grant.number) s.access.nextGrant 5 0
  rw [first] at found
  simp only [Nat.zero_add] at found passed ends
  have held {n : Nat} : n ∈ s.access.grants.map Grant.number ↔ ∃ g ∈ s.access.grants, g.number = n := List.mem_map
  have free : numberFrom s.access.nextGrant tries ∉ s.access.grants.map Grant.number := by
    refine ends.resolve_left fun five => ?_
    have distinct : ((List.range 4).map (numberFrom s.access.nextGrant)).Nodup := by
      refine List.Nodup.map_on (fun i hi j hj same => ?_) List.nodup_range
      have := List.mem_range.mp hi
      have := List.mem_range.mp hj
      simp only [numberFrom] at same
      omega
    have used : (List.range 4).map (numberFrom s.access.nextGrant) ⊆ s.access.grants.map Grant.number := by
      intro n hn
      obtain ⟨i, hi, rfl⟩ := List.mem_map.mp hn
      exact passed i (by have := List.mem_range.mp hi; omega)
    have fits := (distinct.subperm used).length_le
    simp only [List.length_map, List.length_range] at fits
    omega
  refine ⟨tries, found, fun g listed same => free ?_, fun i less => held.mp (passed i less)⟩
  exact held.mpr ⟨g, listed, same.trans found⟩

/-- A new grant stands between those of lower and those of higher number (R141). -/
theorem insertByNumber_eq_filter (g : Grant) {grants : List Grant} (ascending : grants.Pairwise fun g k => g.number < k.number)
    (new : ∀ k ∈ grants, k.number ≠ g.number) : insertByNumber g grants =
      grants.filter (fun k => k.number < g.number) ++ g :: grants.filter (fun k => g.number < k.number) := by
  induction ascending with
  | nil => rfl
  | @cons x rest first _ ih =>
    have other := new x (by simp)
    rw [insertByNumber]
    split
    case isTrue before =>
      have lower : (x :: rest).filter (fun k => decide (k.number < g.number)) = [] := by
        rw [List.filter_eq_nil_iff]
        rintro k (_ | ⟨_, hk⟩)
        · simpa using Nat.le_of_lt before
        · simpa using Nat.le_of_lt (Nat.lt_trans before (first k hk))
      have higher : (x :: rest).filter (fun k => decide (g.number < k.number)) = x :: rest := by
        rw [List.filter_eq_self]
        rintro k (_ | ⟨_, hk⟩)
        · simpa using before
        · simpa using Nat.lt_trans before (first k hk)
      rw [lower, higher]
      rfl
    case isFalse after =>
      have less : x.number < g.number := by omega
      rw [ih fun k hk => new k (List.mem_cons_of_mem _ hk)]
      simp [less, after]

/-- The production of a head under a new grant: OUT where no dose is in flight, else DRAINING (R77). -/
theorem Head.grantStarts_eq (x : Head) : x.grantStarts = { x with production :=
    if x.production = .inProduction then (if x.dose = .idle then .out else .draining) else x.production } := by
  have flight := Head.inFlight_iff x
  unfold Head.grantStarts
  split
  case h_1 production => by_cases idle : x.dose = .idle <;> simp_all
  case h_2 other => rw [if_neg other]

/-- Every head of a set is out where each of its eight members is (R146). -/
theorem State.allOut_eq (s : State) (set : HeadSet) : s.allOut set =
    (List.range 8).all fun h => !set.getLsbD h || (s.head h).production = .out || (s.head h).production = .faulted := by
  simp [State.allOut, inSet, Head.outOrFaulted, Bool.or_assoc]

/-- Settles O29: a request that passes every step of R142. -/
theorem accessRequestIsGranted : Obligations.AccessRequestIsGranted := by
  intro s dest src code span seconds level owns coded sound eight open_ switch heads asked apart room
  obtain ⟨tries, number, unused, taken⟩ := State.newNumber_spec room sound.next
  refine ⟨s.newNumber, tries, number, unused, taken, ?_⟩
  intro expires covered ready
  generalize taken_eq : s.takenFrom src = u
  have access : u.access = s.access := by simp [← taken_eq]
  have cabinet : u.cabinet = s.cabinet := by simp [← taken_eq]
  have headsKept : u.heads = s.heads := by simp [← taken_eq]
  have cfg : u.cfg = s.cfg := by simp [← taken_eq]
  have now : u.now = s.now := by simp [← taken_eq]
  have meaning : exec (.arq dest src code span seconds) s = .next (u.requestAccess src code span seconds.toNat) := by
    rw [← taken_eq]; exact exec_owned owns rfl rfl
  have decision : u.decideAccess src code span = .granted level heads := by
    rw [State.decideAccess_set (by simpa [access, cabinet] using open_) coded (by simpa [cabinet] using switch)]
    have set : u.requestedHeads level span = heads := by simp [State.requestedHeads, heads, cfg, spanCode, spanInvert]
    have noOverlap : u.overlaps level heads = false := by
      rw [State.overlaps, access, List.any_eq_false]
      intro g listed
      simpa [and_comm] using apart g listed
    have notFound : u.grantToExtend src level heads = none := by
      rw [State.grantToExtend, access, List.find?_eq_none]
      intro g listed same
      obtain ⟨noShare, notDoors⟩ := apart g listed
      have isSame : g.level = level ∧ g.heads = heads := by
        simp only [Bool.and_eq_true, decide_eq_true_eq] at same
        exact ⟨same.1.2, same.2⟩
      rw [isSame.2, BitVec.and_self] at noShare
      have door : level = .door := Decidable.of_not_not fun other => asked other noShare
      exact notDoors ⟨isSame.1.trans door, door⟩
    have notEmpty : (level != .door && heads = 0) = false := by
      by_cases door : level = .door
      · simp [door]
      · simpa [door] using asked door
    rw [set, State.decideSet, if_neg (Bool.eq_false_iff.mp notEmpty), notFound]
    simp [noOverlap, access, Config.grantCapacity, room]
  rw [meaning, State.requestAccess, decision]
  have newNumber : u.newNumber = s.newNumber := by simp [State.newNumber, access]
  have grantEnd : u.grantEnd seconds.toNat = expires := by rw [State.grantEnd_eq, now, cfg]
  simp only [State.giveGrant, newNumber, access, now, grantEnd]
  generalize s.newNumber = n at *
  have starts : (fun i (x : Head) => if inSet heads i then x.grantStarts else x) = fun h x =>
      if heads.getLsbD h then { x with production := covered x } else x := by
    funext i x
    rw [Head.grantStarts_eq]
    rfl
  rw [State.atHeads_eq, starts, headsKept]
  have isReady (a : Access) : ({ u with
      access := a
      heads := s.heads.mapIdx fun h x => if heads.getLsbD h then { x with production := covered x } else x } : State).allOut
        heads = ready := by
    have head {h : Nat} (below : h < 8) : State.head { u with
        access := a
        heads := s.heads.mapIdx fun h x => if heads.getLsbD h then { x with production := covered x } else x } h =
        if heads.getLsbD h then { s.head h with production := covered (s.head h) } else s.head h :=
      State.head_mapIdx (s := s) (f := fun h x => if heads.getLsbD h then { x with production := covered x } else x) rfl
        (eight.symm ▸ below)
    rw [State.allOut_eq]
    rw [Bool.eq_iff_iff, List.all_eq_true, List.all_eq_true]
    refine forall₂_congr fun h listed => ?_
    rw [head (List.mem_range.mp listed)]
    cases heads.getLsbD h <;> simp
  have grants : (insertByNumber ⟨n, src.toNat, level, heads, s.now, expires, false⟩ s.access.grants).map (fun g =>
      if g.number = n then { g with readySent := ready } else g) = s.access.grants.filter (fun g => g.number < n) ++
        ⟨n, src.toNat, level, heads, s.now, expires, ready⟩ :: s.access.grants.filter (fun g => n < g.number) := by
    have kept (test : Grant → Bool) : (s.access.grants.filter test).map (fun g =>
        if g.number = n then { g with readySent := ready } else g) = s.access.grants.filter test := by
      refine (List.map_congr_left fun g listed => ?_).trans (List.map_id _)
      exact if_neg (unused g (List.mem_filter.mp listed).1)
    rw [insertByNumber_eq_filter _ sound.ascending unused, List.map_append, List.map_cons, kept, kept]
    simp
  have next : numberAfter n = n % 255 + 1 := by
    have range : 1 ≤ n ∧ n ≤ 255 := by rw [number]; simp only [numberFrom]; omega
    by_cases last : n = 255
    · rw [numberAfter, if_pos last, last]
    · rw [numberAfter, if_neg last]; omega
  rw [State.reply_eq_answered _ _ _ (by simp [replyBytes, grantReplyBytes, timeBytes]), isReady]
  simp only [State.setGrant, replyBytes, grantReplyBytes, coded, flagByte]
  rw [grants, next]
  rfl

end Sys2Proof.Machine

/-! PROOFS of the statements on the transmitter: the send order, and what becomes of a candidate (R40, R163 to R170). -/

namespace Sys2Proof.Machine

/-! ## The oldest offered latch (R164) -/

/-- Latches that are not offered leave the best so far. -/
theorem oldestLatchFrom_none {cls : Nat} (source : Nat) {ls : List Latch} (best : Option (Nat × Nat))
    (none : ∀ l ∈ ls, l.isOffered cls = false) : oldestLatchFrom cls source ls best = best := by
  induction ls generalizing source best with
  | nil => rfl
  | cons l ls ih =>
    have stays : olderLatch cls best source l = best := if_neg (by simp [none l])
    rw [oldestLatchFrom, stays, ih _ _ fun k hk => none k (List.mem_cons_of_mem _ hk)]

/-- The best so far stays where no later latch is older. -/
theorem oldestLatchFrom_best {cls k ready : Nat} (source : Nat) {ls : List Latch}
    (newer : ∀ l ∈ ls, l.isOffered cls = true → ready ≤ l.ready) :
    oldestLatchFrom cls source ls (some (k, ready)) = some (k, ready) := by
  induction ls generalizing source with
  | nil => rfl
  | cons l ls ih =>
    have stays : olderLatch cls (some (k, ready)) source l = some (k, ready) := by
      unfold olderLatch
      split
      · rename_i offered
        exact if_neg (Nat.not_lt.mpr (newer l (by simp) offered))
      · rfl
    rw [oldestLatchFrom, stays, ih _ fun l' hl => newer l' (List.mem_cons_of_mem _ hl)]

/-- The first of the oldest offered latches is found (R164). -/
theorem oldestLatchFrom_first {cls : Nat} (source : Nat) {lower higher : List Latch} {l : Latch} (best : Option (Nat × Nat))
    (offered : l.isOffered cls = true) (before : ∀ x ∈ lower, x.isOffered cls = true → l.ready < x.ready)
    (after : ∀ x ∈ higher, x.isOffered cls = true → l.ready ≤ x.ready) (worse : ∀ b, best = some b → l.ready < b.2) :
    oldestLatchFrom cls source (lower ++ l :: higher) best = some (source + lower.length, l.ready) := by
  induction lower generalizing source best with
  | nil =>
    have taken : olderLatch cls best source l = some (source, l.ready) := by
      refine (if_pos offered).trans ?_
      cases best with
      | none => rfl
      | some b => exact if_pos (worse b rfl)
    rw [List.nil_append, oldestLatchFrom, taken, oldestLatchFrom_best _ after]
    rfl
  | cons x lower ih =>
    rw [List.cons_append, oldestLatchFrom, ih _ _ (fun y hy => before y (List.mem_cons_of_mem _ hy))]
    · simp only [List.length_cons]
      congr 2
      omega
    · intro b found
      unfold olderLatch at found
      split at found
      case isFalse => exact worse b found
      case isTrue offers =>
        have younger := before x (by simp) offers
        split at found
        · cases found; exact younger
        · split at found
          · cases found; exact younger
          · cases found; exact worse _ rfl

/-- What is found is the best so far or an offered latch, with its ready time. -/
theorem oldestLatchFrom_some {cls source k ready : Nat} {ls : List Latch} {best : Option (Nat × Nat)}
    (found : oldestLatchFrom cls source ls best = some (k, ready)) : best = some (k, ready) ∨
      ∃ j, ∃ inside : j < ls.length, k = source + j ∧ ls[j].isOffered cls = true ∧ ls[j].ready = ready := by
  induction ls generalizing source best with
  | nil => exact .inl found
  | cons l ls ih =>
    rcases ih found with older | ⟨j, inside, rfl, offered, at_⟩
    · unfold olderLatch at older
      have here (offers : l.isOffered cls = true) (same : some (source, l.ready) = some (k, ready)) :
          best = some (k, ready) ∨ ∃ j, ∃ inside : j < (l :: ls).length, k = source + j ∧
            (l :: ls)[j].isOffered cls = true ∧ (l :: ls)[j].ready = ready := by
        cases same
        exact .inr ⟨0, by simp, rfl, offers, rfl⟩
      split at older
      case isFalse => exact .inl older
      case isTrue offers =>
        split at older
        · exact here offers older
        · split at older
          · exact here offers older
          · exact .inl older
    · exact .inr ⟨j + 1, by simpa using inside, by omega, by simpa using offered, by simpa using at_⟩

/-- The latch of a source, where the table holds it. -/
theorem State.latch_getElem {s : State} {i : Nat} (inside : i < s.latches.length) : s.latch i = s.latches[i] := by
  simp [State.latch, List.getD_eq_getElem?_getD, inside]

/-- Whether a latch is offered in a class, with a report address (R164). -/
theorem State.offersLatch_iff {s : State} {cls i : Nat} (reports : s.cfg.track.report ≠ 0) (inside : i < 24) :
    s.offersLatch cls i ↔ (s.latch i).isOffered cls = true := by
  simp [State.offersLatch, Latch.isOffered, reports, inside, and_assoc]

/-- Where no latch is offered there is no oldest (R164). -/
theorem State.oldestLatch_none {s : State} {cls : Nat} (table : s.latches.length = 24) (none : ∀ i, ¬s.offersLatch cls i) :
    s.oldestLatch cls = Option.none := by
  unfold State.oldestLatch
  split
  case isTrue => rfl
  case isFalse reports =>
    refine oldestLatchFrom_none _ _ fun l listed => Bool.eq_false_iff.mpr fun offered => ?_
    obtain ⟨i, inside, rfl⟩ := List.getElem_of_mem listed
    rw [← State.latch_getElem inside] at offered
    exact none i ((State.offersLatch_iff reports (by omega)).mpr offered)

/-- The latch offered first is the oldest (R164). -/
theorem State.oldestLatch_first {s : State} {cls i : Nat} (table : s.latches.length = 24) (first : s.offersFirst cls i) :
    s.oldestLatch cls = some (i, (s.latch i).ready) := by
  obtain ⟨offers, oldest⟩ := first
  have reports := offers.1
  have inside : i < s.latches.length := by rw [table]; exact offers.2.1
  have split : s.latches = s.latches.take i ++ s.latch i :: s.latches.drop (i + 1) := by
    rw [State.latch_getElem inside, ← List.drop_eq_getElem_cons inside, List.take_append_drop]
  have found := oldestLatchFrom_first (cls := cls) (l := s.latch i) (lower := s.latches.take i)
    (higher := s.latches.drop (i + 1)) 0 none ((State.offersLatch_iff reports offers.2.1).mp offers) ?_ ?_ nofun
  · rw [State.oldestLatch, if_neg reports, split, found]
    simp [Nat.le_of_lt inside]
  · intro x listed offered
    obtain ⟨j, below, rfl⟩ := List.getElem_of_mem listed
    have less : j < i := by rw [List.length_take] at below; omega
    rw [List.getElem_take, ← State.latch_getElem (by omega)] at offered ⊢
    rcases oldest j ((State.offersLatch_iff reports (by omega)).mpr offered) with older | ⟨-, lower⟩
    · exact older
    · omega
  · intro x listed offered
    obtain ⟨j, below, rfl⟩ := List.getElem_of_mem listed
    rw [List.length_drop] at below
    rw [List.getElem_drop, ← State.latch_getElem (by omega)] at offered ⊢
    rcases oldest _ ((State.offersLatch_iff reports (by omega)).mpr offered) with older | ⟨same, -⟩
    · exact Nat.le_of_lt older
    · exact Nat.le_of_eq same

/-- The oldest latch found is offered, and has its ready time (R164). -/
theorem State.oldestLatch_offers {s : State} {cls i ready : Nat} (found : s.oldestLatch cls = some (i, ready)) :
    (s.latches.length = 24 → s.offersLatch cls i) ∧ (s.latch i).ready = ready := by
  unfold State.oldestLatch at found
  split at found
  case isTrue => cases found
  case isFalse reports =>
    rcases oldestLatchFrom_some found with none | ⟨j, inside, rfl, offered, at_⟩
    · cases none
    · rw [Nat.zero_add, State.latch_getElem inside]
      refine ⟨fun table => (State.offersLatch_iff reports (by omega)).mpr ?_, at_⟩
      rw [State.latch_getElem inside]
      exact offered

/-! ## The first queued entry (R164, R168) -/

/-- The first entry of a class in the General Queue. -/
theorem State.firstQueued_append {s : State} {older newer : List QueueEntry} {e : QueueEntry}
    (queue : s.line.queue = older ++ e :: newer) (first : ∀ x ∈ older, x.cls ≠ e.cls) : s.firstQueued e.cls = some e := by
  rw [State.firstQueued, queue, List.find?_append, List.find?_eq_none.mpr (by simpa using first)]
  simp

/-- A queue without a class has no first entry of it. -/
theorem State.firstQueued_none {s : State} {cls : Nat} (none : ∀ e ∈ s.line.queue, e.cls ≠ cls) :
    s.firstQueued cls = Option.none := List.find?_eq_none.mpr (by simpa using none)

/-! ## TRANSMIT_START (R163, R164, R167) -/

/-- The transmitter may start in RUNNING and LISTEN, with the idle timer at the gap (R163, R166). -/
theorem State.mayStart_iff (s : State) : s.mayStart = true ↔ s.running = true ∧ s.line.tx = none ∧
    (if s.line.backoff then 12 + 16 * s.cfg.hall.address else 12) ≤ s.line.idle := by
  simp [State.mayStart, State.requiredGap, Config.gap, Nat.mul_comm, and_assoc]

/-- TRANSMIT_START sends what the send order gives, where it may start (R163). -/
theorem exec_transmitStart {s : State} {c : Candidate} (may : s.mayStart = true) (picked : s.pick = some c) :
    exec .transmitStart s = .next (s.startAttempt c) := by
  rw [exec_effect rfl]
  simp only [effect, State.startCandidate, may, picked, if_true]

/-- TRANSMIT_START with nothing to start changes nothing (R163, log 1). -/
theorem exec_transmitStart_idle {s : State} (idle : s.mayStart = true → s.pick = none) :
    exec .transmitStart s = .next s := by
  rw [exec_effect rfl]
  cases may : s.mayStart
  · simp only [effect, State.startCandidate, may]
    rfl
  · simp only [effect, State.startCandidate, may, idle may, if_true]

/-- Settles O23: the send order, and the frame of each candidate. -/
theorem transmitStartFollowsSendOrder : Obligations.TransmitStartFollowsSendOrder := by
  refine ⟨fun s no => exec_transmitStart_idle fun may => ?_, fun s runs listens table gap => ?_⟩
  · obtain ⟨runs, listens, gap⟩ := (State.mayStart_iff s).mp may
    rcases no with quiet | busy | early
    · rw [runs] at quiet; cases quiet
    · simp [listens] at busy
    · omega
  intro frame started latchStarts entryStarts
  have may : s.mayStart = true := (State.mayStart_iff s).mpr ⟨runs, listens, gap⟩
  have latchStart {i : Nat} (inside : i < 24) (picked : s.pick = some (.latch i)) : latchStarts i := by
    refine (exec_transmitStart may picked).trans ?_
    simp only [State.startAttempt, State.beginAttempt, State.setLatch, State.onLine]
    rw [modify_eq_set _ _ _ (Latch.clear 2) (by omega)]
    rfl
  have entryStart {older newer : List QueueEntry} {e : QueueEntry} (queue : s.line.queue = older ++ e :: newer)
      (first : ∀ x ∈ older, x.cls ≠ e.cls) (picked : s.pick = some (.queued e.cls)) : entryStarts older newer e := by
    refine (exec_transmitStart may picked).trans ?_
    have marked := modifyFirst_append (fun x : QueueEntry => decide (x.cls = e.cls)) (fun x => { x with inAttempt := true })
      older newer e (by simpa using first) (by simp)
    have filled : e.frame.filled s.clock.quality =
        if e.frame.kind = .hnd then e.frame.payload.set 18 (qualityCode s.clock.quality) else e.frame.payload := by
      unfold OutFrame.filled
      split
      · rename_i hnd; rw [if_pos hnd]
      · rename_i other; rw [if_neg other]
    simp only [State.startAttempt, State.beginAttempt, State.onLine, State.fillFrame, State.firstQueued_append queue first, filled]
    rw [queue, marked]
    rfl
  refine ⟨by simp [State.drivesDominant, listens], fun t c bytes sends => ?_, fun pending => ?_, fun notCab p placed => ?_,
    fun notCab noBeacon => ⟨fun i first => ?_, fun noFirst => ⟨fun i first older => ?_, fun older newer e queue first two later => ?_,
      fun noSecond noTwo => ⟨fun older newer e queue first three => ?_, fun noThree => ?_⟩⟩⟩⟩
  · rw [State.drivesDominant, sends]
    rfl
  · exact exec_transmitStart may (by rw [State.pick, if_pos pending])
  · refine (exec_transmitStart may (c := .bcn) (by simp [State.pick, notCab, placed])).trans ?_
    simp only [State.startAttempt, State.beginAttempt, State.onLine, State.fillFrame, placed]
    rfl
  · exact latchStart first.1.2.1 (by simp [State.pick, notCab, noBeacon, State.oldestLatch_first table first])
  all_goals
    have picks : s.pick = s.pickClassTwo.or ((s.firstQueued 3).map fun _ => .queued 3) := by
      simp [State.pick, notCab, noBeacon, State.oldestLatch_none table noFirst]
  · refine latchStart first.1.2.1 ?_
    have two : s.pickClassTwo = some (.latch i) := by
      rw [State.pickClassTwo, State.oldestLatch_first table first]
      cases queued : s.firstQueued 2 with
      | none => rfl
      | some e =>
        have listed := List.mem_of_find?_eq_some queued
        have isTwo : e.cls = 2 := by simpa using List.find?_some queued
        exact if_pos (older e listed isTwo)
    rw [picks, two]
    rfl
  · refine entryStart queue first ?_
    have queued : s.firstQueued 2 = some e := two ▸ State.firstQueued_append queue first
    have picked : s.pickClassTwo = some (.queued 2) := by
      rw [State.pickClassTwo, queued]
      split
      case h_1 i ready _ oldest same =>
        cases same
        obtain ⟨offers, rfl⟩ := State.oldestLatch_offers oldest
        exact if_neg (Nat.not_le.mpr (later i (offers table)))
      case h_2 none => cases none
      case h_3 => rfl
      case h_4 none => cases none
    rw [picks, picked, two]
    rfl
  all_goals
    have noClassTwo : s.pickClassTwo = none := by
      rw [State.pickClassTwo, State.oldestLatch_none table noSecond, State.firstQueued_none noTwo]
  · refine entryStart queue first ?_
    have queued : s.firstQueued 3 = some e := three ▸ State.firstQueued_append queue first
    rw [picks, noClassTwo, queued, three]
    rfl
  · refine exec_transmitStart_idle fun _ => ?_
    rw [picks, noClassTwo, State.firstQueued_none noThree]
    rfl

/-! ## FRAME_SENT (R40, R163, R166, R170) -/

/-- The frame is read back whole as its levels (R163). -/
theorem Attempt.isWhole_iff (a : Attempt) : a.isWhole = true ↔ a.readBack = frameLevels a.bytes := decide_eq_true_iff

/-- FRAME_SENT of a frame read back whole ends the attempt (R163). -/
theorem exec_frameSent {s : State} {c : Candidate} {bytes : List Byte} (sends : s.line.tx = some ⟨c, bytes, frameLevels bytes⟩) :
    exec .frameSent s = .next (s.endSent c) := by
  have whole := (Attempt.isWhole_iff ⟨c, bytes, frameLevels bytes⟩).mpr rfl
  rw [exec_effect rfl]
  simp only [effect, sends, Option.filter, whole, if_true]

/-- FRAME_SENT without a frame read back whole changes nothing (log 1). -/
theorem exec_frameSent_idle {s : State} (notWhole : ∀ a, s.line.tx = some a → a.isWhole = false) :
    exec .frameSent s = .next s := by
  rw [exec_effect rfl]
  cases sends : s.line.tx with
  | none => simp only [effect, sends, Option.filter]
  | some a => simp [effect, sends, Option.filter, notWhole a sends]

/-- Taking out the entry in the attempt, where one stands (R163). -/
theorem eraseP_append_marked {older newer : List QueueEntry} {e : QueueEntry} (marked : e.inAttempt = true)
    (others : ∀ x ∈ older, x.inAttempt = false) : (older ++ e :: newer).eraseP QueueEntry.inAttempt = older ++ newer := by
  rw [List.eraseP_append_right _ (by simpa using others), List.eraseP_cons_of_pos marked]

/-- Settles O24: each candidate leaves its place. -/
theorem sentFrameLeavesItsPlace : Obligations.SentFrameLeavesItsPlace := by
  intro s bytes whole sent
  refine ⟨fun sends => exec_frameSent sends, fun sends => exec_frameSent sends, fun i inside sends => ?_,
    fun cls older newer e sends queue marked others => ?_, fun none => ?_, fun c readBack sends other => ?_⟩
  · refine (exec_frameSent sends).trans ?_
    simp only [State.endSent, State.candidateSent, State.setLatch]
    rw [modify_eq_set _ _ _ (Latch.clear 2) inside]
    rfl
  · refine (exec_frameSent sends).trans ?_
    have inOlder : ∀ x ∈ older, x.inAttempt = false := fun x hx => others x (List.mem_append_left _ hx)
    have handover : s.attemptIsHandover = decide (e.frame.kind = .hnd) := by
      have quiet (l : List QueueEntry) (none : ∀ x ∈ l, x.inAttempt = false) :
          (l.any fun x => x.inAttempt && decide (x.frame.kind = .hnd)) = false :=
        List.any_eq_false.mpr fun x hx => by simp [none x hx]
      rw [State.attemptIsHandover, queue, List.any_append, List.any_cons, quiet older inOlder,
        quiet newer fun x hx => others x (List.mem_append_right _ hx), marked]
      simp
    have left : s.line.queue.eraseP QueueEntry.inAttempt = older ++ newer := by
      rw [queue, eraseP_append_marked marked inOlder]
    simp only [State.endSent, State.candidateSent, handover, State.onLine, left]
    by_cases hnd : e.frame.kind = .hnd <;> simp only [hnd, decide_true, decide_false, if_true, if_false] <;> rfl
  · exact exec_frameSent_idle fun a sends => by rw [none] at sends; cases sends
  · refine exec_frameSent_idle fun a found => Bool.eq_false_iff.mpr fun isWhole => other ?_
    cases found.symm.trans sends
    exact (Attempt.isWhole_iff _).mp isWhole

/-! ## COLLISION (R40, R165, R166, R170) -/

/-- An attempt collides where the start mark or some bytes sent whole are read back differently (R165). -/
theorem Attempt.collides_iff (a : Attempt) : a.collides = true ↔ ∃ k, 4 + 10 * k ≤ a.readBack.length ∧
    a.readBack.take (4 + 10 * k) ≠ (frameLevels a.bytes).take (4 + 10 * k) := by
  simp only [Attempt.collides, Attempt.partsSent, Attempt.levels, bne_iff_ne]
  constructor
  · split
    case isTrue short => simp
    case isFalse long => exact fun differs => ⟨_, by omega, differs⟩
  · rintro ⟨k, sent, differs⟩ same
    rw [if_neg (by omega)] at same
    have earlier := congrArg (List.take (4 + 10 * k)) same
    simp only [List.take_take] at earlier
    rw [Nat.min_eq_left (by omega)] at earlier
    exact differs earlier

/-- COLLISION of a part read back differently ends the attempt in a loss (R165). -/
theorem exec_collision {s : State} {c : Candidate} {bytes : List Byte} {readBack : List Bool}
    (sends : s.line.tx = some ⟨c, bytes, readBack⟩) (differs : ∃ k, 4 + 10 * k ≤ readBack.length ∧
      readBack.take (4 + 10 * k) ≠ (frameLevels bytes).take (4 + 10 * k)) : exec .collision s = .next (s.endCollided c) := by
  have collides := (Attempt.collides_iff ⟨c, bytes, readBack⟩).mpr differs
  rw [exec_effect rfl]
  simp only [effect, sends, Option.filter, collides, if_true]

/-- COLLISION without a difference so far changes nothing (log 1). -/
theorem exec_collision_idle {s : State} (same : ∀ a, s.line.tx = some a → a.collides = false) :
    exec .collision s = .next s := by
  rw [exec_effect rfl]
  cases sends : s.line.tx with
  | none => simp only [effect, sends, Option.filter]
  | some a => simp [effect, sends, Option.filter, same a sends]

/-- The eighth collision latches LINE_FAULT (R166). -/
theorem State.faultAtEight_eq (s : State) (attempts : Nat) (kind : FrameKind) :
    s.faultAtEight attempts kind = if attempts = 7 then s.occur .lineFault (kindCode kind) else s := by
  simp [State.faultAtEight, Config.maxAttempts, State.lineFault]

/-- The count before the eighth collision is 7 (R166). -/
theorem lastAttempt_iff {attempts : Nat} (few : attempts ≤ 7) : Config.maxAttempts ≤ attempts + 1 ↔ attempts = 7 := by
  simp only [Config.maxAttempts]; omega

/-- Settles O25: each candidate back in its place, or dropped at its eighth collision. -/
theorem collisionReturnsCandidate : Obligations.CollisionReturnsCandidate := by
  intro s bytes readBack table differs lost faulted
  refine ⟨fun some_ sends => ?_, fun some_ sends few => ?_, fun i inside some_ sends few => ?_,
    fun cls older newer e some_ sends queue marked others few => ?_, fun none => ?_, fun c sends no => ?_⟩
  · refine (exec_collision sends some_).trans (congrArg _ ?_)
    simp only [State.endCollided, State.candidateCollided]
    exact State.faultAtEight_eq ..
  · refine (exec_collision sends some_).trans (congrArg _ ?_)
    simp only [State.endCollided, State.candidateCollided]
    refine (State.faultAtEight_eq ..).trans ?_
    have slot : ({ lost.line with
        bcnSlot := if s.line.bcnAttempts = 7 then none else s.line.bcnSlot
        bcnAttempts := if s.line.bcnAttempts = 7 then 0 else s.line.bcnAttempts + 1 } : LinePort) =
        lost.line.bcnCollided := by
      have eighth : Config.maxAttempts ≤ lost.line.bcnAttempts + 1 ↔ s.line.bcnAttempts = 7 := lastAttempt_iff few
      by_cases last : s.line.bcnAttempts = 7
      · rw [LinePort.bcnCollided, if_pos (eighth.mpr last), if_pos last, if_pos last]
      · rw [LinePort.bcnCollided, if_neg (mt eighth.mp last), if_neg last, if_neg last]
    rw [slot]
    rfl
  · refine (exec_collision sends some_).trans (congrArg _ ?_)
    simp only [State.endCollided, State.candidateCollided]
    refine (State.faultAtEight_eq ..).trans ?_
    have collided : (s.latch i).collided = { s.latch i with
        content := if (s.latch i).sending.count = 0 then (s.latch i).content
          else ⟨min 255 ((s.latch i).content.count + (s.latch i).sending.count), (s.latch i).content.first,
            (s.latch i).sending.detail⟩
        sending := Gathered.none
        blocked := false
        attempts := if (s.latch i).attempts = 7 then 0 else (s.latch i).attempts + 1 } := by
      simp only [Latch.collided, lastAttempt_iff few]
      rfl
    have latches : s.latches.modify i Latch.collided = s.latches.set i (s.latch i).collided :=
      modify_eq_set _ _ _ (Latch.clear 2) (by omega)
    have same : lost.setLatch i Latch.collided = { lost with latches := s.latches.set i (s.latch i).collided } := by
      rw [← latches]; rfl
    rw [← collided, ← same]
    rfl
  · refine (exec_collision sends some_).trans (congrArg _ ?_)
    have found : s.line.queue.find? QueueEntry.inAttempt = some e := by
      rw [queue, List.find?_append, List.find?_eq_none.mpr (by simpa using others), List.find?_cons_of_pos marked]
      rfl
    have entry : lost.line.entryCollided e = { lost.line with
        queue := older ++ (if e.attempts = 7 then newer else { e with inAttempt := false, attempts := e.attempts + 1 } :: newer) } := by
      have line : lost.line.queue = older ++ e :: newer := queue
      rw [LinePort.entryCollided, line]
      by_cases last : e.attempts = 7
      · rw [if_pos ((lastAttempt_iff few).mpr last), if_pos last, eraseP_append_marked marked others]
      · rw [if_neg (mt (lastAttempt_iff few).mp last), if_neg last, modifyFirst_append _ _ _ _ _ (by simpa using others) marked]
        rfl
    have goes : lost.candidateCollided (.queued cls) =
        (lost.onLine fun l => l.entryCollided e).faultAtEight e.attempts e.frame.kind := by
      have lostFound : lost.line.queue.find? QueueEntry.inAttempt = some e := found
      simp only [State.candidateCollided, lostFound]
    refine goes.trans ((State.faultAtEight_eq ..).trans ?_)
    rw [State.onLine, entry]
  · exact exec_collision_idle fun a sends => by rw [none] at sends; cases sends
  · refine exec_collision_idle fun a found => Bool.eq_false_iff.mpr fun collides => no ?_
    cases found.symm.trans sends
    exact (Attempt.collides_iff _).mp collides

end Sys2Proof.Machine

/-! PROOFS of the statements on the cabinet's inputs: debouncers, switch, door and key (R31 to R39, R136, R138, R153). -/

namespace Sys2Proof.Machine

/-! ## Debouncers (R32, R33) -/

/-- A change is due once in a local microsecond, where the stability timer has reached its time (R32, R48). -/
theorem Debouncer.due_iff (d : Debouncer) (micros : Nat) : d.due micros = true ↔
    d.moved = false ∧ ∃ n, d.timer = some n ∧ micros ≤ n := by
  rw [Debouncer.due, Bool.and_eq_true, Timer.hasReached_iff, Bool.not_eq_true']

/-- No change is due where the debouncer has moved, or its timer has not reached its time. -/
theorem Debouncer.due_not {d : Debouncer} {micros : Nat}
    (no : d.moved = true ∨ ∀ n, d.timer = some n → n < micros) : d.due micros = false := by
  refine Bool.eq_false_iff.mpr fun due => ?_
  obtain ⟨still, n, started, reached⟩ := (d.due_iff micros).mp due
  rcases no with moved | early
  · rw [moved] at still; cases still
  · exact Nat.not_lt.mpr reached (early n started)

/-- The debouncer after its raw input goes to a level (R32, R33). -/
theorem Debouncer.rawTo_eq (d : Debouncer) (runs raw : Bool) : d.rawTo runs raw =
    ⟨raw, d.state, if runs = false ∨ raw = d.raw then d.timer else if raw = d.state then none else some 0, d.moved⟩ := by
  cases runs
  · rfl
  · by_cases same : raw = d.raw
    · simp only [Debouncer.rawTo, Debouncer.rawChanges, same, if_true]
      simp
    · simp [Debouncer.rawTo, Debouncer.rawChanges, same]

/-- A change that is not taken at once, as no debouncer runs or its time is not 0. -/
theorem State.atOnce_waits {s : State} {steps : Nat} {take : State → State} (waits : s.listening = false ∨ steps ≠ 0) :
    s.atOnce steps take = s := by
  rw [State.atOnce, if_neg]
  rcases waits with quiet | timed
  · simp [quiet]
  · simp [timed]

/-- A change that is taken at once, with d = 0 (R32, log 11). -/
theorem State.atOnce_takes {s : State} {steps : Nat} {take : State → State} (listens : s.listening = true) (now : steps = 0) :
    s.atOnce steps take = take s := by
  rw [State.atOnce, if_pos (by simp [listens, now])]

/-- A raw input whose change waits leaves its level and timer alone; one that is taken at once is its command (R32). -/
theorem rawInput_goes {s u : State} {input : RawInput} {steps : Nat} {moved : Bool} {take : State → State}
    (meaning : s.rawInput input = u.atOnce steps take) (same : u.listening = s.listening)
    (stays : moved = true → take u = u) {command : Instr} (commands : s.listening = true → occasion command u = true)
    (does : effect command u = take u) :
    (s.listening = false ∨ steps ≠ 0 ∨ moved = true → exec (.rawInputChange input) s = .next u) ∧
    (¬(s.listening = false ∨ steps ≠ 0 ∨ moved = true) → exec (.rawInputChange input) s = exec command u) := by
  have raw : exec (.rawInputChange input) s = .next (u.atOnce steps take) := by
    rw [exec_effect (i := .rawInputChange input) rfl, effect, meaning]
  rw [raw]
  refine ⟨fun waits => ?_, fun goes => ?_⟩
  · rcases waits with quiet | timed | moved
    · rw [State.atOnce_waits (.inl (same.trans quiet))]
    · rw [State.atOnce_waits (.inr timed)]
    · unfold State.atOnce
      split
      · rw [stays moved]
      · rfl
  · have listens : s.listening = true := by simpa using fun quiet => goes (.inl quiet)
    have now : steps = 0 := Decidable.of_not_not fun timed => goes (.inr (.inl timed))
    rw [exec_effect (commands listens), does, State.atOnce_takes (same.trans listens) now]

/-- Settles O35: each raw input, and each change that settles quietly. -/
theorem rawInputMovesStabilityTimer : Obligations.RawInputMovesStabilityTimer := by
  intro s goesTo sw door key infeed pitch confirm waits goes
  have raw (d : Debouncer) (runs level : Bool) : d.rawTo runs level = goesTo runs d level := Debouncer.rawTo_eq d runs level
  have done {d : Debouncer} (moved : d.moved = true) (runs level : Bool) (micros : Nat) :
      ¬(goesTo runs d level).due micros = true := Bool.eq_false_iff.mp (Debouncer.due_not (.inl moved))
  have quiet (u : State) (d : QuietInput) (command : Instr) (high : Bool) (take : State → State)
      (does : effect command u = take u) (settles : high = false → u.takeQuiet d = take u) :
      effect (if high then command else .debounceTimerExpiry d) u = take u := by
    cases high
    · exact settles rfl
    · exact does
  refine ⟨fun a b => ?_, fun high => and_assoc.mp ⟨?door, and_assoc.mp ⟨?key, and_assoc.mp ⟨?infeed, and_assoc.mp ⟨?pitch,
    and_assoc.mp ⟨?confirm, fun h inside => ?fault, fun listens => ?settles⟩⟩⟩⟩⟩⟩
  · refine rawInput_goes (s := s) (input := .switch a b) (u := sw a b) (take := State.takeSwitch)
      (command := .switchChannelChange) ?_ rfl (fun moved => ?_) id rfl
    · simp only [State.rawInput, raw]
      rfl
    · rw [Bool.and_eq_true] at moved
      refine if_neg ?_
      rw [Bool.or_eq_true]
      exact fun due => due.elim (done moved.1 _ _ _) (done moved.2 _ _ _)
  case door =>
    refine rawInput_goes (s := s) (input := .door high) (u := door high) (take := State.takeDoor) (command := .doorChange)
      ?_ rfl (fun moved => if_neg (done moved _ _ _)) id rfl
    simp only [State.rawInput, raw]
    rfl
  case key =>
    refine rawInput_goes (s := s) (input := .key high) (u := key high) (take := State.takeKey) (command := .keyChange)
      ?_ rfl (fun moved => if_neg (done moved _ _ _)) id rfl
    simp only [State.rawInput, raw]
    rfl
  case infeed =>
    refine rawInput_goes (s := s) (input := .infeed high) (u := infeed high) (take := State.takeInfeed)
      ?_ rfl (fun moved => if_neg (done moved _ _ _)) ?_ (quiet _ .infeed .capture high _ rfl fun low => ?_)
    · simp only [State.rawInput, raw]
      rfl
    · intro listens
      cases high
      · exact listens
      · exact Bool.and_eq_true_iff.mpr ⟨listens, rfl⟩
    · subst low; rfl
  case pitch =>
    refine rawInput_goes (s := s) (input := .pitch high) (u := pitch high) (take := State.takePitch)
      ?_ rfl (fun moved => if_neg (done moved _ _ _)) ?_ (quiet _ .pitch .pitch high _ rfl fun low => ?_)
    · simp only [State.rawInput, raw]
      rfl
    · intro listens
      cases high
      · exact listens
      · exact Bool.and_eq_true_iff.mpr ⟨listens, rfl⟩
    · subst low; rfl
  case confirm =>
    refine rawInput_goes (s := s) (input := .confirm high) (u := confirm high) (take := State.takeConfirm)
      ?_ rfl (fun moved => if_neg (done moved _ _ _)) ?_ (quiet _ .confirm .confirmEdge high _ rfl fun low => ?_)
    · simp only [State.rawInput, raw]
      rfl
    · intro listens
      cases high
      · exact listens
      · exact Bool.and_eq_true_iff.mpr ⟨listens, rfl⟩
    · subst low; rfl
  case fault =>
    refine (exec_effect (i := .rawInputChange (.driveFault h high)) rfl).trans (congrArg _ ?_)
    simp only [effect, State.rawInput, State.setHead, raw]
    rw [State.modify_head_eq_set s h _ inside]
    rfl
  case settles =>
    intro due
    have isDue {d : Debouncer} {steps : Nat} (yes : due d steps) : d.due (debounceMicros steps) = true ∧ d.raw = false ∧
        d.settle = ⟨false, false, none, true⟩ := by
      obtain ⟨low, still, n, started, reached⟩ := yes
      exact ⟨(d.due_iff _).mpr ⟨still, n, started, reached⟩, low, by rw [Debouncer.settle, low]⟩
    have notDue {d : Debouncer} {steps : Nat} (no : ¬due d steps) : d.raw = true ∨ d.due (debounceMicros steps) = false := by
      cases high : d.raw
      · exact .inr (Bool.eq_false_iff.mpr fun yes => no ⟨high, (d.due_iff _).mp yes⟩)
      · exact .inl rfl
    have does (d : QuietInput) : exec (.debounceTimerExpiry d) s = .next (s.takeQuiet d) :=
      exec_effect (i := .debounceTimerExpiry d) listens
    refine ⟨fun yes => ?_, fun no => ?_, fun yes => ?_, fun no => ?_, fun yes => ?_, fun no => ?_⟩
    all_goals rw [does]
    · obtain ⟨due, low, settled⟩ := isDue yes
      simp [State.takeQuiet, State.takeInfeed, due, low, settled]
    · rcases notDue no with h | h <;> simp [State.takeQuiet, State.takeInfeed, h]
    · obtain ⟨due, low, settled⟩ := isDue yes
      simp [State.takeQuiet, State.takePitch, due, low, settled]
    · rcases notDue no with h | h <;> simp [State.takeQuiet, State.takePitch, h]
    · obtain ⟨due, low, settled⟩ := isDue yes
      simp [State.takeQuiet, State.takeConfirm, due, low, settled]
    · rcases notDue no with h | h <;> simp [State.takeQuiet, State.takeConfirm, h]

/-! ## The switch (R34, R35) -/

/-- A timer that has reached a figure. -/
theorem Timer.hasReached_eq (timer : Timer) (figure : Nat) : timer.hasReached figure = timer.any fun n => figure ≤ n := by
  cases timer <;> rfl

/-- A move of the switch, announced where the state changes, with run permission following (R34, R39, R44). -/
theorem State.moveSwitch_eq (s : State) (next : SwitchState) (discrepancy : Timer) : s.moveSwitch next discrepancy =
    if next = s.cabinet.switch then
      { s with cabinet := { s.cabinet with switch := next, discrepancy := discrepancy } }
    else ({ s with cabinet := { s.cabinet with switch := next, discrepancy := discrepancy } } : State).announce.followConditions :=
  rfl

/-- The next switch state, as the table of R34 lists it. -/
theorem nextSwitch_eq (switch : SwitchState) (a b : Bool) : nextSwitch switch a b = match switch, a, b with
    | _, false, false => .off
    | .fault, _, _ => .fault
    | _, true, true => .on
    | _, _, _ => .transit := by
  cases switch <;> cases a <;> cases b <;> rfl

/-- A debouncer settles where its change is due (R32). -/
theorem Debouncer.settleIfDue_eq (d : Debouncer) (steps : Nat) : d.settleIfDue (debounceMicros steps) =
    if (!d.moved && d.timer.any fun n => steps * 100 ≤ n) = true then ⟨d.raw, d.raw, none, true⟩ else d := by
  rw [Debouncer.settleIfDue, Debouncer.due, Timer.hasReached_eq]
  rfl

/-- The switch has been in TRANSIT for the discrepancy time (R35). -/
theorem State.discrepancyDue_iff (s : State) : s.discrepancyDue = true ↔ (s.listening = true ∧ s.cabinet.switch = .transit) ∧
    ∃ n, s.cabinet.discrepancy = some n ∧ s.cfg.hall.discrepancyMs * 1000 ≤ n := by
  rw [State.discrepancyDue, Bool.and_eq_true, Bool.and_eq_true, Timer.hasReached_iff, decide_eq_true_iff]

/-- Settles O36: the switch by the tables of R34 and R35. -/
theorem switchFollowsTable : Obligations.SwitchFollowsTable := by
  intro s listens d due settled a b next moved
  have isDue (x : Debouncer) : x.due s.switchDebounce = due x := by
    rw [Debouncer.due, Timer.hasReached_eq]
    rfl
  have settles (x : Debouncer) : x.settleIfDue s.switchDebounce = settled x := Debouncer.settleIfDue_eq x _
  have does : exec .switchChannelChange s = .next s.takeSwitch := exec_effect (i := .switchChannelChange) listens
  refine ⟨fun some_ => ?_, fun none => ?_, fun no => ?_, fun n transit started reached => ?_⟩
  · rw [does, State.takeSwitch, isDue, isDue, if_pos some_, settles, settles, State.pairChanges,
      State.moveSwitch_eq]
    simp only [nextSwitch_eq]
    rfl
  · rw [does, State.takeSwitch, isDue, isDue, if_neg (Bool.eq_false_iff.mp none)]
  · refine exec_idle (i := .discrepancy) (Bool.eq_false_iff.mpr fun yes => ?_)
    obtain ⟨⟨-, transit⟩, n, started, reached⟩ := (State.discrepancyDue_iff s).mp yes
    rcases no with other | early
    · exact other transit
    · exact Nat.not_lt.mpr reached (early n started)
  · have stands := (State.discrepancyDue_iff s).mpr ⟨⟨listens, transit⟩, n, started, reached⟩
    refine (exec_effect (i := .discrepancy) stands).trans (congrArg _ ?_)
    simp only [effect]
    rw [State.moveSwitch_eq, if_neg (by simp [transit])]
    rfl

/-! ## The door and the key (R37, R136, R138, R153) -/

/-- A door that has opened is judged by the DOOR grants (R153). -/
theorem State.judgeDoorOpen_eq (s : State) : s.judgeDoorOpen =
    if ∃ g ∈ s.access.grants, g.level = .door then s
    else (if s.cfg.intrusionLocks then s.enterHeld 0 else s).occur .intrusion
      (lockCode ((if s.cfg.intrusionLocks then s.enterHeld 0 else s).access.lockMode.getD .free)) := by
  have lawful : (s.access.grants.any fun g => g.level = .door) = true ↔ ∃ g ∈ s.access.grants, g.level = .door := by
    simp
  simp only [State.judgeDoorOpen, lawful, State.lock]

/-- The Access Unit but for what its grants have sent: what doses that end leave of it. -/
def Access.unsent (a : Access) : Access := { a with grants := a.grants.map fun g => { g with readySent := false } }

/-- Ready-sent marks do not show in the Access Unit without them. -/
theorem State.setGrant_unsent (s : State) (n : Nat) (b : Bool) :
    (s.setGrant n fun g => { g with readySent := b }).access.unsent = s.access.unsent := by
  simp only [State.setGrant, Access.unsent, List.map_map]
  congr 1
  refine List.map_congr_left fun g _ => ?_
  simp only [Function.comp]
  split <;> rfl

/-- The readiness test leaves the Access Unit but for ready-sent (R146). -/
theorem State.testReady_unsent (s : State) (h : Nat) : (s.testReady h).access.unsent = s.access.unsent := by
  unfold State.testReady
  repeat' split
  · rfl
  · rw [(State.reply_frame _ _ _).2.2.2.2.2.2.2.2.2.1, State.setGrant_unsent]
  · rfl

/-- The end of a dose leaves the Access Unit but for ready-sent (R94). -/
theorem State.endDose_unsent (s : State) (h : Nat) (result : FillResult) (meter : Nat) :
    (s.endDose h result meter).access.unsent = s.access.unsent := by
  unfold State.endDose
  split
  · rfl
  · simp only
    split
    · rw [State.testReady_unsent]; simp
    · simp

/-- A fall of run permission at a head leaves the Access Unit but for ready-sent (R89, R97). -/
theorem State.permissionLost_unsent (s : State) (h : Nat) : (s.permissionLost h).access.unsent = s.access.unsent := by
  unfold State.permissionLost State.suspend
  repeat' split
  · rfl
  · rw [State.endDose_unsent]; simp
  · simp
  · simp

/-- Run permission following leaves the Access Unit but for ready-sent (R44). -/
theorem State.followConditions_unsent (s : State) : s.followConditions.access.unsent = s.access.unsent :=
  State.followConditions_keeps (·.access.unsent) State.permissionLost_unsent (by simp) (by simp) (fun _ _ _ => rfl) s

/-- Run permission following leaves the Loader but for the run lamp (R45). -/
theorem State.followConditions_loader (s : State) :
    s.followConditions.loader = { s.loader with runLamp := s.followConditions.loader.runLamp } := by
  unfold State.followConditions
  repeat' split
  · rfl
  · rw [State.permissionRises_eq]; simp
  · rfl
  · rw [(State.permissionFalls_rest s).2]
  · rfl

/-- Run permission following leaves the configuration. -/
@[simp] theorem State.followConditions_cfg (s : State) : s.followConditions.cfg = s.cfg :=
  State.cfg_congr (by rw [State.followConditions_loader])

/-- A DOOR grant stands where one stands but for what the grants have sent. -/
theorem Access.unsent_level {a b : Access} (same : a.unsent = b.unsent) (level : Level) :
    (∃ g ∈ a.grants, g.level = level) ↔ ∃ g ∈ b.grants, g.level = level := by
  have reads (c : Access) : (∃ g ∈ c.grants, g.level = level) ↔ level ∈ c.unsent.grants.map Grant.level := by
    simp [Access.unsent, eq_comm]
  rw [reads, reads, same]

/-- Settles O38: the door and the key take their raw states. -/
theorem doorAndKeyChangesAct : Obligations.DoorAndKeyChangesAct := by
  refine ⟨fun s => ⟨fun no => ?_, fun no => ?_⟩, fun s n listens => ⟨fun still started reached => ?_, fun still started reached =>
    ?_⟩⟩
  · cases listens : s.listening
    · exact exec_idle (i := .doorChange) listens
    · refine (exec_effect (i := .doorChange) listens).trans (congrArg _ ?_)
      exact if_neg (Bool.eq_false_iff.mp (Debouncer.due_not no))
  · cases listens : s.listening
    · exact exec_idle (i := .keyChange) listens
    · refine (exec_effect (i := .keyChange) listens).trans (congrArg _ ?_)
      exact if_neg (Bool.eq_false_iff.mp (Debouncer.due_not no))
  · intro raw moved judged
    have due : s.cabinet.door.due (debounceMicros s.cfg.hall.doorDebounce) = true :=
      (Debouncer.due_iff _ _).mpr ⟨still, n, started, reached⟩
    have doors : (∃ g ∈ moved.access.grants, g.level = .door) ↔ ∃ g ∈ s.access.grants, g.level = .door :=
      Access.unsent_level ((State.followConditions_unsent _).trans (by simp)) .door
    have cfg : moved.cfg = s.cfg := (State.followConditions_cfg _).trans (State.cfg_congr (by simp))
    refine (exec_effect (i := .doorChange) listens).trans (congrArg _ ((if_pos due).trans ?_))
    change (if raw = true then moved else moved.judgeDoorOpen) = _
    simp only [State.judgeDoorOpen_eq, doors, cfg]
    by_cases closed : raw = true
    · rw [if_pos closed, if_pos (.inl closed)]
    · rw [if_neg closed]
      by_cases lawful : ∃ g ∈ s.access.grants, g.level = .door
      · rw [if_pos lawful, if_pos (.inr lawful)]
      · rw [if_neg lawful, if_neg (not_or.mpr ⟨closed, lawful⟩)]
  · intro raw moved
    have due : s.cabinet.key.due (debounceMicros s.cfg.hall.keyDebounce) = true :=
      (Debouncer.due_iff _ _).mpr ⟨still, n, started, reached⟩
    refine (exec_effect (i := .keyChange) listens).trans (congrArg _ ((if_pos due).trans ?_))
    have grants : moved.access.grants = s.access.grants := by simp [moved]
    change (if (!raw && s.access.lockMode = some .keyed) = true then moved.endAllGrants .keyOff else moved) = _
    rw [State.endAllGrants, grants]
    simp

end Sys2Proof.Machine

/-! PROOFS of the statement on queries: the ANS, the counters it clears and the layout of the eight tables (R180 to R185, R203). -/

namespace Sys2Proof.Machine

/-! ## Lists of entries -/

/-- Each item with its index. -/
theorem withIndex_eq_mapIdx {α β : Type} (f : Nat → α → β) (items : List α) : withIndex f items = items.mapIdx f := by
  refine List.ext_getElem (by simp [withIndex]) fun i _ _ => ?_
  simp [withIndex]

/-- Items of one width, flattened. -/
theorem length_flatMap_width {α : Type} (indices : List α) (f : α → List Byte) (width : Nat)
    (each : ∀ i ∈ indices, (f i).length = width) : (indices.flatMap f).length = indices.length * width := by
  induction indices with
  | nil => simp
  | cons i rest ih =>
    rw [List.flatMap_cons, List.length_append, each i (by simp), ih fun j hj => each j (List.mem_cons_of_mem _ hj),
      List.length_cons]
    ring

/-- Setting the items at some places to 0 in turn. -/
theorem foldl_set_zero (places counters : List Nat) : places.foldl (fun cs i => cs.set i 0) counters =
    counters.mapIdx fun i c => if i ∈ places then 0 else c := by
  induction places generalizing counters with
  | nil => exact (List.ext_getElem (by simp) fun i _ _ => by simp)
  | cons p places ih =>
    rw [List.foldl_cons, ih]
    refine List.ext_getElem (by simp) fun i _ _ => ?_
    simp only [List.getElem_mapIdx, List.getElem_set, List.mem_cons]
    by_cases same : p = i
    · simp [same]
    · simp [same, Ne.symm same]

/-! ## The layouts (R203) -/

/-- A bit by its weight. -/
def bitWeight (b : Bool) (weight : Nat) : Nat := if b then weight else 0

/-- A byte of up to eight bits is the sum of their weights. -/
theorem bitsByte_cons (b : Bool) (rest : List Bool) : bitsByte (b :: rest) = bitWeight b 1 + 2 * bitsByte rest := by
  cases b <;> rfl

/-- A PEERS entry has 13 bytes. -/
theorem peerEntry_length (address : Nat) (p : Peer) : (peerEntry address p).length = 13 := by
  unfold peerEntry
  split
  · simp
  · cases p.report <;> simp [timeBytes]

/-- A record image has 25 bytes. -/
theorem recordImage_length (r : Record) : (recordImage r).length = 25 := by
  simp only [recordImage, List.length_append, bytesOf_length, timeBytes, verdictPair, List.length_cons, List.length_nil]
  cases r.origin <;> simp [originBytes]

/-- An ARRIVALS entry has 25 bytes. -/
theorem arrivalEntry_length (a : Arrival) : (arrivalEntry a).length = 25 := by
  simp [arrivalEntry, timeBytes]

/-- A grant entry has 17 bytes. -/
theorem grantEntry_length (g : Grant) : (grantEntry g).length = 17 := by
  simp [grantEntry, timeBytes]

/-- The Access Unit's entry has 17 bytes. -/
theorem State.accessEntry_length (s : State) : s.accessEntry.length = 17 := rfl

/-- A HEADS entry has 16 bytes. -/
theorem headEntry_length (i : Nat) (h : Head) : (headEntry i h).length = 16 := by
  unfold headEntry
  cases h.hand <;> cases h.jog <;> simp

/-- A pending entry has 8 bytes. -/
theorem pendingEntry_length (p : Port) (e : PendingTrigger) : (pendingEntry p e).length = 8 := by
  simp [pendingEntry]

/-- A LATCHES entry has 10 bytes. -/
theorem latchEntry_length (source : Nat) (l : Latch) : (latchEntry source l).length = 10 := by
  simp [latchEntry, optTimeBytes, timeBytes]

/-- Entries made of indexed items of one width have that width. -/
theorem mem_mapIdx_width {α : Type} {f : Nat → α → List Byte} {width : Nat} (each : ∀ i x, (f i x).length = width)
    (items : List α) : ∀ e ∈ items.mapIdx f, e.length = width := by
  intro e listed
  obtain ⟨i, _, rfl⟩ := List.mem_mapIdx.mp listed
  exact each _ _

/-- The width of an entry of each table, in bytes (R203). -/
def entryWidth (table : Nat) : Nat := [13, 25, 25, 17, 16, 8, 2, 10].getD table 0

/-- The entries of a table have one width (R203). -/
theorem tableEntries_width {s : State} {table : Byte} {entries : List (List Byte)} (found : s.tableEntries table = some entries) :
    ∀ e ∈ entries, e.length = entryWidth table.toNat := by
  unfold State.tableEntries at found
  split at found <;> cases found
  all_goals
    rename_i code
    simp only [code, entryWidth, withIndex_eq_mapIdx]
  case h_1 => exact mem_mapIdx_width (fun i p => peerEntry_length (i + 1) p) _
  case h_2 => simp [recordImage_length]
  case h_3 => simp [arrivalEntry_length]
  case h_4 => simp [State.accessEntry_length, grantEntry_length]
  case h_5 => exact mem_mapIdx_width headEntry_length _
  case h_6 =>
    intro e listed
    simp only [List.mem_cons, List.mem_append, List.mem_map] at listed
    rcases listed with rfl | rfl | ⟨t, _, rfl⟩ | ⟨t, _, rfl⟩
    · rfl
    · rfl
    · exact pendingEntry_length ..
    · exact pendingEntry_length ..
  case h_7 => simp
  case h_8 => exact mem_mapIdx_width latchEntry_length _

/-- Whole entries of one ANS fit in 52 bytes (R181). -/
theorem entriesPerAns_fits (table : Byte) : entriesPerAns table * entryWidth table.toNat ≤ 52 := by
  revert table; decide

/-- Whole entries of one ANS, by table code (R181). -/
theorem entriesPerAns_eq {table : Byte} (known : table.toNat ≤ 7) :
    entriesPerAns table = [4, 2, 2, 3, 3, 6, 26, 5].getD table.toNat 0 := by
  revert table; decide

/-- The eight tables and no other have entries (R181). -/
theorem tableEntries_isSome (s : State) (table : Byte) : (s.tableEntries table).isSome = true ↔ table.toNat ≤ 7 := by
  unfold State.tableEntries
  split
  all_goals
    rename_i code
    simp_all
  omega

/-- The payload of an ANS has at most 56 bytes (R182). -/
theorem ansPayload_fits {s : State} {table : Byte} {entries : List (List Byte)} (found : s.tableEntries table = some entries)
    (start count : Byte) : (ansPayload table start count entries).length ≤ 56 := by
  have width := tableEntries_width found
  have inside : ∀ i ∈ carriedIndices start.toNat count.toNat entries.length (entriesPerAns table),
      (entries.getD i []).length = entryWidth table.toNat := by
    intro i listed
    obtain ⟨j, below, rfl⟩ := List.mem_map.mp listed
    have some_ : 0 < entries.length := by
      have := List.mem_range.mp below
      simp only [entriesCarried] at this
      omega
    have place := Nat.mod_lt (startUsed start.toNat entries.length + j) some_
    rw [List.getD_eq_getElem?_getD, List.getElem?_eq_getElem place, Option.getD_some]
    exact width _ (List.getElem_mem place)
  have carried : (carriedIndices start.toNat count.toNat entries.length (entriesPerAns table)).length ≤ entriesPerAns table := by
    simp only [carriedIndices, List.length_map, List.length_range, entriesCarried]
    omega
  have fits := entriesPerAns_fits table
  simp only [ansPayload, List.length_append, List.length_cons, List.length_nil, length_flatMap_width _ _ _ inside]
  have := Nat.mul_le_mul_right (entryWidth table.toNat) carried
  omega

/-- No bits. -/
theorem bitsByte_nil : bitsByte [] = 0 := rfl

/-- A weight is that many times the bit. -/
theorem bitWeight_scale (b : Bool) (weight : Nat) : bitWeight b weight = weight * bitWeight b 1 := by
  cases b <;> simp [bitWeight]

/-- Bits by their weights, bit 0 first. -/
theorem weights_of_bits (a b c d e f g h : Bool) :
    bitsByte [a, b] = bitWeight a 1 + bitWeight b 2 ∧
    bitsByte [a, b, c] = bitWeight a 1 + bitWeight b 2 + bitWeight c 4 ∧
    bitsByte [a, b, c, d] = bitWeight a 1 + bitWeight b 2 + bitWeight c 4 + bitWeight d 8 ∧
    bitsByte [a, b, c, d, e, f, g] = bitWeight a 1 + bitWeight b 2 + bitWeight c 4 + bitWeight d 8 + bitWeight e 16 +
      bitWeight f 32 + bitWeight g 64 ∧
    bitsByte [a, b, c, d, e, f, g, h] = bitWeight a 1 + bitWeight b 2 + bitWeight c 4 + bitWeight d 8 + bitWeight e 16 +
      bitWeight f 32 + bitWeight g 64 + bitWeight h 128 := by
  simp only [bitsByte_cons, bitWeight_scale _ 2, bitWeight_scale _ 4, bitWeight_scale _ 8, bitWeight_scale _ 16,
    bitWeight_scale _ 32, bitWeight_scale _ 64, bitWeight_scale _ 128, bitsByte_nil]
  omega

/-- A reasons byte by its bits (R52, R199). -/
theorem reasonsByte_eq (r : Reasons) : reasonsByte r = byte (bitWeight r.fill 1 + bitWeight r.skipped 2 +
    bitWeight r.verdictA 4 + bitWeight r.verdictB 8 + bitWeight r.noVerdict 16 + bitWeight r.unlit 32 +
    bitWeight r.unknownOrigin 64 + bitWeight r.upstream 128) := by
  rw [reasonsByte, (weights_of_bits ..).2.2.2.2]

/-- A PEERS entry, field by field (R203, log 16). -/
theorem peerEntry_eq (i : Nat) (p : Peer) : peerEntry (i + 1) p =
    if p.presence = .ownEntry then [0, 3] ++ List.replicate 11 0 else
      [byte (i + 1), presenceCode p.presence, byte p.silence, byte (bitWeight p.heard 1 + bitWeight p.inRound 2 +
        bitWeight p.counted 4 + bitWeight p.dependent 8 + bitWeight p.offset.isSome 16 + bitWeight p.quality.isSome 32 +
        bitWeight p.report.isSome 64)] ++
      bytesOf 6 (BitVec.ofInt 48 (p.offset.getD 0)).toNat ++ [(p.quality.map qualityCode).getD 0,
        (p.report.map fun r => switchCode r.switch).getD 0,
        (p.report.map fun r => byte (bitWeight r.door 1 + bitWeight r.key 2 + bitWeight r.permission 4)).getD 0] := by
  unfold peerEntry
  split
  · rfl
  · rw [(weights_of_bits p.heard p.inRound p.counted p.dependent p.offset.isSome p.quality.isSome p.report.isSome true).2.2.2.1]
    have quality : qualityCode (p.quality.getD .free) = (p.quality.map qualityCode).getD 0 := by
      cases p.quality <;> rfl
    rw [quality]
    cases p.report with
    | none => simp [timeBytes, signedTime]
    | some r =>
      simp [timeBytes, signedTime, (weights_of_bits r.door r.key r.permission true true true true true).2.1]

/-- A record image, field by field (R203). -/
theorem recordImage_eq (r : Record) : recordImage r =
    bytesOf 4 r.sequence.toNat ++ bytesOf 6 r.capture.toNat ++
      (match r.origin with
        | .localOrigin => [0, 0, 0, 0, 0]
        | .handed address sequence => byte address :: bytesOf 4 sequence.toNat) ++
      [byte (16 * ((r.fill.map fun f => (fillCode f.result, f.meter)).getD (0, 0)).1.toNat +
        if 12 < ((r.upstreamFill.map fun f : CarriedFill => (f.code, f.meter.toNat)).getD (0, 0)).1.toNat then 15
        else ((r.upstreamFill.map fun f : CarriedFill => (f.code, f.meter.toNat)).getD (0, 0)).1.toNat)] ++
      bytesOf 2 ((r.fill.map fun f => (fillCode f.result, f.meter)).getD (0, 0)).2 ++
      bytesOf 2 ((r.upstreamFill.map fun f : CarriedFill => (f.code, f.meter.toNat)).getD (0, 0)).2 ++
      [byte (r.head.getD 15 % 16 + bitWeight r.unlitA 16 + bitWeight r.unlitB 32 + bitWeight r.upstreamReject 64 +
        bitWeight r.trusted 128)] ++
      [byte (16 * verdictCode r.verdictA + verdictCode r.verdictB), verdictFail r.verdictA, verdictFail r.verdictB,
        byte (bitWeight r.reasons.fill 1 + bitWeight r.reasons.skipped 2 +
    bitWeight r.reasons.verdictA 4 + bitWeight r.reasons.verdictB 8 + bitWeight r.reasons.noVerdict 16 + bitWeight r.reasons.unlit 32 +
    bitWeight r.reasons.unknownOrigin 64 + bitWeight r.reasons.upstream 128)] := by
  have flags : recordFlags r = byte (r.head.getD 15 % 16 + bitWeight r.unlitA 16 + bitWeight r.unlitB 32 +
      bitWeight r.upstreamReject 64 + bitWeight r.trusted 128) := by
    rw [recordFlags, (weights_of_bits r.unlitA r.unlitB r.upstreamReject r.trusted true true true true).2.2.1]
    congr 1
    simp only [bitWeight_scale _ 2, bitWeight_scale _ 4, bitWeight_scale _ 8, bitWeight_scale _ 16, bitWeight_scale _ 32,
      bitWeight_scale _ 64, bitWeight_scale _ 128]
    omega
  have origin : originBytes r.origin = match r.origin with
      | .localOrigin => [0, 0, 0, 0, 0]
      | .handed address sequence => byte address :: bytesOf 4 sequence.toNat := by
    cases r.origin <;> rfl
  rw [recordImage, flags, origin, reasonsByte_eq]
  cases r.fill <;> cases r.upstreamFill <;>
    simp [ownFillCode, ownFillMeter, upstreamNibble, carriedMeter, timeBytes, verdictPair]

/-- An ARRIVALS entry, field by field (R203). -/
theorem arrivalEntry_eq (a : Arrival) : arrivalEntry a = [byte a.address] ++ bytesOf 4 a.sequence.toNat ++
      [(a.fill.map CarriedFill.code).getD 0] ++ bytesOf 2 ((a.fill.map fun f => f.meter.toNat).getD 0) ++
      [byte (16 * a.verdictA.code.toNat + a.verdictB.code.toNat), a.verdictA.failCode, a.verdictB.failCode, a.reasons,
        byte (bitWeight a.rejectPending 1 + bitWeight a.trusted 2)] ++ bytesOf 6 a.windowStart.toNat ++
      bytesOf 6 a.windowEnd.toNat := by
  rw [arrivalEntry, (weights_of_bits a.rejectPending a.trusted true true true true true true).1]
  cases a.fill <;> simp [carriedCode, carriedMeter, pairByte, timeBytes]

/-- A HEADS entry, field by field (R99, R203). -/
theorem headEntry_eq (i : Nat) (h : Head) : headEntry i h = [byte i, productionCode h.production, doseCode h.dose] ++
      bytesOf 4 ((h.hand.map fun d => d.sequence.toNat).getD 0) ++ bytesOf 2 ((h.hand.map DoseInHand.emitted).getD 0) ++
      bytesOf 2 ((h.hand.map DoseInHand.meter).getD 0) ++
      [byte (bitWeight h.jog.isSome 1 + bitWeight h.fault.state 2 + bitWeight h.readySample 4)] ++
      bytesOf 2 ((h.jog.map JogInHand.emitted).getD 0) ++ bytesOf 2 ((h.jog.map JogInHand.meter).getD 0) := by
  rw [headEntry, (weights_of_bits h.jog.isSome h.fault.state h.readySample true true true true true).2.1]
  cases h.hand <;> cases h.jog <;> simp <;> rfl

/-- A LATCHES entry, field by field (R185, R203). -/
theorem latchEntry_eq (i : Nat) (l : Latch) : latchEntry i l =
    [byte i, byte (l.cls % 4 + bitWeight l.pending 4 + bitWeight l.blocked 8), byte l.content.count] ++
      bytesOf 6 (l.content.first.getD 0).toNat ++ [l.content.detail.getD 0] := by
  have flags : l.cls % 4 + 4 * bitsByte [l.pending, l.blocked] = l.cls % 4 + bitWeight l.pending 4 + bitWeight l.blocked 8 := by
    rw [(weights_of_bits l.pending l.blocked true true true true true true).1, bitWeight_scale _ 2, bitWeight_scale _ 4,
      bitWeight_scale _ 8]
    omega
  rw [latchEntry, flags]
  rfl

/-- A flag byte by its bit. -/
theorem flagByte_eq (b : Bool) : flagByte b = byte (bitWeight b 1) := by
  cases b <;> rfl

/-- A grant entry, field by field (R203). -/
theorem grantEntry_eq (g : Grant) : grantEntry g = [byte g.number, byte g.holder, levelCode g.level, g.heads] ++
    bytesOf 6 g.grantedAt.toNat ++ bytesOf 6 g.expiresAt.toNat ++ [byte (bitWeight g.readySent 1)] := by
  rw [grantEntry, flagByte_eq]
  rfl

/-- The Access Unit's entry, field by field (R158, R203). -/
theorem State.accessEntry_eq (s : State) : s.accessEntry = [lockCode (s.access.lockMode.getD .free),
    byte (bitWeight s.access.heldLock 1), byte (bitWeight s.cabinet.key.state 1), byte s.access.nextGrant,
    byte s.access.grants.length] ++ List.replicate 12 0 := by
  rw [State.accessEntry, flagByte_eq, flagByte_eq]
  rfl

/-- The entry of port A, field by field (R119, R203). -/
theorem portEntry_a (enabled : Bool) (c : CameraPort) : portEntry .a enabled c =
    [0, byte (bitWeight enabled 1), c.tag, byte c.pending.length, assemblerCode c.assembler, byte (bitWeight c.busy 1),
      byte 0, 0] := by
  rw [portEntry, flagByte_eq, flagByte_eq]
  rfl

/-- The entry of port B, field by field (R119, R203). -/
theorem portEntry_b (enabled : Bool) (c : CameraPort) : portEntry .b enabled c =
    [1, byte (bitWeight enabled 1), c.tag, byte c.pending.length, assemblerCode c.assembler, byte (bitWeight c.busy 1),
      byte c.pattern, 0] := by
  rw [portEntry, flagByte_eq, flagByte_eq]
  rfl

/-- Settles O26: the answer of a query, the layouts of the tables and their codes. -/
theorem queryIsAnswered : Obligations.QueryIsAnswered := by
  refine ⟨fun s dest src table start count clear owns => ?answered, fun s => ?layouts,
    rfl, rfl, rfl, rfl, rfl, fun code => ⟨rfl, rfl⟩, rfl, rfl, rfl, fun tag verdict => rfl⟩
  case answered =>
    intro u
    have meaning : exec (.qry dest src table start count clear) s = .next (u.query src table start count clear) :=
      exec_owned owns rfl rfl
    refine ⟨fun unknown => ?_, fun known => ?_⟩
    · have none : u.tableEntries table = Option.none := by
        have := mt (tableEntries_isSome u table).mp (by omega)
        simpa using this
      rw [meaning, State.query, none]
      rfl
    · obtain ⟨entries, found⟩ := Option.isSome_iff_exists.mp ((tableEntries_isSome u table).mpr known)
      refine ⟨entries, found, ?_⟩
      intro n first most carried payload v
      have indices : carriedIndices start.toNat count.toNat entries.length (entriesPerAns table) = carried := by
        rw [entriesPerAns_eq known]
        rfl
      have payload_eq : ansPayload table start count entries = payload := by
        rw [ansPayload, indices]
        rfl
      refine ⟨payload_eq ▸ ansPayload_fits found start count, ?_⟩
      have queue : u.line.queue = s.line.queue := by rw [(State.takenFrom_frame s src).2.2.2.2.2.2.2.2.2.2.1]
      have clears : u.clears table clear = true ↔ table = 6 ∧ clear ≠ 0 ∧ s.line.queue.length < 16 := by
        simp only [State.clears, Bool.and_eq_true, decide_eq_true_eq, bne_iff_ne, State.queueHasRoom_iff, queue, and_assoc]
      rw [meaning, State.query, found]
      simp only [State.answer, clears, payload_eq, indices, State.clearCounters, foldl_set_zero]
      rfl
  case layouts =>
    intro bit flag reasons peer record arrival grant head port waiting latch
    have tables : s.tableEntries 0 = some (withIndex (fun i p => peerEntry (i + 1) p) s.peers) ∧
        s.tableEntries 4 = some (withIndex headEntry (s.heads.take s.cfg.track.heads)) ∧
        s.tableEntries 7 = some (withIndex latchEntry s.latches) := ⟨rfl, rfl, rfl⟩
    obtain ⟨peers, heads, latches⟩ := tables
    rw [peers, heads, latches]
    simp only [withIndex_eq_mapIdx]
    refine ⟨congrArg (fun f => some (s.peers.mapIdx f)) (funext₂ peerEntry_eq),
      congrArg (fun f => some (s.tracking.records.map f)) (funext recordImage_eq),
      congrArg (fun f => some (s.tracking.arrivals.map f)) (funext arrivalEntry_eq),
      congrArg₂ (fun e f => some (e :: s.access.grants.map f)) (State.accessEntry_eq s) (funext grantEntry_eq),
      congrArg (fun f => some ((s.heads.take s.cfg.track.heads).mapIdx f)) (funext₂ headEntry_eq),
      congrArg₂ (fun a b => some (a :: b :: (s.portA.pending.map (pendingEntry .a) ++ s.portB.pending.map (pendingEntry .b))))
        (portEntry_a s.cfg.cameraA.enabled s.portA) (portEntry_b s.cfg.cameraB.enabled s.portB), rfl,
      congrArg (fun f => some (s.latches.mapIdx f)) (funext₂ latchEntry_eq)⟩

end Sys2Proof.Machine

/-! PROOFS of the statements on captures, arrivals and decides (R48 to R73, R129 to R133). -/

namespace Sys2Proof.Machine

/-! ## Matching a capture (R64 to R67) -/

/-- An arrival has passed where it is trusted and its window has ended (R64, R65). -/
theorem Arrival.passed_iff (a : Arrival) (capture : Time) : a.passed capture = true ↔
    a.trusted = true ∧ before a.windowEnd capture = true := by
  simp [Arrival.passed]

/-- The passed entries at the head of the Arrival List leave (R65 step 1). -/
theorem State.clearPassed_append {s : State} {capture : Time} {lost rest : List Arrival} (list : s.tracking.arrivals = lost ++ rest)
    (passed : ∀ a ∈ lost, a.passed capture = true) (stays : ∀ a ∈ rest.head?, a.passed capture = false) :
    s.clearPassed capture = { lost.foldl State.latchLost s with
      tracking := { (lost.foldl State.latchLost s).tracking with arrivals := rest } } := by
  have taken : rest.takeWhile (fun a => a.passed capture) = [] ∧ rest.dropWhile (fun a => a.passed capture) = rest := by
    cases rest with
    | nil => exact ⟨rfl, rfl⟩
    | cons a tail =>
      have head := stays a (by simp)
      exact ⟨by simp [head], by simp [head]⟩
  simp only [State.clearPassed, list, List.takeWhile_append_of_pos passed, List.dropWhile_append_of_pos passed, taken.1, taken.2,
    List.append_nil]

/-- Latching lost arrivals leaves the Tracking Unit. -/
theorem State.foldl_latchLost_tracking (s : State) (lost : List Arrival) : (lost.foldl State.latchLost s).tracking = s.tracking :=
  foldl_keeps State.tracking _ (fun u a => by simp [State.latchLost]) lost s

/-- Arrival matching changes nothing of the Tracking Unit but the Arrival List (R65). -/
theorem State.matchArrival_tracking (s : State) (capture : Time) : (s.matchArrival capture).2.tracking =
    { s.tracking with arrivals := (s.matchArrival capture).2.tracking.arrivals } := by
  have cleared : (s.clearPassed capture).tracking =
      { s.tracking with arrivals := (s.clearPassed capture).tracking.arrivals } := by
    simp only [State.clearPassed, State.foldl_latchLost_tracking]
  unfold State.matchArrival
  split
  · rfl
  · simp only
    split
    · simp [← cleared]
    · split
      · simp only [State.count_tracking]
        rw [cleared]
      · simp [← cleared]

/-- Settles O40: the matching of a capture, and the entry that leaves as lost. -/
theorem captureMatchesHeadArrival : Obligations.CaptureMatchesHeadArrival := by
  intro s keepsTime isLost lose listed
  have isPassed (capture : Time) (a : Arrival) : a.passed capture = true ↔ isLost capture a := Arrival.passed_iff a capture
  refine ⟨fun capture none => ?_, fun capture lost rest upstream list leaves stays => ?_, fun position no => ?_,
    fun older newer a runs list => ⟨fun passed => ?_, fun notYet => ?_⟩⟩
  · exact if_pos none
  · intro u missed
    have cleared : s.clearPassed capture = listed u rest :=
      State.clearPassed_append list (fun a ha => (isPassed capture a).mpr (leaves a ha))
        fun a ha => Bool.eq_false_iff.mpr (mt (isPassed capture a).mp (stays a ha))
    have arrivals : (listed u rest).tracking.arrivals = rest := rfl
    have match_eq : s.matchArrival capture = match rest with
        | [] => (s.localMatch, (listed u rest).count .unknownArrivals)
        | a :: tail => if a.matchesCapture capture then (a.matched, (listed u tail).count .arrivalsMatched)
          else (s.localMatch, (listed u rest).count .unknownArrivals) := by
      rw [State.matchArrival, if_neg upstream]
      simp only [cleared, arrivals]
      cases rest <;> rfl
    refine ⟨fun empty => ?_, fun a tail cons => ⟨fun trusted early => ?_, fun fits => ?_⟩⟩
    · subst empty; exact match_eq
    · subst cons
      have no : a.matchesCapture capture = false := by simp [Arrival.matchesCapture, trusted, early]
      exact match_eq.trans (if_neg (by simp [no]))
    · subst cons
      have notLost : a.trusted = true → before a.windowEnd capture = false := by
        simpa [isLost] using stays a (by simp)
      have yes : a.matchesCapture capture = true := by
        rcases fits with untrusted | inWindow
        · simp [Arrival.matchesCapture, untrusted]
        · cases trusted : a.trusted
          · simp [Arrival.matchesCapture, trusted]
          · simp [Arrival.matchesCapture, inWindow, notLost trusted]
      exact match_eq.trans (if_pos yes)
  · cases runs : s.running
    · exact exec_idle (i := .arrivalLost position) runs
    · refine (exec_effect (i := .arrivalLost position) runs).trans (congrArg _ ?_)
      have none : s.tracking.arrivals[position]? = Option.none := by
        rcases no with quiet | beyond
        · rw [runs] at quiet; cases quiet
        · exact List.getElem?_eq_none beyond
      simp only [effect, State.loseArrival, none]
  all_goals
    refine (exec_effect (i := .arrivalLost older.length) runs).trans (congrArg _ ?_)
    have here : s.tracking.arrivals[older.length]? = some a := by simp [list]
    simp only [effect, State.loseArrival, here]
  · rw [if_pos ((isPassed s.now a).mpr passed), list]
    have erased : (older ++ a :: newer).eraseIdx older.length = older ++ newer := by
      rw [List.eraseIdx_append_of_length_le (Nat.le_refl _), Nat.sub_self]
      rfl
    rw [erased]
    rfl
  · exact if_neg (mt (isPassed s.now a).mp notYet)

/-! ## Captures and pitches (R48 to R58, R83, R102) -/

/-- The infeed after a capture: COVERED, with its timer stopped (R48). -/
theorem Debouncer.settle_high {d : Debouncer} (high : d.raw = true) : d.settle = ⟨true, true, none, true⟩ := by
  rw [Debouncer.settle, high]

/-- A capture that is due is taken with the infeed COVERED (R48, R50). -/
theorem exec_capture_due {s : State} {n : Nat} (listens : s.listening = true) (high : s.tracking.infeed.raw = true)
    (still : s.tracking.infeed.moved = false) (started : s.tracking.infeed.timer = some n)
    (reached : s.cfg.track.infeedDebounce * 100 ≤ n) : exec .capture s =
      .next ({ s with tracking := { s.tracking with infeed := ⟨true, true, none, true⟩ } } : State).capture := by
  have due : s.tracking.infeed.due (debounceMicros s.cfg.track.infeedDebounce) = true :=
    (Debouncer.due_iff _ _).mpr ⟨still, n, started, reached⟩
  rw [exec_effect (i := .capture) (by simp [occasion, listens, high])]
  simp only [effect, State.takeInfeed, due, high, if_true, Debouncer.settle_high high]

/-- RUNNING is a state in which the station listens. -/
theorem State.listening_of_running {s : State} (runs : s.running = true) : s.listening = true := by
  simp_all [State.listening, State.running]

/-- A head's answer to a request for a dose (R83). -/
theorem Head.answer_eq (x : Head) : x.answer = ⟨if x.production ≠ .inProduction then .skipped
    else if x.dose ≠ .idle then .busy else .pending, 0⟩ := by
  unfold Head.answer
  by_cases production : x.production = .inProduction
  · by_cases dose : x.dose = .idle <;> simp [production, dose]
  · simp [production]

/-- A head answers PENDING where it is in production and IDLE (R83). -/
theorem Head.answer_pending (x : Head) : x.answer.result = .pending ↔ x.production = .inProduction ∧ x.dose = .idle := by
  rw [Head.answer_eq]
  by_cases production : x.production = .inProduction <;> by_cases dose : x.dose = .idle <;> simp [production, dose]

/-- The request of the pocket's head, whole (R56, R83). -/
theorem State.requestPocketDose_eq (s : State) (capture : Time) : s.requestPocketDose capture = { s with
    heads := match s.tracking.pocket with
      | none => s.heads
      | some h => if (s.head h).production = .inProduction ∧ (s.head h).dose = .idle then
          s.heads.modify h fun x => x.takeDose s.tracking.nextSequence (after capture (s.cfg.dosing.fillDelayMs * 1000))
        else s.heads } := by
  unfold State.requestPocketDose
  cases s.tracking.pocket with
  | none => rfl
  | some h =>
    simp only [State.requestDose, Head.answer_pending]
    split <;> rfl

/-- The pattern counter, whole (R102). -/
theorem State.advancePattern_eq (s : State) : s.advancePattern = { s with portB := if s.cfg.cameraB.enabled then
    { s.portB with pattern := (s.portB.pattern + 1) % s.cfg.patternPeriod } else s.portB } := by
  unfold State.advancePattern
  split <;> rfl

/-- Settles O39: a capture with room opens its record. -/
theorem captureOpensRecord : Obligations.CaptureOpensRecord := by
  refine ⟨fun s no => ?_, fun s n runs high still started reached room eight => ?_⟩
  · cases stands : occasion .capture s
    · exact exec_idle stands
    · have high : s.tracking.infeed.raw = true := by
        simp only [occasion, Bool.and_eq_true] at stands
        exact stands.2
      refine (exec_effect stands).trans (congrArg _ (if_neg (Bool.eq_false_iff.mp (Debouncer.due_not ?_))))
      rcases no with low | rest
      · rw [high] at low; cases low
      · exact rest
  · intro settled matching m u sequence samplesB unknown record
    rw [exec_capture_due (State.listening_of_running runs) high still started reached]
    have capture : settled.capture = (settled.count .captures).openRecord s.now := by
      have running : settled.running = true := runs
      rw [State.capture, if_pos running]
      exact if_pos room
    refine congrArg _ (capture.trans ?_)
    obtain ⟨loader, clock, peers, cabinet, headsKept, portA, portB, gate, access, line, -⟩ :=
      State.matchArrival_frame (settled.count .captures) s.now
    have tracking : u.tracking = { settled.tracking with arrivals := u.tracking.arrivals } :=
      State.matchArrival_tracking (settled.count .captures) s.now
    have cfg : u.cfg = s.cfg := State.cfg_congr (congrArg Loader.record loader)
    have heads : u.heads = s.heads := headsKept
    have port : u.portB = s.portB := portB
    have pocket : u.tracking.pocket = s.tracking.pocket := by rw [tracking]
    have next : u.tracking.nextSequence = sequence := by rw [tracking]
    have records : u.tracking.records = s.tracking.records := by rw [tracking]
    have head (h : Nat) : u.head h = s.head h := State.head_congr heads h
    have samples : u.samplesB = samplesB := by simp only [State.samplesB, cfg, port, samplesB]
    have opened : u.openingRecord s.now m = record := by
      have unknownOrigin : u.unknownOrigin m.origin = decide unknown := by
        rw [State.unknownOrigin, cfg, Bool.eq_iff_iff]
        simp [unknown, and_assoc]
      simp only [State.openingRecord, next, pocket, head, Head.answer_eq, samples, unknownOrigin, cfg]
      rfl
    have asked : (u.requestPocketDose s.now).advancePattern = { u with
        heads := match s.tracking.pocket with
          | none => s.heads
          | some h => if (s.head h).production = .inProduction ∧ (s.head h).dose = .idle then
              s.heads.modify h fun x => { x with
                dose := .waitStart
                hand := some ⟨sequence, s.now + BitVec.ofNat 48 (s.cfg.dosing.fillDelayMs * 1000), 0, 0, none, none, none⟩ }
            else s.heads
        portB := if s.cfg.cameraB.enabled then
          { s.portB with pattern := (s.portB.pattern + 1) % s.cfg.patternPeriod } else s.portB } := by
      have cfgAsked : (u.requestPocketDose s.now).cfg = s.cfg := (State.cfg_congr (by simp)).trans cfg
      have portAsked : (u.requestPocketDose s.now).portB = s.portB := by simp [port]
      rw [State.advancePattern_eq, cfgAsked, portAsked, State.requestPocketDose_eq]
      simp only [pocket, heads, head, next, cfg]
      rfl
    change State.count { (u.requestPocketDose s.now).advancePattern with tracking := {
      (u.requestPocketDose s.now).advancePattern.tracking with
      nextSequence := nextSequenceAfter u.tracking.nextSequence
      records := (u.requestPocketDose s.now).advancePattern.tracking.records ++ [u.openingRecord s.now m] } } .recordsOpened = _
    rw [opened, next, asked, ← records]
    rfl

/-- Settles O41: captures that open no record, and pitches. -/
theorem untrackedCapturesAndPitches : Obligations.UntrackedCapturesAndPitches := by
  refine ⟨fun s no => ?_, fun s n => ⟨fun high still started reached => ?_, fun listens high still started reached => ?_⟩⟩
  · cases stands : occasion .pitch s
    · exact exec_idle stands
    · have high : s.tracking.pitch.raw = true := by
        simp only [occasion, Bool.and_eq_true] at stands
        exact stands.2
      refine (exec_effect stands).trans (congrArg _ (if_neg (Bool.eq_false_iff.mp (Debouncer.due_not ?_))))
      rcases no with low | rest
      · rw [high] at low; cases low
      · exact rest
  · intro settled untracked overflown
    refine ⟨fun joining => ?_, fun runs full => ?_⟩
    · rw [exec_capture_due (by simp [State.listening, joining]) high still started reached]
      have quiet : s.running = false := by simp [State.running, joining]
      exact congrArg _ (if_neg (Bool.eq_false_iff.mp quiet))
    · rw [exec_capture_due (State.listening_of_running runs) high still started reached]
      refine congrArg _ ((if_pos runs).trans ((if_neg (Nat.not_lt.mpr full)).trans ?_))
      rfl
  · have due : s.tracking.pitch.due (debounceMicros s.cfg.track.pitchDebounce) = true :=
      (Debouncer.due_iff _ _).mpr ⟨still, n, started, reached⟩
    rw [exec_effect (i := .pitch) (by simp [occasion, listens, high])]
    simp only [effect, State.takePitch, due, high, if_true, Debouncer.settle_high high]
    rfl

end Sys2Proof.Machine

/-! PROOFS of the statements on the decide: what it settles, and where a record goes (R68 to R73, R129 to R133). -/

namespace Sys2Proof.Machine

/-! ## What a decide settles (R69, R70) -/

/-- The meter count of a late dose is that of the head that holds it (R69, log 22). -/
theorem State.lateMeter_of {s : State} {r : Record} {h : Nat} {x : DoseInHand} (head : r.head = some h)
    (hand : (s.head h).hand = some x) (same : x.sequence = r.sequence) : s.lateMeter r = x.meter := by
  simp [State.lateMeter, head, hand, same]

/-- The own fill is bad where it stands and is not OK (R70). -/
theorem Record.ownFillBad_iff (r : Record) : r.ownFillBad = true ↔ ∃ f, r.fill = some f ∧ f.result ≠ .ok := by
  unfold Record.ownFillBad
  cases r.fill <;> simp

/-- The upstream fill of a handed record is bad where it stands and its code is not that of OK (R70, R200). -/
theorem Record.upstreamFillBad_iff (r : Record) : r.upstreamFillBad = true ↔
    ∃ address sequence f, r.origin = .handed address sequence ∧ r.upstreamFill = some f ∧ f.code ≠ 2 := by
  unfold Record.upstreamFillBad
  cases r.origin <;> cases r.upstreamFill <;> simp

/-- A verdict is missing by the three verdicts of R70. -/
theorem Verdict.isMissing_eq (v : Verdict) : v.isMissing = decide (v = .noVerdict ∨ v = .missed ∨ v = .notTaken) := by
  cases v <;> simp [Verdict.isMissing]

/-- Settles O42: the settled results, and each reason by its row. -/
theorem decideSettlesRecord : Obligations.DecideSettlesRecord := by
  intro s r d isFail missing
  have isFail_eq (v : Verdict) : v.isFail = isFail v := by cases v <;> rfl
  have fill : d.fill = r.fill.map fun f => if f.result = .pending then ⟨.late, s.lateMeter r⟩ else f := rfl
  refine ⟨rfl, fun none => ?_, fun f some_ settled => ?_, fun f some_ pending => ?_, rfl, rfl, ?_, ?_, ?_, ?_, ?_, rfl, rfl, rfl⟩
  · rw [fill, none]; rfl
  · rw [fill, some_]
    exact congrArg some (if_neg settled)
  · refine ⟨s.lateMeter r, ?_, fun h x head hand same => State.lateMeter_of head hand same⟩
    rw [fill, some_]
    exact congrArg some (if_pos pending)
  · have rows : d.reasons.fill = (r.reasons.fill || d.ownFillBad || d.upstreamFillBad) := rfl
    rw [rows, Bool.or_eq_true, Bool.or_eq_true, Record.ownFillBad_iff, Record.upstreamFillBad_iff, or_assoc]
    rfl
  · have rows : d.reasons.skipped = (r.reasons.skipped || d.fill.any fun f => f.result = .skipped) := rfl
    rw [rows, Bool.or_eq_true, Option.any_eq_true]
    simp
  · have rows : d.reasons.verdictA = (r.reasons.verdictA || d.verdictA.isFail) := rfl
    rw [rows, isFail_eq]
  · have rows : d.reasons.verdictB = (r.reasons.verdictB || d.verdictB.isFail) := rfl
    rw [rows, isFail_eq]
  · have rows : d.reasons.noVerdict = (r.reasons.noVerdict || d.verdictA.isMissing || d.verdictB.isMissing) := rfl
    rw [rows, Verdict.isMissing_eq, Verdict.isMissing_eq]

/-! ## Where a record goes (R71 to R73) -/

/-- A record has a reason where its reasons set is not empty (R70). -/
theorem Reasons.any_iff (x : Reasons) : x.any = true ↔ x ≠ Reasons.none := by
  obtain ⟨a, b, c, d, e, f, g, h⟩ := x
  simp only [Reasons.any, Reasons.none, Bool.or_eq_true, ne_eq, Reasons.mk.injEq, not_and_or, Bool.not_eq_false]
  tauto

/-- The pending entry of a record leaves each port whose verdict is PENDING (R69, R117). -/
theorem State.dropPending_eq (s : State) (p : Port) (r : Record) : s.dropPending p r = s.setPort p fun c =>
    if r.verdict p = .pending then { c with pending := c.pending.filter fun e => e.sequence ≠ r.sequence } else c := by
  have filters (c : CameraPort) : (c.pending.filter fun e => e.sequence != r.sequence) =
      c.pending.filter fun e => e.sequence ≠ r.sequence := List.filter_congr fun e _ => by
      by_cases same : e.sequence = r.sequence <;> simp [same]
  unfold State.dropPending
  split
  · simp only [filters]
  · cases p <;> rfl

/-- The pending entries of a decided record leave both ports (R69, R117). -/
theorem State.dropBoth_eq (s : State) (r : Record) (cleared : Verdict → CameraPort → CameraPort)
    (is : ∀ v c, cleared v c = if v = .pending then
      { c with pending := c.pending.filter fun e => e.sequence ≠ r.sequence } else c) :
    (s.dropPending .a r).dropPending .b r =
      { s with portA := cleared r.verdictA s.portA, portB := cleared r.verdictB s.portB } := by
  rw [State.dropPending_eq, State.dropPending_eq, is, is]
  rfl

/-- The CRP of a record, its flags by their weights (R132, R201). -/
theorem crpPayload_eq (r : Record) (o : CrpOutcome) (fault : Bool) (firing : Time) : crpPayload r o fault firing =
    recordImage r ++ [outcomeCode o, byte (bitWeight fault 1 + bitWeight (outcomeHasFiring o) 2)] ++
      bytesOf 6 (if outcomeHasFiring o then firing.toNat else 0) := by
  rw [crpPayload, (weights_of_bits fault (outcomeHasFiring o) true true true true true true).1]
  cases outcomeHasFiring o <;> rfl

/-- The HND of a record: its own fill, or else its upstream fill (R130, R200, R201). -/
theorem hndPayload_eq (r : Record) (rejectPending : Bool) (fill : Byte × Nat)
    (is : fill = ((r.fill.map fun f => (fillCode f.result, f.meter)).or
      (r.upstreamFill.map fun f : CarriedFill => (f.code, f.meter.toNat))).getD (0, 0)) : hndPayload r rejectPending =
    bytesOf 4 r.sequence.toNat ++ bytesOf 6 r.capture.toNat ++ [fill.1] ++ bytesOf 2 fill.2 ++
      [byte (16 * verdictCode r.verdictA + verdictCode r.verdictB), verdictFail r.verdictA, verdictFail r.verdictB] ++
      [reasonsByte r.reasons, byte (bitWeight rejectPending 1 + bitWeight r.trusted 2), 0] := by
  have code : hndFillCode r = fill.1 := by
    rw [is, hndFillCode]
    cases r.fill <;> cases r.upstreamFill <;> rfl
  have meter : hndFillMeter r = fill.2 := by
    rw [is, hndFillMeter]
    cases r.fill <;> cases r.upstreamFill <;> rfl
  rw [hndPayload, (weights_of_bits rejectPending r.trusted true true true true true true).1, code, meter]
  rfl

/-- DECIDE at its time takes the head record out and routes it (R68 to R73). -/
theorem exec_decide_due {s : State} {r : Record} {rest : List Record} (runs : s.running = true)
    (list : s.tracking.records = r :: rest) (due : reached (s.decideTime r) s.now = true) :
    exec .decide s = .next { s.routeDecided r with tracking := { s.tracking with records := rest } } := by
  refine (exec_effect (i := .decide) runs).trans (congrArg _ ?_)
  have decides : s.decide = if reached (s.decideTime r) s.now then s.decideHead r rest else s := by
    rw [State.decide, list]
  have kept : (s.routeDecided r).tracking = s.tracking := (State.routeDecided_frame s r).2.2.2.2.1
  rw [effect, decides, if_pos due, State.decideHead, kept]

/-- Settles O43: the routes of a decided record, with its HND and its CRP. -/
theorem decideRoutesRecord : Obligations.DecideRoutesRecord := by
  refine ⟨fun s no => ?_, fun s r rest runs list => ?_⟩
  · cases runs : s.running
    · exact exec_idle (i := .decide) runs
    · refine (exec_effect (i := .decide) runs).trans (congrArg _ ?_)
      have early : ∀ r ∈ s.tracking.records.head?, reached (s.decideTime r) s.now = false := by
        rcases no with quiet | early
        · rw [runs] at quiet; cases quiet
        · exact early
      simp only [effect, State.decide]
      cases list : s.tracking.records with
      | nil => rfl
      | cons r rest => exact if_neg (Bool.eq_false_iff.mp (early r (by simp [list])))
  · intro margin due d cleared settled firing bit own upstream fill verdicts reasons nibble image crp hnd all ends
    have goes : ∀ u, s.routeDecided r = u → ends u := fun u is => is ▸ exec_decide_due runs list due
    have settles : (s.dropPending .a r).dropPending .b r = settled := State.dropBoth_eq s r cleared fun _ _ => rfl
    have image_eq : recordImage d = image := (recordImage_eq d).trans (List.append_assoc _ verdicts [reasons]).symm
    have crp_eq (u : State) (o : CrpOutcome) (cfg : u.cfg = s.cfg) :
        u.report d o = crp u (outcomeCode o) (outcomeHasFiring o) := by
      rw [State.report, cfg, State.firingTime, cfg, crpPayload_eq, image_eq]
      rfl
    have all_eq (u : State) (o : CrpOutcome) (cfg : u.cfg = s.cfg) (plain : outcomeHasFiring o = false) :
        u.reportIfAll d o = all u (outcomeCode o) := by
      rw [State.reportIfAll, cfg, crp_eq u o cfg, plain]
    have hnd_eq (u : State) (b : Bool) (cfg : u.cfg = s.cfg) : u.handDownstream d b = hnd u b := by
      rw [State.handDownstream, cfg, hndPayload_eq d b fill rfl, reasonsByte_eq]
      rfl
    have cfg_settled : settled.cfg = s.cfg := rfl
    have cfg_hnd (u : State) (b : Bool) (cfg : u.cfg = s.cfg) : (hnd u b).cfg = s.cfg := by
      rw [← hnd_eq u b cfg, ← cfg]
      exact State.cfg_congr (by simp)
    refine ⟨fun reason => ?_, fun passes => ?_⟩
    · intro rejected
      have cfg : rejected.cfg = s.cfg := State.cfg_congr (by simp [rejected, settled])
      have routes : s.routeDecided r = rejected.routeRejected d := by
        rw [State.routeDecided, settles]
        exact if_pos ((Reasons.any_iff _).mpr reason)
      refine ⟨fun fitted => ?_, fun unfitted down => goes _ ?_, fun unfitted alone => goes _ ?_⟩
      · intro fired
        refine goes _ ?_
        have cfg_fired : fired.2.cfg = s.cfg := (State.cfg_congr (by simp [fired])).trans cfg
        have gated (a : GateAnswer) : outcomeHasFiring (answerOutcome a) = true ∧ outcomeCode (answerOutcome a) =
            match a with | .placed => 1 | .merged => 2 | .lost => 3 := by cases a <;> exact ⟨rfl, rfl⟩
        rw [routes, State.routeRejected, cfg, if_pos fitted]
        refine (crp_eq fired.2 (answerOutcome fired.1) cfg_fired).trans ?_
        rw [(gated fired.1).1]
        exact congrArg (crp fired.2 · true) (gated fired.1).2
      · rw [routes, State.routeRejected, cfg, if_neg (Bool.eq_false_iff.mp unfitted), if_pos (by simpa using down),
          hnd_eq rejected true cfg, all_eq _ .rejectHanded (cfg_hnd rejected true cfg) rfl]
        rfl
      · have cfg_alone : (rejected.count .rejectsUnexecuted).cfg = s.cfg := (State.cfg_congr (by simp)).trans cfg
        rw [routes, State.routeRejected, cfg, if_neg (Bool.eq_false_iff.mp unfitted), if_neg (by simpa using alone),
          crp_eq _ .unexecuted cfg_alone]
        rfl
    · intro passed
      have cfg : passed.cfg = s.cfg := State.cfg_congr (by simp [passed, settled])
      refine goes _ ?_
      have routes : s.routeDecided r = passed.routePassed d := by
        rw [State.routeDecided, settles]
        exact if_neg fun any => (Reasons.any_iff _).mp any passes
      rw [routes, State.routePassed, cfg]
      by_cases alone : s.cfg.track.downstream = 0
      · rw [if_pos alone, if_neg (by simpa using alone), all_eq passed .passed cfg rfl]
        rfl
      · rw [if_neg alone, if_pos (by simpa using alone), hnd_eq passed false cfg,
          all_eq _ .passed (cfg_hnd passed false cfg) rfl]
        rfl

end Sys2Proof.Machine

/-! PROOFS of the statements on the doses and the jogs (R76, R84 to R97, R146, R152). -/

namespace Sys2Proof.Machine

/-- A change of a head that the list holds, written out. -/
theorem State.setHead_eq {s : State} {h : Nat} (inside : h < s.heads.length) (f : Head → Head) :
    s.setHead h f = { s with heads := s.heads.set h (f (s.head h)) } := by
  rw [State.setHead, State.modify_head_eq_set s h f inside]

/-! ## When a head is due -/

/-- The train runs where the dose is in RUN or a jog runs (R86). -/
theorem Head.emitting_iff (x : Head) : x.emitting = true ↔ x.dose = .run ∨ x.jog.isSome = true := by
  simp [Head.emitting]

/-- A dose is due to start in WAIT_START, at its start time (R84). -/
theorem State.doseStartDue_iff (s : State) (h : Nat) : s.doseStartDue h = true ↔
    (s.running = true ∧ h < s.cfg.track.heads) ∧ (s.head h).dose = .waitStart ∧
      ∃ d, (s.head h).hand = some d ∧ reached d.startTime s.now = true := by
  simp [State.doseStartDue, State.fitted, Option.any_eq_true, and_assoc]

/-- A low phase has run its full time (R85). -/
theorem State.lowPhaseOver_iff (s : State) (h : Nat) : s.lowPhaseOver h = true ↔
    (s.running = true ∧ h < s.cfg.track.heads) ∧ ((s.head h).dose = .run ∨ (s.head h).jog.isSome = true) ∧
      ∃ n, (s.head h).train = .low n ∧ s.cfg.dosing.lowTime ≤ n := by
  rw [← Head.emitting_iff]
  cases train : (s.head h).train <;> simp [State.lowPhaseOver, State.fitted, train, and_assoc]

/-- A high phase has run its full time (R85). -/
theorem State.highPhaseOver_iff (s : State) (h : Nat) : s.highPhaseOver h = true ↔
    (s.running = true ∧ h < s.cfg.track.heads) ∧ ((s.head h).dose = .run ∨ (s.head h).jog.isSome = true) ∧
      ∃ n, (s.head h).train = .high n ∧ s.cfg.dosing.highTime ≤ n := by
  rw [← Head.emitting_iff]
  cases train : (s.head h).train <;> simp [State.highPhaseOver, State.fitted, train, and_assoc]

/-- A timer of the dose in hand has reached its figure. -/
theorem handTimer_iff (hand : Option DoseInHand) (t : DoseInHand → Timer) (figure : Nat) :
    (hand.any fun d => (t d).hasReached figure) = true ↔ ∃ d n, hand = some d ∧ t d = some n ∧ figure ≤ n := by
  simp [Option.any_eq_true, Timer.hasReached_iff]

/-- A dose has timed out in RUN or SUSPENDED (R88). -/
theorem State.doseTimedOut_iff (s : State) (h : Nat) : s.doseTimedOut h = true ↔
    (s.running = true ∧ h < s.cfg.track.heads) ∧ ((s.head h).dose = .run ∨ (s.head h).dose = .suspended) ∧
      ∃ d n, (s.head h).hand = some d ∧ d.doseTimer = some n ∧ s.cfg.dosing.timeoutMs * 1000 ≤ n := by
  rw [← handTimer_iff]
  simp [State.doseTimedOut, State.fitted, and_assoc]

/-- A suspended dose has reached the resume limit (R90). -/
theorem State.resumeLimitDue_iff (s : State) (h : Nat) : s.resumeLimitDue h = true ↔
    (s.running = true ∧ h < s.cfg.track.heads) ∧ (s.head h).dose = .suspended ∧ s.cabinet.permission = false ∧
      ∃ d n, (s.head h).hand = some d ∧ d.resumeTimer = some n ∧ s.cfg.dosing.resumeMs * 1000 ≤ n := by
  rw [← handTimer_iff]
  simp [State.resumeLimitDue, State.fitted, and_assoc]

/-- A dose has settled (R91). -/
theorem State.settleDue_iff (s : State) (h : Nat) : s.settleDue h = true ↔
    (s.running = true ∧ h < s.cfg.track.heads) ∧ (s.head h).dose = .settle ∧
      ∃ d n, (s.head h).hand = some d ∧ d.settleTimer = some n ∧ s.cfg.dosing.settleMs * 1000 ≤ n := by
  rw [← handTimer_iff]
  simp [State.settleDue, State.fitted, and_assoc]

/-! ## What a head does -/

/-- Settles O44: the start of a dose, and the phases of a train. -/
theorem dosesAndJogsEmitPulses : Obligations.DosesAndJogsEmitPulses := by
  refine ⟨fun s h => ?idle, fun s h runs fitted inside => ?acts⟩
  case idle =>
    intro x works emits
    exact ⟨fun no => exec_idle (i := .doseStart h) (Bool.eq_false_iff.mpr (mt (s.doseStartDue_iff h).mp no)),
      fun no => exec_idle (i := .lowPhaseEnd h) (Bool.eq_false_iff.mpr (mt (s.lowPhaseOver_iff h).mp no)),
      fun no => exec_idle (i := .pulseEmitted h) (Bool.eq_false_iff.mpr (mt (s.highPhaseOver_iff h).mp no))⟩
  case acts =>
    intro x sets
    have set (f : Head → Head) : s.setHead h f = sets (f x) := State.setHead_eq inside f
    refine ⟨fun d waits hand due => ?start, fun n emits train due => ?low, fun n train due => ?high⟩
    case start =>
      have stands : s.doseStartDue h = true := (s.doseStartDue_iff h).mpr ⟨⟨runs, fitted⟩, waits, d, hand, due⟩
      refine ⟨fun on => ?_, fun off => ?_⟩ <;> refine (exec_effect (i := .doseStart h) stands).trans (congrArg _ ?_)
      · rw [effect, State.startDose, if_pos on, set, Head.enterRun, Head.startTrain, hand]
        rfl
      · rw [effect, State.startDose, if_neg (Bool.eq_false_iff.mp off)]
    case low =>
      have stands : s.lowPhaseOver h = true := (s.lowPhaseOver_iff h).mpr ⟨⟨runs, fitted⟩, emits, n, train, due⟩
      exact (exec_effect (i := .lowPhaseEnd h) stands).trans (congrArg _ (set _))
    case high =>
      have stands (emits : x.dose = .run ∨ x.jog.isSome = true) : s.highPhaseOver h = true :=
        (s.highPhaseOver_iff h).mpr ⟨⟨runs, fitted⟩, emits, n, train, due⟩
      have meaning (emits : x.dose = .run ∨ x.jog.isSome = true) : exec (.pulseEmitted h) s = .next (s.emitPulse h) :=
        exec_effect (i := .pulseEmitted h) (stands emits)
      have jogs {j : JogInHand} (jog : x.jog = some j) : exec (.pulseEmitted h) s = .next (s.jogPulse h j) := by
        rw [meaning (.inr (by simp [jog])), State.emitPulse, show (s.head h).jog = some j from jog]
      refine ⟨fun d run noJog hand => ?_, fun j jog more => ?_, fun j jog last => ?_⟩
      · have doses : s.emitPulse h = s.dosePulse h d := by
          rw [State.emitPulse, show (s.head h).jog = none from noJog, show (s.head h).hand = some d from hand]
        rw [meaning (.inl run), doses]
        by_cases last : s.cfg.dosing.pulses ≤ d.emitted + 1
        · simp only [State.dosePulse, if_pos last, set]
          rfl
        · simp only [State.dosePulse, if_neg last, set]
      · rw [jogs jog, State.jogPulse, if_neg (by omega), set]
        rfl
      · rw [jogs jog, State.jogPulse, if_pos last, set, State.endJog_eq (by simpa [sets] using inside)]
        have emits : ((sets (x.jogEmits j)).head h) = x.jogEmits j := by simp [State.head, sets, inside, List.getD_eq_getElem?_getD]
        rw [emits]
        simp [Head.jogEmits, sets, jogCauseCode]

/-- Settles O45: drive ready pauses the train, and a meter pulse is counted. -/
theorem readyAndMeterActOnTrain : Obligations.ReadyAndMeterActOnTrain := by
  intro s h inside x sets running
  have set (f : Head → Head) : s.setHead h f = sets (f x) := State.setHead_eq inside f
  have turns (high : Bool) : x.readyTurns high = true ↔ x.readySample = high ∧ x.ready ≠ high := by
    simp [Head.readyTurns]
  have meaning {high : Bool} (sample : x.readySample = high) (other : x.ready ≠ high) :
      exec (.driveReadyChange h high) s = .next (sets (if x.emitting then x.readyChanges high else { x with ready := high })) :=
    (exec_effect (i := .driveReadyChange h high) ((turns high).mpr ⟨sample, other⟩)).trans (congrArg _ (set _))
  have due : (occasion (.meterPulse h) s) = true ↔ (s.running = true ∧ h < s.cfg.track.heads) ∧ x.meterRose = true := by
    simp [occasion, State.fitted, x]
  refine ⟨fun high no => exec_idle (Bool.eq_false_iff.mpr fun yes => ?_), fun high sample other idle => ?_,
    fun run low up => ?_, fun run high down => ?_, fun no => exec_idle (Bool.eq_false_iff.mpr fun yes => ?_),
    fun runs fitted rose => ?_⟩
  · obtain ⟨sample, other⟩ := (turns high).mp yes
    exact no.elim (fun differs => differs sample) other
  · rw [meaning sample other, if_neg (mt x.emitting_iff.mp idle)]
  · rw [meaning low (by simp [up]), if_pos (x.emitting_iff.mpr run)]
    rfl
  · rw [meaning high (by simp [down]), if_pos (x.emitting_iff.mpr run)]
    rfl
  · obtain ⟨⟨runs, fitted⟩, rose⟩ := due.mp yes
    rcases no with quiet | stopped | unfitted
    · rw [rose] at quiet; cases quiet
    · rw [runs] at stopped; cases stopped
    · omega
  · rw [exec_effect (i := .meterPulse h) (due.mpr ⟨⟨runs, fitted⟩, rose⟩)]
    refine congrArg _ ((set _).trans (congrArg sets ?_))
    have counts : x.countsMeter = true ↔ x.dose = .run ∨ x.dose = .suspended ∨ x.dose = .settle := by
      simp [Head.countsMeter, or_assoc]
    by_cases counting : x.countsMeter = true
    · simp [Head.meterPulse, counting, counts.mp counting, saturate]
    · have none := mt counts.mpr counting
      simp [Head.meterPulse, counting, none, saturate]

/-! ## The end of a dose (R88 to R94) -/

/-- The evaluation of a dose, by the limits of R93 as whole numbers. -/
theorem evaluateDose_eq (m expected tol : Nat) :
    evaluateDose m expected tol = if m = 0 ∧ 0 < expected then .dry
      else if max 0 ((expected : Int) - tol) ≤ m ∧ (m : Int) ≤ expected + tol then .ok
      else if (m : Int) < max 0 ((expected : Int) - tol) then .short
      else .over := by
  have within : expected - tol ≤ m ∧ m ≤ expected + tol ↔ max 0 ((expected : Int) - tol) ≤ m ∧ (m : Int) ≤ expected + tol := by
    omega
  have below : m < expected - tol ↔ (m : Int) < max 0 ((expected : Int) - tol) := by omega
  simp only [evaluateDose, within, below]

/-- The delivery of a fill: to its record, or DOSE_LATE (R94). -/
theorem State.deliverFill_eq (s : State) (h : Nat) (sequence : Word32) (f : Fill) : s.deliverFill h sequence f =
    if ∃ r ∈ s.tracking.records, r.sequence = sequence then
      { s with tracking := { s.tracking with records := s.tracking.records.map fun r =>
        if r.sequence = sequence then { r with fill := some f } else r } }
    else s.occur .doseLate (byte h) := by
  have tracks : s.tracks sequence = true ↔ ∃ r ∈ s.tracking.records, r.sequence = sequence := by
    simp [State.tracks]
  simp only [State.deliverFill, tracks]
  rfl

/-- Settles O46: the end of a dose, and what ends one. -/
theorem dosesEndWithResult : Obligations.DosesEndWithResult := by
  refine ⟨fun s h => ?idle, fun s h d inside hand => ?ends⟩
  case idle =>
    intro x works due
    exact ⟨fun no => exec_idle (i := .doseTimeout h) (Bool.eq_false_iff.mpr (mt (s.doseTimedOut_iff h).mp no)),
      fun no => exec_idle (i := .resumeLimit h) (Bool.eq_false_iff.mpr (mt (s.resumeLimitDue_iff h).mp no)),
      fun no => exec_idle (i := .settleEnd h) (Bool.eq_false_iff.mpr (mt (s.settleDue_iff h).mp no))⟩
  case ends =>
    intro x due
    have meter : (s.head h).meterCount = d.meter := by rw [Head.meterCount, hand]
    have reaches {t : Timer} {ms : Nat} (yes : due t ms) : ∃ n, t = some n ∧ ms * 1000 ≤ n := by
      simpa [due, Option.any_eq_true] using yes
    refine ⟨fun result meter => ?result, fun runs fitted => ⟨fun held timer => ?_, fun held off timer => ?_,
      fun held timer => ?_⟩⟩
    case result =>
      intro delivered frees ended
      have given : s.deliverFill h d.sequence ⟨result, meter⟩ = delivered := State.deliverFill_eq s h d.sequence ⟨result, meter⟩
      have heads : delivered.heads = s.heads := by rw [← given]; simp
      have counted : ((delivered.count (if result = .ok then .dosesOk else .dosesNotOk)).setHead h fun x => x.endDose result) = ended := by
        rw [State.setHead_eq (by simpa [heads] using inside), State.head_congr (s := s) (by simp [heads]), State.count_heads,
          heads]
        rfl
      rw [State.endDose, hand]
      simp only [given, counted]
      rfl
    · obtain ⟨n, is, long⟩ := reaches timer
      rw [exec_effect (i := .doseTimeout h) ((s.doseTimedOut_iff h).mpr ⟨⟨runs, fitted⟩, held, d, n, hand, is, long⟩), effect, meter]
    · obtain ⟨n, is, long⟩ := reaches timer
      rw [exec_effect (i := .resumeLimit h)
        ((s.resumeLimitDue_iff h).mpr ⟨⟨runs, fitted⟩, held, off, d, n, hand, is, long⟩), effect, meter]
    · intro lower upper result
      obtain ⟨n, is, long⟩ := reaches timer
      rw [exec_effect (i := .settleEnd h) ((s.settleDue_iff h).mpr ⟨⟨runs, fitted⟩, held, d, n, hand, is, long⟩), effect,
        meter, evaluateDose_eq]

end Sys2Proof.Machine

/-! PROOFS of the statements on the camera ports: triggers, strobes and result messages (R100 to R116). -/

namespace Sys2Proof.Machine

/-! ## Changing a port -/

/-- A change of a port, by the port as it is. -/
theorem State.setPort_eq (s : State) (p : Port) (f : CameraPort → CameraPort) :
    s.setPort p f = s.setPort p fun _ => f (s.port p) := by
  cases p <;> rfl

/-- Two changes of one port. -/
theorem State.setPort_setPort (s : State) (p : Port) (f g : CameraPort → CameraPort) :
    (s.setPort p f).setPort p g = s.setPort p fun c => g (f c) := by
  cases p <;> rfl

/-- A port's change and an occurrence are made in either order. -/
theorem State.occur_setPort (s : State) (e : EventSource) (detail : Byte) (p : Port) (f : CameraPort → CameraPort) :
    (s.occur e detail).setPort p f = (s.setPort p f).occur e detail := by
  cases p <;> rfl

/-- A port's change and a write into a record are made in either order. -/
theorem State.updateRecord_setPort (s : State) (sequence : Word32) (g : Record → Record) (p : Port)
    (f : CameraPort → CameraPort) : (s.updateRecord sequence g).setPort p f = (s.setPort p f).updateRecord sequence g := by
  cases p <;> rfl

/-- An occurrence leaves the ports. -/
theorem State.occur_port (s : State) (e : EventSource) (detail : Byte) (p : Port) : (s.occur e detail).port p = s.port p := by
  cases p <;> rfl

/-- The code of a port in an event's detail (R168). -/
theorem portCode_eq (p : Port) : portCode p = if p = .a then 0 else 1 := by
  cases p <;> rfl

/-- A port works in RUNNING, where it is enabled (R100). -/
theorem State.portWorks_iff (s : State) (p : Port) : s.portWorks p = true ↔ s.running = true ∧ (s.camera p).enabled = true := by
  simp [State.portWorks]

/-! ## Triggers and strobes (R103 to R110) -/

/-- The record to trigger: PENDING without an entry, and none before it so (R103). -/
theorem State.nextToTrigger_iff (s : State) (p : Port) (r : Record) : s.nextToTrigger p = some r ↔
    ∃ older newer, s.tracking.records = older ++ r :: newer ∧ r.verdict p = .pending ∧
      (∀ e ∈ (s.port p).pending, e.sequence ≠ r.sequence) ∧
      ∀ o ∈ older, o.verdict p = .pending → ∃ e ∈ (s.port p).pending, e.sequence = o.sequence := by
  have meets (x : Record) : (x.verdict p = .pending && !(s.port p).awaits x.sequence) = true ↔
      x.verdict p = .pending ∧ ∀ e ∈ (s.port p).pending, e.sequence ≠ x.sequence := by
    simp [CameraPort.awaits]
  have before (x : Record) : (!(x.verdict p = .pending && !(s.port p).awaits x.sequence)) = true ↔
      (x.verdict p = .pending → ∃ e ∈ (s.port p).pending, e.sequence = x.sequence) := by
    rw [Bool.not_eq_true', Bool.eq_false_iff, ne_eq, meets]
    simp
  rw [State.nextToTrigger, List.find?_eq_some_iff_append, meets]
  simp only [before]
  tauto

/-- A trigger is refused while the camera is busy, in the pulse or guard, or with a full list (R104). -/
theorem CameraPort.refuses_iff (c : CameraPort) (busy : Bool) : c.refuses busy = true ↔
    busy = true ∨ c.trigger.isSome = true ∨ c.guard.isSome = true ∨ 16 ≤ c.pending.length := by
  simp only [CameraPort.refuses, Bool.or_eq_true, decide_eq_true_eq, or_assoc]
  rfl

/-- Where its timer has not reached its figure, a command that waits for it changes nothing (log 1). -/
theorem Timer.not_hasReached {timer : Timer} {figure : Nat} (early : ∀ n, timer = some n → n < figure) :
    timer.hasReached figure = false := by
  refine Bool.eq_false_iff.mpr fun yes => ?_
  obtain ⟨n, is, long⟩ := (timer.hasReached_iff figure).mp yes
  have := early n is
  omega

/-- Settles O48: a trigger is taken or refused, and its pulse and guard end. -/
theorem triggersAreTakenOrRefused : Obligations.TriggersAreTakenOrRefused := by
  intro s p busy c sets
  refine ⟨fun older newer r runs enabled list pending lone before due => ?due, fun no => ?idle,
    fun early => exec_idle (i := .triggerPulseEnd p) (Timer.not_hasReached early),
    fun early => exec_idle (i := .guardEnd p) (Timer.not_hasReached early),
    fun n timer long => ?pulse, fun n timer long => ?guard⟩
  case due =>
    have next : s.nextToTrigger p = some r := (s.nextToTrigger_iff p r).mpr ⟨older, newer, list, pending, lone, before⟩
    have isDue : s.triggerDue p = some r := by
      rw [State.triggerDue, next]
      exact Option.filter_some_pos due
    refine (exec_effect (i := .triggerTime p busy) ((s.portWorks_iff p).mpr ⟨runs, enabled⟩)).trans (congrArg _ ?_)
    simp only [effect, isDue, State.trigger]
    rw [s.setPort_eq, State.setPort_setPort]
    by_cases refused : c.refuses busy = true
    · rw [if_pos refused, if_pos ((c.refuses_iff busy).mp refused)]
    · have free := mt (c.refuses_iff busy).mpr refused
      have ready : busy = false := Bool.eq_false_iff.mpr fun yes => free (.inl yes)
      rw [if_neg refused, if_neg free, ready]
      rfl
  case idle =>
    by_cases works : s.running = true ∧ (s.camera p).enabled = true
    · have never := no.resolve_left (by simp [works.1]) |>.resolve_left (by simp [works.2])
      have isDue : s.triggerDue p = none := by
        rw [State.triggerDue, Option.filter_eq_none_iff]
        intro r next
        obtain ⟨older, newer, list, pending, lone, before⟩ := (s.nextToTrigger_iff p r).mp next
        exact Bool.eq_false_iff.mp (never older newer r list pending lone before)
      refine (exec_effect (i := .triggerTime p busy) ((s.portWorks_iff p).mpr works)).trans (congrArg _ ?_)
      simp only [effect, isDue]
    · exact exec_idle (i := .triggerTime p busy) (Bool.eq_false_iff.mpr (mt (s.portWorks_iff p).mp works))
  case pulse =>
    refine (exec_effect (i := .triggerPulseEnd p) ((Timer.hasReached_iff _ _).mpr ⟨n, timer, long⟩)).trans (congrArg _ ?_)
    rw [effect, s.setPort_eq]
  case guard =>
    refine (exec_effect (i := .guardEnd p) ((Timer.hasReached_iff _ _).mpr ⟨n, timer, long⟩)).trans (congrArg _ ?_)
    rw [effect, s.setPort_eq]

/-- Settles O49: a strobe is lit or skipped, and the lamp goes dark and may be lit again. -/
theorem strobesAreGivenOrSkipped : Obligations.StrobesAreGivenOrSkipped := by
  intro s p c sets
  refine ⟨fun due rest runs enabled list long => ?due, fun no => ?idle,
    fun early => exec_idle (i := .strobeEnd p) (Timer.not_hasReached early),
    fun early => exec_idle (i := .strobeOffExpiry p) (Timer.not_hasReached early),
    fun n timer long => ?ends, fun n timer long => ?off⟩
  case due =>
    have meaning : exec (.strobeDue p) s = .next (s.strobe p due.sequence rest) := by
      refine (exec_effect (i := .strobeDue p) ((s.portWorks_iff p).mpr ⟨runs, enabled⟩)).trans (congrArg _ ?_)
      simp only [effect, State.strobeDue, show (s.port p).schedule = due :: rest from list, if_pos long]
    refine ⟨fun dark free => ?_, fun lit => ?_⟩ <;> refine meaning.trans (congrArg _ ?_)
    · have may : (s.port p).lampBusy = false := by
        simp [CameraPort.lampBusy, show (s.port p).strobeOut = false from dark, show (s.port p).offTimer = none from free]
      rw [State.strobe, if_neg (Bool.eq_false_iff.mp may), State.setPort_setPort, s.setPort_eq]
    · have busy : (s.port p).lampBusy = true := by simpa [CameraPort.lampBusy] using lit
      rw [State.strobe, if_pos busy, s.setPort_eq, portCode_eq]
  case idle =>
    by_cases works : s.running = true ∧ (s.camera p).enabled = true
    · have early := no.resolve_left (by simp [works.1]) |>.resolve_left (by simp [works.2])
      refine (exec_effect (i := .strobeDue p) ((s.portWorks_iff p).mpr works)).trans (congrArg _ ?_)
      rw [effect, State.strobeDue]
      split
      · rfl
      · next d rest list => exact if_neg (by have := early d (by simp [c, list]); omega)
    · exact exec_idle (i := .strobeDue p) (Bool.eq_false_iff.mpr (mt (s.portWorks_iff p).mp works))
  case ends =>
    refine (exec_effect (i := .strobeEnd p) ((Timer.hasReached_iff _ _).mpr ⟨n, timer, long⟩)).trans (congrArg _ ?_)
    rw [effect, s.setPort_eq]
  case off =>
    refine (exec_effect (i := .strobeOffExpiry p) ((Timer.hasReached_iff _ _).mpr ⟨n, timer, long⟩)).trans (congrArg _ ?_)
    rw [effect, s.setPort_eq]

/-! ## Result messages (R111 to R116) -/

/-- The inter-byte limit by the baud code (R111). -/
theorem interByteLimit_eq (code : Nat) : interByteLimit code = [4166, 2083, 1041, 694, 347].getD code 347 := by
  match code with
  | 0 | 1 | 2 | 3 | 4 => rfl
  | n + 5 => simp [interByteLimit, bitRate]

/-- A list that meets a tag first at an entry, parted there. -/
theorem splitAtTag_of {tag : Byte} {older newer : List PendingTrigger} {e : PendingTrigger} (hit : e.tag = tag)
    (before : ∀ o ∈ older, o.tag ≠ tag) : splitAtTag tag (older ++ e :: newer) = some (older, e, newer) := by
  induction older with
  | nil => exact if_pos hit
  | cons o older ih =>
    rw [List.cons_append, splitAtTag, if_neg (before o (by simp)), ih fun x listed => before x (by simp [listed])]

/-- A list without a tag is not parted at it. -/
theorem splitAtTag_none {tag : Byte} {list : List PendingTrigger} (absent : ∀ e ∈ list, e.tag ≠ tag) :
    splitAtTag tag list = none := by
  induction list with
  | nil => rfl
  | cons e list ih => rw [splitAtTag, if_neg (absent e (by simp)), ih fun x listed => absent x (by simp [listed])]

/-- A change of a port after entries are retired is one before it. -/
theorem State.retireAll_setPort (s : State) (p : Port) (f : CameraPort → CameraPort) (es : List PendingTrigger) :
    (es.foldl (fun u e => u.retire p e) s).setPort p f = es.foldl (fun u e => u.retire p e) (s.setPort p f) := by
  induction es generalizing s with
  | nil => rfl
  | cons e es ih =>
    rw [List.foldl_cons, List.foldl_cons, ih, State.retire, State.updateRecord_setPort]
    rfl

/-- The inter-byte limit has been reached by a message in progress (R113). -/
theorem State.interByteDue_iff {s : State} {p : Port} (runs : s.running = true) (enabled : (s.camera p).enabled = true) :
    s.interByteDue p = true ↔ (s.port p).assembler ≠ .hunt ∧
      ∃ n, (s.port p).interByte = some n ∧ [4166, 2083, 1041, 694, 347].getD (s.camera p).baud 347 ≤ n := by
  rw [State.interByteDue, (s.portWorks_iff p).mpr ⟨runs, enabled⟩, ← interByteLimit_eq, ← Timer.hasReached_iff]
  simp

/-- The message in progress is abandoned, from the port as it is (R112). -/
theorem State.abandon_eq (s : State) (p : Port) : s.abandon p =
    (s.setPort p fun _ => { s.port p with assembler := .hunt, interByte := none }).occur .cameraLink (if p = .a then 0 else 1) := by
  rw [State.abandon, s.setPort_eq, portCode_eq]

/-- Settles O50: bytes assembled, messages matched or abandoned. -/
theorem resultsAreAssembledAndMatched : Obligations.ResultsAreAssembledAndMatched := by
  intro s p b runs enabled c sets link limit overdue hunts freed
  have late : s.interByteDue p = true ↔ overdue := State.interByteDue_iff runs enabled
  have has (result : Option Byte) : s.hasCharacter p result = true ↔ c.receiver = .complete result := by
    simp [State.hasCharacter, (s.portWorks_iff p).mpr ⟨runs, enabled⟩, c]
  have byteMeaning (done : c.receiver = .complete (some b)) : exec (.resultByte p b) s =
      .next (s.handOn p fun u => u.takeByte p b) := exec_effect (i := .resultByte p b) ((has _).mpr done)
  have sets_port (c' : CameraPort) : (sets c').port p = c' := State.setPort_port s p _
  have sets_set (c' : CameraPort) (f : CameraPort → CameraPort) : (sets c').setPort p f = sets (f c') :=
    State.setPort_setPort s p _ f
  have onTime (act : State → State) (no : ¬overdue) : s.handOn p act = act (sets { c with receiver := c.receiver.handedOn }) := by
    rw [State.handOn, if_neg (mt late.mp no), s.setPort_eq]
  have tooLate (act : State → State) (yes : overdue) : s.handOn p act =
      act (link (sets { c with receiver := c.receiver.handedOn, assembler := .hunt, interByte := none })) := by
    rw [State.handOn, if_pos (late.mpr yes), s.setPort_eq, State.abandon_eq, sets_port, sets_set]
  refine ⟨fun done => ⟨fun inTime => ?inTime, fun yes => ?_⟩, fun other => ?_, fun done => ?framing, fun other => ?_,
    fun yes => ?_, fun no => ?_⟩
  case inTime =>
    have handed : c.receiver.handedOn = .idle := by rw [done]; rfl
    have takes {t : State} (eq : (sets { c with receiver := .idle }).takeByte p b = t) : exec (.resultByte p b) s = .next t := by
      rw [byteMeaning done, onTime _ inTime, handed, eq]
    have assembler : ((sets { c with receiver := .idle }).port p).assembler = c.assembler := by rw [sets_port]
    refine ⟨fun hunt => takes ?_, fun tag => takes ?_, fun tag verdict => takes ?_, fun tag verdict check => ?checks⟩
    · rw [State.takeByte, assembler, hunt]
      simp only [sets_set]
      by_cases start : b = 0xA5
      · rw [if_pos start]; exact if_pos start
      · rw [if_neg start]; exact if_neg start
    · rw [State.takeByte, assembler, tag]
      exact sets_set _ _
    · rw [State.takeByte, assembler, verdict]
      exact sets_set _ _
    case checks =>
      have completes : s.checkCompletes p b = true := by
        have quiet : s.interByteDue p = false := Bool.eq_false_iff.mpr (mt late.mp inTime)
        simp [State.checkCompletes, (has _).mpr done, quiet, show (s.port p).assembler = .check tag verdict from check]
      have same : exec (.resultByte p b) s = exec (.resultMessage p b) s :=
        (byteMeaning done).trans (exec_effect (i := .resultMessage p b) completes).symm
      have judged : (sets { c with receiver := .idle }).takeByte p b =
          (sets { c with receiver := .idle }).takeCheck p tag verdict b := by
        rw [State.takeByte, assembler, check]
      have reads {t : State} (eq : (sets { c with receiver := .idle }).takeCheck p tag verdict b = t) :
          exec (.resultMessage p b) s = .next t := same ▸ takes (judged.trans eq)
      have agrees (good : b = 0xA5 ^^^ tag ^^^ verdict) : (sets { c with receiver := .idle }).takeCheck p tag verdict b =
          freed.matchResult p tag verdict := by
        exact (if_pos good).trans (by rw [sets_set])
      have list : (freed.port p).pending = c.pending := by rw [show freed.port p = _ from sets_port _]
      refine ⟨same, fun bad => reads ?_, fun good stray => reads ?_, fun older newer e good list' hit before => reads ?_⟩
      · exact (if_neg bad).trans (by rw [State.abandon_eq, sets_port, sets_set])
      · rw [agrees good, State.matchResult, list, splitAtTag_none stray, portCode_eq]
      · rw [agrees good, State.matchResult, list, list', splitAtTag_of hit before]
        simp only [State.retireAll_setPort]
        rw [show freed.setPort p _ = _ from sets_set _ _]
        rfl
  case framing =>
    have handed : c.receiver.handedOn = .waitHigh := by rw [done]; rfl
    have meaning : exec (.framingError p) s = .next (s.handOn p fun u => u.abandon p) :=
      exec_effect (i := .framingError p) ((has _).mpr done)
    intro waits
    refine ⟨fun inTime => ?_, fun yes => ?_⟩
    · rw [meaning, onTime _ inTime, handed, State.abandon_eq, sets_port, sets_set]
    · rw [meaning, tooLate _ yes, handed, State.abandon_eq]
      simp only [link, State.occur_setPort, State.occur_port, sets_port, sets_set]
      rfl
  · have handed : c.receiver.handedOn = .idle := by rw [done]; rfl
    rw [byteMeaning done, tooLate _ yes, handed, State.takeByte, State.occur_port, sets_port]
    by_cases start : b = 0xA5
    · simp only [if_pos start]
      exact congrArg _ (if_pos start)
    · simp only [if_neg start]
      refine congrArg _ ((if_neg start).trans ?_)
      simp [link, State.occur_setPort, freed, sets_set]
  · have none : s.hasCharacter p (some b) = false := Bool.eq_false_iff.mpr (mt (has _).mp other)
    exact ⟨exec_idle (i := .resultByte p b) none, exec_idle (i := .resultMessage p b) (by simp [occasion, State.checkCompletes, none])⟩
  · exact exec_idle (i := .framingError p) (Bool.eq_false_iff.mpr (mt (has _).mp other))
  · rw [exec_effect (i := .interByteTimeout p) (late.mpr yes), effect, State.abandon_eq]
  · exact exec_idle (i := .interByteTimeout p) (Bool.eq_false_iff.mpr (mt late.mp no))

end Sys2Proof.Machine

/-! PROOFS of the statements on the Reject Gate: the Gate List, the gate output and the judgement (R121 to R127). -/

namespace Sys2Proof.Machine

/-! ## Times near a point (R4, log 19) -/

/-- A time lies less than 2^46 µs from a point, so that times about it are ordered by their distances. -/
def IsNear (point t : Time) : Prop := -(2 ^ 46) < (t - point).toInt ∧ (t - point).toInt < 2 ^ 46

/-- A point is near itself. -/
theorem IsNear.self (point : Time) : IsNear point point := by
  simp [IsNear]

/-- Of two times near a point, the one before has the smaller distance. -/
theorem before_of_near {point a b : Time} (nearA : IsNear point a) (nearB : IsNear point b) :
    before a b = true ↔ (a - point).toInt < (b - point).toInt := by
  have apart : b - a = (b - point) - (a - point) := by bv_omega
  obtain ⟨lowA, highA⟩ := nearA
  obtain ⟨lowB, highB⟩ := nearB
  have exactly : (b - a).toInt = (b - point).toInt - (a - point).toInt := by
    rw [apart, BitVec.toInt_sub]
    exact Int.bmod_eq_of_le (by omega) (by omega)
  rw [before, decide_eq_true_iff, exactly]
  omega

/-- The earlier of two points is one of them. -/
theorem earlier_or (a b : Time) : earlier a b = a ∨ earlier a b = b := by
  unfold earlier; split <;> simp

/-- The later of two points is one of them. -/
theorem later_or (a b : Time) : later a b = a ∨ later a b = b := by
  unfold later; split <;> simp

/-- The earlier of two near points has the smaller distance. -/
theorem earlier_le {point a b : Time} (nearA : IsNear point a) (nearB : IsNear point b) :
    (earlier a b - point).toInt ≤ (a - point).toInt ∧ (earlier a b - point).toInt ≤ (b - point).toInt := by
  have order := before_of_near nearB nearA
  unfold earlier
  split
  case isTrue yes => have := order.mp yes; omega
  case isFalse no => have := mt order.mpr no; omega

/-- The later of two near points has the larger distance. -/
theorem le_later {point a b : Time} (nearA : IsNear point a) (nearB : IsNear point b) :
    (a - point).toInt ≤ (later a b - point).toInt ∧ (b - point).toInt ≤ (later a b - point).toInt := by
  have order := before_of_near nearA nearB
  unfold later
  split
  case isTrue yes => have := order.mp yes; omega
  case isFalse no => have := mt order.mpr no; omega

/-! ## Joined firings (R122) -/

/-- The bounds of joined firings are among theirs. -/
theorem joinAll_mem (f : Firing) (met : List Firing) :
    (met.foldl Firing.join f).start ∈ f.start :: met.map Firing.start ∧
    (met.foldl Firing.join f).stop ∈ f.stop :: met.map Firing.stop := by
  induction met generalizing f with
  | nil => simp
  | cons g met ih =>
    obtain ⟨start, stop⟩ := ih (f.join g)
    have s : (f.join g).start = f.start ∨ (f.join g).start = g.start := earlier_or _ _
    have e : (f.join g).stop = f.stop ∨ (f.join g).stop = g.stop := later_or _ _
    simp only [List.foldl_cons, List.map_cons, List.mem_cons] at start stop ⊢
    constructor
    · rcases start with is | listed
      · rcases s with own | other
        · exact .inl (is.trans own)
        · exact .inr (.inl (is.trans other))
      · exact .inr (.inr listed)
    · rcases stop with is | listed
      · rcases e with own | other
        · exact .inl (is.trans own)
        · exact .inr (.inl (is.trans other))
      · exact .inr (.inr listed)

/-- Joined firings about a point start at the earliest start and end at the latest end. -/
theorem joinAll_bounds {point : Time} (f : Firing) (met : List Firing) (nearStart : IsNear point f.start)
    (nearStop : IsNear point f.stop) (near : ∀ g ∈ met, IsNear point g.start ∧ IsNear point g.stop) :
    (∀ a ∈ f.start :: met.map Firing.start, ((met.foldl Firing.join f).start - point).toInt ≤ (a - point).toInt) ∧
    ∀ b ∈ f.stop :: met.map Firing.stop, (b - point).toInt ≤ ((met.foldl Firing.join f).stop - point).toInt := by
  induction met generalizing f with
  | nil => simp
  | cons g met ih =>
    obtain ⟨nearGStart, nearGStop⟩ := near g (by simp)
    have startNear : IsNear point (f.join g).start := by
      rcases earlier_or f.start g.start with is | is <;> simpa [Firing.join, is]
    have stopNear : IsNear point (f.join g).stop := by
      rcases later_or f.stop g.stop with is | is <;> simpa [Firing.join, is]
    obtain ⟨starts, stops⟩ := ih (f.join g) startNear stopNear fun x listed => near x (by simp [listed])
    have early := earlier_le nearStart nearGStart
    have late := le_later nearStop nearGStop
    have first := starts _ (List.mem_cons_self ..)
    have last := stops _ (List.mem_cons_self ..)
    simp only [List.map_cons, List.mem_cons, List.foldl_cons, forall_eq_or_imp] at starts stops ⊢
    exact ⟨⟨first.trans early.1, first.trans early.2, starts.2⟩, late.1.trans last, late.2.trans last, stops.2⟩

/-- Joined firings sum their containers and confirm counts to at most 255. -/
theorem joinAll_counts (f : Firing) (met : List Firing) (containers : f.containers ≤ 255) (count : f.count ≤ 255) :
    (met.foldl Firing.join f).containers = min 255 (f.containers + (met.map Firing.containers).sum) ∧
    (met.foldl Firing.join f).count = min 255 (f.count + (met.map Firing.count).sum) := by
  induction met generalizing f with
  | nil => simp [containers, count]
  | cons g met ih =>
    have joined := ih (f.join g) (Nat.min_le_left ..) (Nat.min_le_left ..)
    rw [List.foldl_cons, joined.1, joined.2]
    simp only [Firing.join, saturate, List.map_cons, List.sum_cons]
    omega

/-- A firing takes its place behind those that do not start after it, before the first that does (R121). -/
theorem insertByStart_placed (f : Firing) (l : List Firing) : ∃ older newer, l = older ++ newer ∧
    insertByStart f l = older ++ f :: newer ∧ (∀ o ∈ older, before f.start o.start = false) ∧
    ∀ o ∈ newer.head?, before f.start o.start = true := by
  induction l with
  | nil => exact ⟨[], [], rfl, rfl, by simp, by simp⟩
  | cons g l ih =>
    cases starts : before f.start g.start
    · obtain ⟨older, newer, list, placed, behind, ahead⟩ := ih
      refine ⟨g :: older, newer, by simp [list], by simp [insertByStart, starts, placed], ?_, ahead⟩
      simpa [starts] using behind
    · exact ⟨[], g :: l, rfl, by simp [insertByStart, starts], by simp, by simpa using starts⟩

/-- Settles O51: a firing is placed, merged or lost. -/
theorem firingsArePlacedMergedOrLost : Obligations.FiringsArePlacedMergedOrLost := by
  intro s capture detail start stop meets met others placed listed near
  let new : Firing := ⟨start, stop, 1, 0, .waiting⟩
  have meets_iff (f : Firing) : new.meets f = true ↔ meets f := by
    simp [Firing.meets, meets, new]
  have met_eq : s.gate.firings.filter new.meets = met := List.filter_congr fun f _ => by
    rw [Bool.eq_iff_iff, meets_iff, decide_eq_true_iff]
  have others_eq : (s.gate.firings.filter fun f => !new.meets f) = others := List.filter_congr fun f _ => by
    rw [Bool.eq_iff_iff, Bool.not_eq_true', Bool.eq_false_iff, ne_eq, meets_iff, decide_eq_true_iff]
  have handed : s.handFiring capture detail = if met.isEmpty then
      if s.gate.firings.length < 16 then (.placed, listed (insertByStart new s.gate.firings)) else (.lost, s.occur .gateOverrun detail)
      else (.merged, listed (insertByStart (mergedFiring new met s.now) others)) := by
    rw [← met_eq, ← others_eq]
    rfl
  refine ⟨fun none room => ?_, fun none full => ?_, fun some_ => ?_⟩
  · have all : others = s.gate.firings := List.filter_eq_self.mpr fun f held => by
      have := List.filter_eq_nil_iff.mp none f held
      simpa using this
    refine ⟨insertByStart new s.gate.firings, all ▸ insertByStart_placed new _, ?_⟩
    rw [handed, none]
    exact if_pos room
  · rw [handed, none]
    exact if_neg (Nat.not_lt.mpr full)
  · have one : new.containers ≤ 255 := by simp [new]
    have none : new.count ≤ 255 := by simp [new]
    refine ⟨mergedFiring new met s.now, insertByStart (mergedFiring new met s.now) others, insertByStart_placed _ _,
      (joinAll_counts new met one none).1, ?_, rfl, (joinAll_mem new met).1, (joinAll_mem new met).2,
      fun nearStop nearMet => ?_, ?_⟩
    · exact (joinAll_counts new met one none).2.trans (by rw [Nat.zero_add])
    · have nears : IsNear start new.start := IsNear.self start
      obtain ⟨starts, stops⟩ := joinAll_bounds (point := start) new met nears nearStop nearMet
      have nearFirst (a : Time) (listed : a ∈ start :: met.map Firing.start) : IsNear start a := by
        simp only [List.mem_cons, List.mem_map] at listed
        rcases listed with rfl | ⟨g, held, rfl⟩
        · exact IsNear.self _
        · exact (nearMet g held).1
      have nearLast (a : Time) (listed : a ∈ stop :: met.map Firing.stop) : IsNear start a := by
        simp only [List.mem_cons, List.mem_map] at listed
        rcases listed with rfl | ⟨g, held, rfl⟩
        · exact nearStop
        · exact (nearMet g held).2
      refine ⟨fun a held => Bool.eq_false_iff.mpr fun earlier => ?_, fun b held => Bool.eq_false_iff.mpr fun later => ?_⟩
      · have := (before_of_near (nearFirst a held) (nearFirst _ (joinAll_mem new met).1)).mp earlier
        have := starts a held
        omega
      · have := (before_of_near (nearLast _ (joinAll_mem new met).2) (nearLast b held)).mp later
        have := stops b held
        omega
    · rw [handed, if_neg (by simpa using some_)]

/-! ## Firings timed and judged (R124 to R127) -/

/-- The first item that meets a test leaves. -/
theorem eraseP_append_cons {α : Type} {p : α → Bool} {older newer : List α} {x : α} (found : p x = true)
    (before : ∀ y ∈ older, p y = false) : (older ++ x :: newer).eraseP p = older ++ newer := by
  rw [List.eraseP_append_right _ (by simpa using before), List.eraseP_cons_of_pos found]

/-- The first item that meets a test is found. -/
theorem find_append_cons {α : Type} {p : α → Bool} {older newer : List α} {x : α} (found : p x = true)
    (before : ∀ y ∈ older, p y = false) : (older ++ x :: newer).find? p = some x := by
  rw [List.find?_append, List.find?_eq_none.mpr (by simpa using before), List.find?_cons_of_pos found]
  rfl

/-- A confirm edge that is due is taken with the sensor SENSED (R120, R125). -/
theorem exec_confirmEdge_due {s : State} {n : Nat} (listens : s.listening = true) (high : s.gate.confirm.raw = true)
    (still : s.gate.confirm.moved = false) (started : s.gate.confirm.timer = some n)
    (reached : s.cfg.track.confirmDebounce * 100 ≤ n) : exec .confirmEdge s = .next (
      let moved : State := { s with gate := { s.gate with confirm := ⟨true, true, none, true⟩ } }
      if s.running = true ∧ s.cfg.track.confirmWindowMs ≠ 0 then moved.giveEdge else moved) := by
  have due : s.gate.confirm.due (debounceMicros s.cfg.track.confirmDebounce) = true :=
    (Debouncer.due_iff _ _).mpr ⟨still, n, started, reached⟩
  rw [exec_effect (i := .confirmEdge) (by simp [occasion, listens, high])]
  simp only [effect, State.takeConfirm, due, high, if_true, Debouncer.settle_high high]
  simp

/-- An edge that no firing may take changes nothing (R125). -/
theorem State.giveEdge_none {s : State} (none : ∀ f ∈ s.gate.firings, f.phase = .waiting ∨ f.containers ≤ f.count) :
    s.giveEdge = s := by
  have takes : s.gate.firings.find? Firing.takesEdge = Option.none := List.find?_eq_none.mpr fun f held takes => by
    have both : f.phase ≠ .waiting ∧ f.count < f.containers := by simpa [Firing.takesEdge] using takes
    rcases none f held with waits | full
    · exact both.1 waits
    · omega
  rw [State.giveEdge, takes]

/-- Settles O52: firings are started, ended, confirmed and judged. -/
theorem firingsAreTimedAndJudged : Obligations.FiringsAreTimedAndJudged := by
  refine ⟨fun s => ?idle, fun s n listens high still started reached unused => ?edge, fun s older newer f runs list => ?acts⟩
  case idle =>
    intro waits
    refine ⟨fun no => exec_idle (i := .firingStart) (Bool.eq_false_iff.mpr fun due => ?_), fun no => ?_, fun no => ?_, fun no => ?_⟩
    · simp only [occasion, State.firingStartDue, Bool.and_eq_true, Bool.not_eq_true', Option.any_eq_true] at due
      obtain ⟨⟨runs, noneOn⟩, f, first, reached⟩ := due
      rcases no with (quiet | early) | ⟨g, held, on⟩
      · rw [runs] at quiet; cases quiet
      · rw [early f first] at reached; cases reached
      · exact List.any_eq_false.mp noneOn g held (by simpa [Firing.isOn] using on)
    · rcases no with quiet | early
      · exact exec_idle (i := .firingEnd) quiet
      · cases runs : s.running
        · exact exec_idle (i := .firingEnd) runs
        · refine (exec_effect (i := .firingEnd) runs).trans (congrArg _ ?_)
          rw [effect, State.firingEnds]
          cases first : s.gate.firings.find? Firing.isOn with
          | none => rfl
          | some f => exact if_neg (Bool.eq_false_iff.mp (early f first))
    · rcases no with quiet | early
      · exact exec_idle (i := .confirmWindowEnd) quiet
      · cases runs : s.running
        · exact exec_idle (i := .confirmWindowEnd) runs
        · refine (exec_effect (i := .confirmWindowEnd) runs).trans (congrArg _ ?_)
          rw [effect, State.confirmWindowEnds]
          cases first : s.gate.firings.find? Firing.isTail with
          | none => rfl
          | some f => exact if_neg (Bool.eq_false_iff.mp (early f first))
    · rcases no with low | early
      · exact exec_idle (i := .confirmEdge) (by simp [occasion, low])
      · cases stands : occasion .confirmEdge s
        · exact exec_idle stands
        · refine (exec_effect stands).trans (congrArg _ ?_)
          exact if_neg (Bool.eq_false_iff.mp (Debouncer.due_not early))
  case edge =>
    rw [exec_confirmEdge_due listens high still started reached]
    refine congrArg _ ?_
    split
    case isFalse => rfl
    case isTrue on =>
      refine State.giveEdge_none fun f held => ?_
      rcases unused with off | joining | all
      · exact absurd off on.2
      · have runs : s.loader.station = .running := by simpa [State.running] using on.1
        rw [runs] at joining; cases joining
      · exact all f held
  case acts =>
    intro window gated confirmed
    have withFirings (l : List Firing) : s.withFirings l = gated s.gate l := rfl
    refine ⟨fun noneOn waits before due => ?starts, fun on before due => ?ends, fun n high still started reached on active room before => ?edge,
      fun tail before due => ?window⟩
    case starts =>
      have test : ∀ y ∈ older, Firing.isWaiting y = false := by simpa [Firing.isWaiting] using before
      have is : Firing.isWaiting f = true := by simp [Firing.isWaiting, waits]
      have stands : s.firingStartDue = true := by
        have quiet : s.gate.firings.any Firing.isOn = false := List.any_eq_false.mpr fun o held => by
          simpa [Firing.isOn] using noneOn o held
        rw [State.firingStartDue, runs, quiet, list, find_append_cons is test]
        simpa using due
      rw [exec_effect (i := .firingStart) stands, effect, list, modifyFirst_append _ _ _ _ _ test is]
      rfl
    case ends =>
      have test : ∀ y ∈ older, Firing.isOn y = false := by simpa [Firing.isOn] using before
      have is : Firing.isOn f = true := by simp [Firing.isOn, on]
      have ends : s.firingEnds = s.endFiring f := by
        rw [State.firingEnds, list, find_append_cons is test]
        exact if_pos due
      rw [exec_effect (i := .firingEnd) runs, effect, ends, State.endFiring, list, eraseP_append_cons is test,
        modifyFirst_append _ _ _ _ _ test is]
      rfl
    case edge =>
      have test : ∀ y ∈ older, Firing.takesEdge y = false := fun y held => by
        rcases before y held with waits | full
        · simp [Firing.takesEdge, waits]
        · simp [Firing.takesEdge, full]
      have is : Firing.takesEdge f = true := by simp [Firing.takesEdge, active, room]
      rw [exec_confirmEdge_due (State.listening_of_running runs) high still started reached]
      refine congrArg _ ((if_pos ⟨runs, on⟩).trans ?_)
      simp only [State.giveEdge, list, find_append_cons is test, eraseP_append_cons is test, modifyFirst_append _ _ _ _ _ test is]
      by_cases last : f.phase = .tail ∧ f.containers ≤ f.count + 1
      · rw [if_pos last, if_pos (by simpa using last)]
        rfl
      · rw [if_neg last, if_neg (by simpa using last)]
        rfl
    case window =>
      have test : ∀ y ∈ older, Firing.isTail y = false := by simpa [Firing.isTail] using before
      have is : Firing.isTail f = true := by simp [Firing.isTail, tail]
      intro row latched left
      have ends : s.confirmWindowEnds = (s.withFirings (older ++ newer)).firingUnconfirmed f.count := by
        rw [State.confirmWindowEnds, list, find_append_cons is test, eraseP_append_cons is test]
        exact if_pos due
      rw [exec_effect (i := .confirmWindowEnd) runs, effect, ends, State.firingUnconfirmed]
      refine congrArg _ ?_
      by_cases third : row = 3
      · rw [if_pos third]
        refine (if_pos third).trans ?_
        have flag : (s.gate.fault || row = 3) = true := by simp [third]
        simp only [left, flag]
        rfl
      · rw [if_neg third]
        refine (if_neg third).trans ?_
        have flag : (s.gate.fault || row = 3) = s.gate.fault := by simp [third]
        simp only [left, flag]
        rfl

end Sys2Proof.Machine

/-! PROOFS of the statements on the end of a round: quality, silence and what follows (R11 to R17, R28). -/

namespace Sys2Proof.Machine

/-! ## The latches of the sources (R175) -/

/-- The sources have different numbers (R176). -/
theorem sourceNumber_injective : Function.Injective sourceNumber := by
  refine Function.LeftInverse.injective (g := fun i => [EventSource.intrusion, .discrepancy, .doorOverdue, .peerAbsent,
    .peerReturned, .timeQuality, .timeDisagree, .addressClash, .headFault, .doseLate, .cameraLink, .cameraStray, .strobeSkip,
    .gateUnconfirmed, .gateFault, .gateOverrun, .trackOverflow, .arrivalLost, .arrivalOverflow, .handoverLate, .txDrop,
    .lineFault, .accessHeld, .configClamped].getD i .intrusion) fun e => ?_
  cases e <;> rfl

/-- An occurrence is gathered at the latch of its source (R175). -/
theorem State.occur_latchOf_same {s : State} (e : EventSource) (detail : Byte) (bank : s.latches.length = 24) :
    (s.occur e detail).latchOf e = (s.latchOf e).occur s.now s.clock.localTime detail := by
  have inBank : sourceNumber e < s.latches.length := bank ▸ sourceNumber_lt e
  simp only [State.latchOf, State.latch, State.occur_latches, List.getD_eq_getElem?_getD, List.getElem?_modify]
  simp [inBank]

/-- An occurrence leaves the latches of the other sources (R175). -/
theorem State.occur_latchOf_other (s : State) {e k : EventSource} (detail : Byte) (other : e ≠ k) :
    (s.occur e detail).latchOf k = s.latchOf k := by
  have places : sourceNumber e ≠ sourceNumber k := fun same => other (sourceNumber_injective same)
  simp only [State.latchOf, State.latch, State.occur_latches, List.getD_eq_getElem?_getD, List.getElem?_modify, if_neg places,
    Option.map_eq_map, Option.map_id']

/-- Equal latches are equal at every source. -/
theorem State.latchOf_congr {s t : State} (latches : t.latches = s.latches) (e : EventSource) : t.latchOf e = s.latchOf e := by
  rw [State.latchOf, State.latch, latches]; rfl

/-- An occurrence leaves the size of the bank. -/
theorem State.occur_bank (s : State) (e : EventSource) (detail : Byte) : (s.occur e detail).latches.length = s.latches.length := by
  simp

/-! ## What run permission latches: DOSE_LATE and TX_DROP alone -/

/-- The handover of a frame latches TX_DROP alone (R169). -/
theorem State.handOver_latchOf (s : State) (fr : OutFrame) (cls : Nat) {e : EventSource} (other : e ≠ .txDrop) :
    (s.handOver fr cls).latchOf e = s.latchOf e := by
  have dropped (u : State) (kind : FrameKind) : (u.txDrop kind).latchOf e = u.latchOf e := by
    rw [State.txDrop, State.latchOf_congr (State.count_latches _ _), State.occur_latchOf_other _ _ other.symm]
  unfold State.handOver
  repeat' split
  · rfl
  · rw [dropped]; rfl
  · rw [dropped]
  · rw [dropped]

/-- The end of a jog latches TX_DROP alone (R97). -/
theorem State.endJog_latchOf (s : State) (h : Nat) (cause : JogCause) {e : EventSource} (other : e ≠ .txDrop) :
    (s.endJog h cause).latchOf e = s.latchOf e := by
  unfold State.endJog
  split
  · rfl
  · exact State.handOver_latchOf _ _ _ other

/-- The readiness test latches TX_DROP alone (R146). -/
theorem State.testReady_latchOf (s : State) (h : Nat) {e : EventSource} (other : e ≠ .txDrop) :
    (s.testReady h).latchOf e = s.latchOf e := by
  unfold State.testReady
  repeat' split
  · rfl
  · exact State.handOver_latchOf _ _ _ other
  · rfl

/-- The end of a dose latches DOSE_LATE and TX_DROP alone (R94, R146). -/
theorem State.endDose_latchOf (s : State) (h : Nat) (result : FillResult) (meter : Nat) {e : EventSource} (other : e ≠ .txDrop)
    (notLate : e ≠ .doseLate) : (s.endDose h result meter).latchOf e = s.latchOf e := by
  have delivered (n : Word32) (f : Fill) : (s.deliverFill h n f).latchOf e = s.latchOf e := by
    unfold State.deliverFill
    split
    · rfl
    · exact State.occur_latchOf_other _ _ notLate.symm
  have ended (d : DoseInHand) (c : Counter) : (((s.deliverFill h d.sequence ⟨result, meter⟩).count c).setHead h fun x =>
      x.endDose result).latchOf e = s.latchOf e := (State.latchOf_congr rfl e).trans (delivered d.sequence ⟨result, meter⟩)
  unfold State.endDose
  split
  · rfl
  · dsimp only
    split
    · rw [State.testReady_latchOf _ _ other, ended]
    · rw [ended]

/-- A fall of run permission at a head latches DOSE_LATE and TX_DROP alone (R89, R97). -/
theorem State.permissionLost_latchOf (s : State) (h : Nat) {e : EventSource} (other : e ≠ .txDrop) (notLate : e ≠ .doseLate) :
    (s.permissionLost h).latchOf e = s.latchOf e := by
  have suspended : (s.suspend h).latchOf e = s.latchOf e := by
    unfold State.suspend
    split
    · rfl
    · dsimp only
      split
      · rw [State.endDose_latchOf _ _ _ _ other notLate]; rfl
      · rfl
  unfold State.permissionLost
  split
  · exact suspended
  · exact State.endJog_latchOf _ _ _ other

/-- Run permission following its conditions latches DOSE_LATE and TX_DROP alone (R44). -/
theorem State.followConditions_latchOf (s : State) {e : EventSource} (other : e ≠ .txDrop) (notLate : e ≠ .doseLate) :
    s.followConditions.latchOf e = s.latchOf e :=
  State.followConditions_keeps (State.latchOf · e) (fun u h => u.permissionLost_latchOf h other notLate)
    (fun u h => State.latchOf_congr (by simp) e) (fun u => State.latchOf_congr (by simp) e) (fun _ _ _ => rfl) s

/-! ## Quality (R15 to R17) -/

/-- The quality of R16, with the limits of a synchronous round as "at most". -/
theorem nextQuality_eq (quality : Quality) (outcome : Option Int) (good empty : Nat) :
    nextQuality quality outcome good empty = match quality, outcome with
      | .free, some _ => .acquire
      | .free, none => .free
      | .acquire, some c => if c.natAbs ≤ 50 ∧ 8 ≤ good then .synced else .acquire
      | .acquire, none => if 3 ≤ empty then .free else .acquire
      | .synced, some c => if c.natAbs ≤ 1000 then .synced else .acquire
      | .synced, none => .holdover
      | .holdover, some c => if c.natAbs ≤ 50 then .synced else .acquire
      | .holdover, none => if 500 ≤ empty then .free else .holdover := by
  cases quality <;> cases outcome <;> try rfl
  case synced.some c =>
    by_cases large : 1000 < c.natAbs
    · simp [nextQuality, large]
    · simp [nextQuality, large, Nat.not_lt.mp large]

/-- A new quality latches TIME_QUALITY where it is a change (R17). -/
theorem State.setQuality_latches (s : State) (q : Quality) :
    (s.setQuality q).latches = (if q = s.clock.quality then s else s.occur .timeQuality (qualityCode q)).latches := by
  unfold State.setQuality
  split <;> rfl

/-- An occurrence depends on the latches and on the two clocks alone. -/
theorem State.occur_latches_congr {s t : State} (latches : t.latches = s.latches) (now : t.now = s.now)
    (localTime : t.clock.localTime = s.clock.localTime) (e : EventSource) (detail : Byte) :
    (t.occur e detail).latches = (s.occur e detail).latches := by
  rw [State.occur_latches, State.occur_latches, latches, now, localTime]

/-- TIME_QUALITY latched where the quality has changed (R17). -/
def State.qualityLatched (s : State) (next : Quality) : State :=
  if next = s.clock.quality then s else s.occur .timeQuality (qualityCode next)

/-- TIME_QUALITY latched leaves the two clocks. -/
theorem State.qualityLatched_clock (s : State) (next : Quality) : (s.qualityLatched next).clock = s.clock := by
  unfold State.qualityLatched
  split <;> rfl

/-- A correction at which a SYNCED station disagrees (R17). -/
def State.disagrees (s : State) (outcome : Option Int) : Prop :=
  s.clock.quality = .synced ∧ ∃ c, outcome = some c ∧ 1000 < c.natAbs

/-- The latches as the quality moves: TIME_QUALITY on a change, TIME_DISAGREE on a large correction of a SYNCED station (R17). -/
theorem State.moveQuality_latches (s : State) (outcome : Option Int) (n : Nat) {next : Quality}
    (moves : nextQuality s.clock.quality outcome (nextGood s.clock.goodRounds outcome)
      (nextEmpty s.clock.emptyRounds outcome) = next) :
    (s.disagrees outcome → (s.moveQuality outcome n).latches = ((s.qualityLatched next).occur .timeDisagree (byte n)).latches) ∧
    (¬s.disagrees outcome → (s.moveQuality outcome n).latches = (s.qualityLatched next).latches) := by
  have large : (s.clock.quality = .synced && outcome.any fun c => 1000 < c.natAbs) = true ↔ s.disagrees outcome := by
    simp [State.disagrees, Option.any_eq_true]
  rw [State.moveQuality, moves]
  generalize nextGood s.clock.goodRounds outcome = good
  generalize nextEmpty s.clock.emptyRounds outcome = empty
  generalize counts : ({ s with clock := { s.clock with
    goodRounds := if next = s.clock.quality then good else 0, emptyRounds := empty } } : State) = counted
  have latches : (counted.setQuality next).latches = (s.qualityLatched next).latches := by
    rw [State.setQuality_latches, ← counts, State.qualityLatched]
    split <;> rfl
  have now : (counted.setQuality next).now = (s.qualityLatched next).now := by
    rw [State.now, State.now, State.setQuality_clock, State.qualityLatched_clock, ← counts]
  have localTime : (counted.setQuality next).clock.localTime = (s.qualityLatched next).clock.localTime := by
    rw [State.setQuality_clock, State.qualityLatched_clock, ← counts]
  refine ⟨fun disagrees => ?_, fun agrees => ?_⟩
  · exact (congrArg State.latches (if_pos (large.mpr disagrees))).trans (State.occur_latches_congr latches now localTime _ _)
  · exact (congrArg State.latches (if_neg (mt large.mp agrees))).trans latches

/-! ## Silence (R28) -/

/-- An entry at the end of a round, its mark of the round cleared and its silence advanced (R22, R28). -/
theorem Peer.advanceSilence_eq (limit : Nat) (p : Peer) : ({ p with inRound := false } : Peer).advanceSilence limit =
    { p with
      inRound := false, heard := false
      silence := if p.presence = .present ∧ p.heard = false then p.silence + 1 else p.silence
      presence := if (p.presence = .present ∧ p.heard = false) ∧ p.silence + 1 = limit then .absent else p.presence
      report := if (p.presence = .present ∧ p.heard = false) ∧ p.silence + 1 = limit then none else p.report } := by
  unfold Peer.advanceSilence Peer.fallsSilent
  by_cases silent : p.presence = .present ∧ p.heard = false
  · by_cases last : p.silence + 1 = limit <;> simp [silent.1, silent.2, last]
  · by_cases present : p.presence = .present
    · have heard : p.heard = true := by simpa [present] using silent
      simp [present, heard]
    · simp [present]

/-- Where one entry alone falls silent, PEER_ABSENT is latched with its address (R28). -/
theorem foldl_latchAbsent (s : State) (entries : List Peer) (limit i n : Nat)
    (only : ∀ k < n, (entries.getD k Peer.atReset).fallsSilent limit = true ↔ k = i) :
    (List.range n).foldl (fun u k => u.latchAbsent entries limit k) s =
      if i < n then s.occur .peerAbsent (byte (i + 1)) else s := by
  induction n with
  | zero => rfl
  | succ n ih =>
    rw [List.range_succ, List.foldl_append, ih fun k below => only k (by omega), List.foldl_cons, List.foldl_nil, State.latchAbsent]
    have last := only n (by omega)
    by_cases same : n = i
    · subst same
      rw [if_pos (last.mpr rfl), if_neg (by omega), if_pos (by omega)]
    · rw [if_neg (mt last.mp same)]
      have le : i < n + 1 ↔ i < n := by omega
      simp only [le]

/-- The state of a round end before run permission follows (R11 to R28). -/
def State.silenced (s : State) : State :=
  { (List.range s.placeBeacon.converge.clearMarks.advanceDue.peers.length).foldl
      (fun u i => u.latchAbsent s.placeBeacon.converge.clearMarks.advanceDue.peers s.cfg.hall.absentLimit i)
      s.placeBeacon.converge.clearMarks.advanceDue with
    peers := s.peers.map fun p => ({ p with inRound := false } : Peer).advanceSilence s.cfg.hall.absentLimit }

/-- A round end is that state, with run permission following (R28, R44). -/
theorem State.endRound_eq (s : State) : s.endRound = s.silenced.followConditions := by
  have cfg : s.placeBeacon.converge.clearMarks.advanceDue.cfg = s.cfg := State.cfg_congr (by simp)
  have peers : s.placeBeacon.converge.clearMarks.advanceDue.peers = s.peers.map fun p => { p with inRound := false } := by
    simp [State.clearMarks]
  rw [State.endRound, State.advanceSilence, State.silenced, cfg]
  simp only [peers, List.map_map]
  rfl

/-- Before run permission follows, a round end leaves what is not of the clock, the peers, the latches, the beacon and a stamp. -/
theorem State.silenced_rest (s : State) : s.silenced = { s with
    clock := s.silenced.clock
    line := { s.line with bcnSlot := s.silenced.line.bcnSlot, rx := s.silenced.line.rx }
    latches := s.silenced.latches
    peers := s.silenced.peers } := by
  have latched {α : Type} (g : State → α) (kept : ∀ (u : State) ps l i, g (u.latchAbsent ps l i) = g u)
      (own : ∀ (u : State) ps, g { u with peers := ps } = g u) (rest : g s.placeBeacon.converge.clearMarks.advanceDue = g s) :
      g s.silenced = g s := by
    rw [State.silenced, own, foldl_keeps g _ (fun u i => kept u _ _ i), rest]
  have loader := latched State.loader (by simp) (fun _ _ => rfl) (by simp)
  have cabinet := latched State.cabinet (by simp) (fun _ _ => rfl) (by simp)
  have tracking := latched State.tracking (by simp) (fun _ _ => rfl) (by simp)
  have heads := latched State.heads (by simp) (fun _ _ => rfl) (by simp)
  have portA := latched State.portA (by simp) (fun _ _ => rfl) (by simp)
  have portB := latched State.portB (by simp) (fun _ _ => rfl) (by simp)
  have gate := latched State.gate (by simp) (fun _ _ => rfl) (by simp)
  have access := latched State.access (by simp) (fun _ _ => rfl) (by simp)
  have counters := latched State.counters (by simp) (fun _ _ => rfl) (by simp)
  have pending := latched State.pending (by simp) (fun _ _ => rfl) (by simp)
  have beacon : s.placeBeacon.line = { s.line with bcnSlot := s.placeBeacon.line.bcnSlot } := by
    unfold State.placeBeacon
    split <;> rfl
  have converged (u : State) : u.converge.line = { u.line with rx := u.converge.line.rx } := by
    cases heard : roundOutcome u.includedOffsets with
    | none => simp [State.converge_empty heard]
    | some c =>
      rw [State.converge_heard heard, State.correctTime]
      split <;> simp [State.stepTime, State.slewTime]
  have line : s.silenced.line = { s.line with bcnSlot := s.silenced.line.bcnSlot, rx := s.silenced.line.rx } := by
    have own : s.silenced.line = s.placeBeacon.converge.line := by
      rw [State.silenced]
      exact (foldl_keeps State.line _ (fun u i => by simp) _ _).trans (by simp)
    rw [own, converged, beacon]
  calc s.silenced = ⟨s.silenced.loader, s.silenced.clock, s.silenced.peers, s.silenced.cabinet, s.silenced.tracking,
        s.silenced.heads, s.silenced.portA, s.silenced.portB, s.silenced.gate, s.silenced.access, s.silenced.latches,
        s.silenced.counters, s.silenced.line, s.silenced.pending⟩ := rfl
    _ = _ := by
      conv_lhs => rw [loader, cabinet, tracking, heads, portA, portB, gate, access, counters, pending, line]

/-- The latches of a round end (R17, R28): those of the quality, then those of the silence. -/
theorem State.converge_latches (s : State) :
    s.converge.latches = (s.moveQuality (roundOutcome s.includedOffsets) s.includedOffsets.length).latches := by
  cases heard : roundOutcome s.includedOffsets with
  | none => rw [State.converge_empty heard]
  | some c =>
    rw [State.converge_heard heard, State.correctTime]
    split <;> rfl

/-- The bank of a round end before its silence is that of its quality. -/
theorem State.converged_latches (s : State) : s.placeBeacon.converge.clearMarks.advanceDue.latches =
    (s.placeBeacon.moveQuality (roundOutcome s.includedOffsets) s.includedOffsets.length).latches := by
  rw [State.advanceDue_latches, State.clearMarks_latches, State.converge_latches, State.placeBeacon_includedOffsets]

/-- Before run permission follows, the silence of the peers latches PEER_ABSENT alone (R28). -/
theorem State.silenced_latchOf (s : State) {e : EventSource} (notAbsent : e ≠ .peerAbsent) : s.silenced.latchOf e =
    (s.placeBeacon.moveQuality (roundOutcome s.includedOffsets) s.includedOffsets.length).latchOf e := by
  rw [← State.latchOf_congr s.converged_latches e]
  refine (State.latchOf_congr rfl e).trans (foldl_keeps (State.latchOf · e) _ (fun u i => ?_) _ _)
  unfold State.latchAbsent
  split
  · exact State.occur_latchOf_other _ _ notAbsent.symm
  · rfl

/-- A latch of a source other than TX_DROP, DOSE_LATE and PEER_ABSENT after a round end. -/
theorem State.endRound_latchOf (s : State) {e : EventSource} (other : e ≠ .txDrop) (notLate : e ≠ .doseLate)
    (notAbsent : e ≠ .peerAbsent) : s.endRound.latchOf e =
      (s.placeBeacon.moveQuality (roundOutcome s.includedOffsets) s.includedOffsets.length).latchOf e := by
  rw [State.endRound_eq, State.followConditions_latchOf _ other notLate, s.silenced_latchOf notAbsent]

/-- The quality of a round end latches TIME_QUALITY and TIME_DISAGREE alone (R17). -/
theorem State.moveQuality_latchOf (s : State) (outcome : Option Int) (n : Nat) {e : EventSource} (noQuality : e ≠ .timeQuality)
    (noDisagree : e ≠ .timeDisagree) : (s.moveQuality outcome n).latchOf e = s.latchOf e := by
  have kept (next : Quality) : (s.qualityLatched next).latchOf e = s.latchOf e := by
    unfold State.qualityLatched
    split
    · rfl
    · exact State.occur_latchOf_other _ _ noQuality.symm
  obtain ⟨large, small⟩ := s.moveQuality_latches outcome n rfl
  by_cases disagrees : s.disagrees outcome
  · rw [State.latchOf_congr (large disagrees), State.occur_latchOf_other _ _ noDisagree.symm, kept]
  · rw [State.latchOf_congr (small disagrees), kept]

/-- The quality of a round end leaves the size of the bank. -/
theorem State.moveQuality_bank (s : State) (outcome : Option Int) (n : Nat) :
    (s.moveQuality outcome n).latches.length = s.latches.length := by
  have kept (next : Quality) : (s.qualityLatched next).latches.length = s.latches.length := by
    unfold State.qualityLatched
    split
    · rfl
    · exact State.occur_bank _ _ _
  obtain ⟨large, small⟩ := s.moveQuality_latches outcome n rfl
  by_cases disagrees : s.disagrees outcome
  · rw [large disagrees, State.occur_bank, kept]
  · rw [small disagrees, kept]

/-! ## The end of a round -/

/-- Before its due point, or outside RUNNING, a round does not end (R7, R11). -/
theorem State.roundDue_not {s : State} (no : s.running = false ∨ ∀ due, s.clock.nextDue = some due → reached due s.now = false) :
    s.roundDue = false := by
  refine Bool.eq_false_iff.mpr fun yes => ?_
  rw [State.roundDue, Bool.and_eq_true, Option.any_eq_true] at yes
  obtain ⟨runs, due, next, reach⟩ := yes
  rcases no with quiet | early
  · rw [runs] at quiet; cases quiet
  · rw [early due next] at reach; cases reach

/-- Settles O13: the quality, the counters and the two latches of a round end. -/
theorem roundEndMovesQuality : Obligations.RoundEndMovesQuality := by
  refine ⟨fun s no => exec_idle (i := .roundEnd) (State.roundDue_not no), fun s due runs next reach =>
    ⟨s.endRound, exec_roundEnd runs next reach, ?_⟩⟩
  intro outcome good empty
  have good_eq : nextGood s.clock.goodRounds outcome = good := by
    simp only [good]
    generalize outcome = o
    cases o <;> rfl
  have empty_eq : nextEmpty s.clock.emptyRounds outcome = empty := by
    simp only [empty]
    generalize outcome = o
    cases o <;> rfl
  have clock : s.endRound.clock.quality = nextQuality s.clock.quality outcome good empty ∧
      s.endRound.clock.goodRounds = (if nextQuality s.clock.quality outcome good empty = s.clock.quality then good else 0) ∧
      s.endRound.clock.emptyRounds = empty := by
    rw [← good_eq, ← empty_eq, State.endRound_clock]
    simp only [outcome]
    cases heard : roundOutcome s.includedOffsets with
    | none => simp [State.converge_empty, State.moveQuality_clock, heard]
    | some c =>
      rw [State.converge_heard (c := c) (by rw [State.placeBeacon_includedOffsets, heard]), State.correctTime]
      split <;> simp [State.stepTime, State.slewTime, State.moveQuality_clock]
  obtain ⟨quality, goodRounds, emptyRounds⟩ := clock
  have before (e : EventSource) : s.placeBeacon.latchOf e = s.latchOf e := State.latchOf_congr (State.placeBeacon_latches s) e
  have bank : s.placeBeacon.latches.length = s.latches.length := by rw [State.placeBeacon_latches]
  have now : s.placeBeacon.now = s.now ∧ s.placeBeacon.clock.localTime = s.clock.localTime := by
    rw [State.now, State.placeBeacon_clock]; exact ⟨rfl, rfl⟩
  have was : s.placeBeacon.clock.quality = s.clock.quality := by rw [State.placeBeacon_clock]
  have latches := State.moveQuality_latches s.placeBeacon outcome s.includedOffsets.length (next := s.endRound.clock.quality)
    (by rw [State.placeBeacon_clock, good_eq, empty_eq, quality])
  have disagrees : s.placeBeacon.disagrees outcome ↔ s.clock.quality = .synced ∧ ∃ c, outcome = some c ∧ 1000 < c.natAbs := by
    rw [State.disagrees, was]
  have clear_quality (full : s.latches.length = 24) {k : Nat} (clear : s.latchOf .timeQuality = Latch.clear k) :
      (s.placeBeacon.qualityLatched s.endRound.clock.quality).latchOf .timeQuality =
        if s.endRound.clock.quality = s.clock.quality then Latch.clear k else
          (Latch.clear k).occur s.now s.clock.localTime (qualityCode s.endRound.clock.quality) := by
    rw [State.qualityLatched, was]
    split
    · rw [before, clear]
    · rw [State.occur_latchOf_same _ _ (bank.trans full), before, clear, now.1, now.2]
  have kept_disagree : (s.placeBeacon.qualityLatched s.endRound.clock.quality).latchOf .timeDisagree = s.latchOf .timeDisagree := by
    rw [State.qualityLatched]
    split
    · exact before _
    · rw [State.occur_latchOf_other _ _ (by decide), before]
  have after (e : EventSource) (is : e = .timeQuality ∨ e = .timeDisagree) : s.endRound.latchOf e =
      (s.placeBeacon.moveQuality outcome s.includedOffsets.length).latchOf e := by
    rcases is with rfl | rfl <;> exact State.endRound_latchOf s (by decide) (by decide) (by decide)
  refine ⟨quality.trans (nextQuality_eq ..), by rw [goodRounds, quality], emptyRounds, fun full k clear => ?_, fun full k clear => ?_⟩
  · have latched : s.endRound.latchOf .timeQuality = if s.endRound.clock.quality = s.clock.quality then Latch.clear k else
        (Latch.clear k).occur s.now s.clock.localTime (qualityCode s.endRound.clock.quality) := by
      rw [← clear_quality full clear, after _ (.inl rfl)]
      by_cases large : s.placeBeacon.disagrees outcome
      · rw [State.latchOf_congr (latches.1 large), State.occur_latchOf_other _ _ (by decide)]
      · rw [State.latchOf_congr (latches.2 large)]
    rw [latched]
    generalize s.endRound.clock.quality = q
    cases q <;> rfl
  · have lengths : (s.placeBeacon.qualityLatched s.endRound.clock.quality).latches.length = 24 := by
      rw [State.qualityLatched]
      split
      · exact bank.trans full
      · rw [State.occur_bank]; exact bank.trans full
    have nows : (s.placeBeacon.qualityLatched s.endRound.clock.quality).now = s.now := by
      rw [State.now, State.qualityLatched_clock]; exact now.1
    rw [← disagrees, after _ (.inr rfl)]
    by_cases large : s.placeBeacon.disagrees outcome
    · rw [State.latchOf_congr (latches.1 large), State.occur_latchOf_same _ _ lengths, kept_disagree, clear, nows]
      exact ⟨⟨fun _ => large, fun _ => rfl⟩, fun _ => rfl⟩
    · rw [State.latchOf_congr (latches.2 large), kept_disagree, clear]
      have quiet : (Latch.clear k).pending = false := rfl
      rw [quiet]
      exact ⟨⟨fun yes => (by cases yes), fun yes => absurd yes large⟩, fun yes => (by cases yes)⟩

/-- Run permission following its conditions leaves the pocket. -/
theorem State.followConditions_pocket (s : State) : s.followConditions.tracking.pocket = s.tracking.pocket := by
  have delivered (u : State) (h : Nat) (n : Word32) (f : Fill) : (u.deliverFill h n f).tracking.pocket = u.tracking.pocket := by
    unfold State.deliverFill
    split <;> rfl
  have ended (u : State) (h : Nat) (r : FillResult) (m : Nat) : (u.endDose h r m).tracking.pocket = u.tracking.pocket := by
    unfold State.endDose
    split
    · rfl
    · dsimp only
      split <;> simp [delivered]
  have suspended (u : State) (h : Nat) : (u.suspend h).tracking.pocket = u.tracking.pocket := by
    unfold State.suspend
    split
    · rfl
    · dsimp only
      split <;> simp [ended]
  refine State.followConditions_keeps (·.tracking.pocket) (fun u h => ?_) (by simp) (by simp) (fun _ _ _ => rfl) s
  unfold State.permissionLost
  split
  · exact suspended u h
  · simp

/-- Settles O15: silence at a round end, what it latches, and what follows for run permission. -/
theorem roundEndAdvancesSilence : Obligations.RoundEndAdvancesSilence := by
  intro s due runs next reach table bank silent falls
  have cfg : s.silenced.cfg = s.cfg := State.cfg_congr (by rw [State.silenced_rest])
  obtain ⟨clock, peersKept, portA, portB, gate, -⟩ := State.followConditions_frame s.silenced
  obtain ⟨arrivals, lockMode, -⟩ := State.followConditions_others s.silenced
  obtain ⟨rx, bcnSlot⟩ := State.followConditions_slots s.silenced
  have peers : s.silenced.peers = s.peers.map fun p => { p with
      inRound := false, heard := false
      silence := if silent p then p.silence + 1 else p.silence
      presence := if falls p then .absent else p.presence
      report := if falls p then none else p.report } :=
    List.map_congr_left fun p _ => Peer.advanceSilence_eq s.cfg.hall.absentLimit p
  refine ⟨s.silenced.followConditions, s.silenced, (exec_roundEnd runs next reach).trans (congrArg _ s.endRound_eq), rfl, ?_,
    fun e noQuality noDisagree noAbsent => ?_, peersKept, ?_, ?_, ?_, ?_, ?_, ?_, fun ⟨p, listed, dependent, gone⟩ => ?_,
    fun k clear a low high only => ?_⟩
  · rw [clock, rx, bcnSlot, ← peers]
    exact s.silenced_rest
  · rw [s.silenced_latchOf noAbsent, State.moveQuality_latchOf _ _ _ noQuality noDisagree,
      State.latchOf_congr (State.placeBeacon_latches s)]
  · rw [gate, s.silenced_rest]
  · rw [portA, s.silenced_rest]
  · rw [portB, s.silenced_rest]
  · rw [arrivals, s.silenced_rest]
  · rw [State.followConditions_pocket, s.silenced_rest]
  · rw [lockMode, s.silenced_rest]
  · have fail : s.silenced.runConditions = false := by
      refine State.runConditions_denied (p := ({ p with inRound := false } : Peer).advanceSilence s.cfg.hall.absentLimit)
        (List.mem_map_of_mem listed) ?_ fun r report => ?_
      · rw [Peer.advanceSilence_eq]
        exact dependent
      · rw [Peer.advanceSilence_eq] at report
        have none : (if falls p then Option.none else p.report) = some r := report
        rw [if_pos gone] at none
        cases none
    have cabinet : s.silenced.cabinet = s.cabinet := by rw [s.silenced_rest]
    refine ⟨by simp [State.followConditions_denied fail], by simp [State.followConditions_denied fail], fun up => ?_⟩
    rw [(State.followConditions_fails fail).2 (by rw [cabinet]; exact up)]
    refine ⟨by simp [State.permissionFalls_rest], fun h _ fitted sound => ?_⟩
    have head : s.silenced.permissionFalls.head h = (s.head h).loses s.cfg.dosing.resumeMs := by
      rw [State.permissionFalls_head, cfg, if_pos fitted, State.head_congr (s := s) (by rw [s.silenced_rest])]
    rw [head]
    exact Head.loses_drives_nothing _ sound
  · generalize converged : s.placeBeacon.converge.clearMarks.advanceDue = v
    have vPeers : v.peers = s.peers.map fun p => { p with inRound := false } := by
      rw [← converged]; simp [State.clearMarks]
    have vLatches := converged ▸ s.converged_latches
    have vBank : v.latches.length = 24 := by
      rw [vLatches, State.moveQuality_bank, State.placeBeacon_latches, bank]
    have vLatch : v.latchOf .peerAbsent = Latch.clear k := by
      rw [State.latchOf_congr vLatches, State.moveQuality_latchOf _ _ _ (by decide) (by decide),
        State.latchOf_congr (State.placeBeacon_latches s), clear]
    have vLength : v.peers.length = 30 := by rw [vPeers, List.length_map, table]
    have alone : ∀ i < 30, (v.peers.getD i Peer.atReset).fallsSilent s.cfg.hall.absentLimit = true ↔ i = a - 1 := by
      intro i below
      have entry : v.peers.getD i Peer.atReset = { s.peer (i + 1) with inRound := false } := by
        simp [vPeers, State.peer, List.getD_eq_getElem?_getD, table, below]
      have one := only (i + 1) (by omega) (by omega)
      rw [entry]
      simp only [Peer.fallsSilent, Bool.and_eq_true, decide_eq_true_eq, Bool.not_eq_true', and_assoc]
      rw [one]
      omega
    have latches : s.silenced.latches = (v.occur .peerAbsent (byte a)).latches := by
      simp only [State.silenced, converged, vLength]
      rw [foldl_latchAbsent v v.peers s.cfg.hall.absentLimit (a - 1) 30 alone, if_pos (by omega), Nat.sub_add_cancel low]
    have now : s.silenced.followConditions.now = v.now := by
      rw [State.now, clock, State.silenced]
      simp only [converged]
      rw [foldl_keeps State.clock _ (fun u i => by simp) _ v]
      rfl
    rw [State.followConditions_latchOf _ (by decide) (by decide), State.latchOf_congr latches,
      State.occur_latchOf_same _ _ vBank, vLatch, now]
    rfl

end Sys2Proof.Machine

/-! PROOFS of the statements on the end of LOADING and of JOINING (R22, R195, R196). -/

namespace Sys2Proof.Machine

/-! ## Run permission from rest (R44) -/

/-- Run permission that is down with its timer stopped, where the CAB slot waits to be sent: it rises at once, or its timer
starts, or it stays (R44). -/
theorem State.followConditions_rests {s : State} (down : s.cabinet.permission = false) (stopped : s.cabinet.restore = none)
    (waits : s.line.cabSlot = .pending) : s.followConditions = { s with
      cabinet := { s.cabinet with
        permission := s.runConditions && s.cfg.hall.restoreMs = 0
        restore := if s.runConditions = true ∧ s.cfg.hall.restoreMs ≠ 0 then some 0 else none }
      loader := s.followConditions.loader
      heads := s.followConditions.heads } := by
  have announced : s.line.announced s.running = s.line := by
    unfold LinePort.announced
    split
    · rw [waits]
    · rfl
  cases hold : s.runConditions
  · rw [(State.followConditions_fails hold).1 down]
    simp [← down]
  · by_cases atOnce : s.cfg.hall.restoreMs = 0
    · rw [(State.followConditions_holds hold).2 down stopped, if_pos atOnce, State.permissionRises_eq, State.announce_eq]
      simp only [atOnce, State.running] at announced ⊢
      simp [announced]
    · rw [(State.followConditions_holds hold).2 down stopped, if_neg atOnce]
      simp [atOnce, ← down]

/-! ## CONFIG_CLAMPED (R17, R196) -/

/-- What several occurrences in one microsecond leave in a clear latch: their number, the stamp, and the last detail (R175). -/
theorem foldl_occur_clear {s : State} {e : EventSource} {k : Nat} (bank : s.latches.length = 24)
    (clear : s.latchOf e = Latch.clear k) (details : List Nat) :
    (details = [] → (details.foldl (fun u d => u.occur e (byte d)) s).latchOf e = Latch.clear k) ∧
    ∀ d ∈ details.getLast?, ((details.foldl (fun u d => u.occur e (byte d)) s).latchOf e).blocked = false ∧
      ((details.foldl (fun u d => u.occur e (byte d)) s).latchOf e).pending = true ∧
      ((details.foldl (fun u d => u.occur e (byte d)) s).latchOf e).content = ⟨min 255 details.length, some s.now, some (byte d)⟩ := by
  induction details using List.reverseRecOn with
  | nil => exact ⟨fun _ => clear, by simp⟩
  | append_singleton details d ih =>
    have now : (details.foldl (fun u d => u.occur e (byte d)) s).now = s.now := foldl_keeps State.now (fun u d => u.occur e (byte d)) (fun _ _ => rfl) _ _
    have full : (details.foldl (fun u d => u.occur e (byte d)) s).latches.length = 24 :=
      (foldl_keeps (·.latches.length) (fun u d => u.occur e (byte d)) (fun u d => State.occur_bank u e _) _ _).trans bank
    refine ⟨by simp, fun last is => ?_⟩
    obtain rfl : d = last := by simpa using is
    rw [List.foldl_append, List.foldl_cons, List.foldl_nil, State.occur_latchOf_same _ _ full, now]
    cases before : details.getLast? with
    | none =>
      have empty : details = [] := List.getLast?_eq_none_iff.mp before
      rw [ih.1 empty, empty]
      exact ⟨rfl, rfl, rfl⟩
    | some b =>
      obtain ⟨free, pending, content⟩ := ih.2 b before
      have some_ : 0 < details.length := List.length_pos_iff.mpr (by rintro rfl; simp at before)
      rw [Latch.occur_pending _ _ _ free pending, content]
      refine ⟨free, pending, ?_⟩
      have count : (min 255 details.length) ≠ 0 := by omega
      simp only [Gathered.add, if_neg count, saturate, List.length_append, List.length_cons, List.length_nil]
      congr 1
      omega

/-! ## The end of JOINING (R22, R196) -/

/-- The state of an end of JOINING before run permission follows. -/
def State.joined (s : State) : State := ((s.convergeJoining).enterRunning).latchClamps

/-- CONFIG_CLAMPED is latched for each clamped field (R196). -/
theorem State.latchClamps_eq (s : State) : s.latchClamps = { s with
    loader := { s.loader with clampRecord := [], faultLamp := false }
    latches := (s.loader.clampRecord.foldl (fun u d => u.occur .configClamped (byte d)) s).latches } := by
  have only (ds : List Nat) (u : State) : ds.foldl (fun u d => u.occur .configClamped (byte d)) u =
      { u with latches := (ds.foldl (fun u d => u.occur .configClamped (byte d)) u).latches } := by
    induction ds generalizing u with
    | nil => rfl
    | cons d ds ih => rw [List.foldl_cons, ih]; rfl
  rw [State.latchClamps, only]

/-- The one convergence of R22, and the clearing of the marks, whole. -/
theorem State.convergeJoining_eq (s : State) : s.convergeJoining = { s with
    clock := (match roundOutcome s.includedOffsets with
      | none => { s.clock with goodRounds := 0, emptyRounds := 0 }
      | some c => { s.clock with
          time := movedBy s.now c, slew := 0, quality := .acquire, goodRounds := 0, emptyRounds := 0
          nextDue := s.clock.nextDue.map fun due => movedBy due c })
    line := { s.line with rx := (match roundOutcome s.includedOffsets with
      | none => s.line.rx
      | some c => s.line.rx.movedBy c) }
    peers := s.peers.map fun p => { p with inRound := false }
    latches := (match roundOutcome s.includedOffsets with
      | none => s
      | some c => (s.stepTime c).qualityLatched .acquire).latches } := by
  rw [State.convergeJoining, State.joiningConvergence]
  cases roundOutcome s.includedOffsets with
  | none => rfl
  | some c =>
    simp only [State.setQuality, State.qualityLatched]
    split <;> rfl

/-- The entry to RUNNING, whole: the next due point, the first beacon and the CAB slot (R7, R41, R196). -/
theorem State.enterRunning_eq (s : State) : s.enterRunning = { s with
    loader := { s.loader with station := .running, joining := none }
    clock := { s.clock with nextDue := some (after s.now s.intervalMicros) }
    line := { s.line with bcnSlot := some (s.line.bcnSlot.getD s.placement), cabSlot := .pending } } := by
  unfold State.enterRunning State.placeBeacon
  cases slot : s.line.bcnSlot
  · rfl
  · simp [slot]

/-- The latches at an end of JOINING, before CONFIG_CLAMPED: those of the one convergence (R17, R22). -/
theorem State.convergeJoining_latchOf (s : State) {e : EventSource} (other : e ≠ .timeQuality) :
    s.convergeJoining.latchOf e = s.latchOf e := by
  rw [State.convergeJoining_eq]
  cases roundOutcome s.includedOffsets with
  | none => rfl
  | some c =>
    refine (State.latchOf_congr rfl e).trans (?_ : ((s.stepTime c).qualityLatched .acquire).latchOf e = _)
    unfold State.qualityLatched
    split
    · rfl
    · exact State.occur_latchOf_other _ _ other.symm

/-- TIME_QUALITY at an end of JOINING that included an offset, from a clear latch (R17, R22). -/
theorem State.convergeJoining_timeQuality {s : State} {k : Nat} (bank : s.latches.length = 24)
    (clear : s.latchOf .timeQuality = Latch.clear k) : s.convergeJoining.latchOf .timeQuality =
      if s.includedOffsets = [] ∨ s.clock.quality = .acquire then Latch.clear k
      else (Latch.clear k).occur s.convergeJoining.clock.time s.clock.localTime 1 := by
  have outcome : roundOutcome s.includedOffsets = none ↔ s.includedOffsets = [] := by
    unfold roundOutcome
    cases s.includedOffsets <;> simp
  rw [State.convergeJoining_eq]
  cases heard : roundOutcome s.includedOffsets with
  | none => rw [if_pos (.inl (outcome.mp heard))]; exact clear
  | some c =>
    have some_ : s.includedOffsets ≠ [] := fun none => by rw [outcome.mpr none] at heard; cases heard
    refine (State.latchOf_congr rfl _).trans (?_ : ((s.stepTime c).qualityLatched .acquire).latchOf .timeQuality = _)
    have quality : (s.stepTime c).clock.quality = s.clock.quality := rfl
    by_cases acquired : s.clock.quality = .acquire
    · refine Eq.trans ?_ (if_pos (.inr acquired)).symm
      exact (congrArg (State.latchOf · .timeQuality) (if_pos (acquired.symm.trans quality.symm))).trans clear
    · refine Eq.trans ?_ (if_neg (by simp [some_, acquired])).symm
      refine (congrArg (State.latchOf · .timeQuality) (if_neg fun same => acquired (quality.symm.trans same.symm))).trans ?_
      refine (State.occur_latchOf_same (s := s.stepTime c) _ _ bank).trans ?_
      exact congrArg (fun l : Latch => l.occur _ _ _) clear

/-- The bank keeps its size at an end of JOINING. -/
theorem State.convergeJoining_bank (s : State) : s.convergeJoining.latches.length = s.latches.length := by
  rw [State.convergeJoining_eq]
  cases roundOutcome s.includedOffsets with
  | none => rfl
  | some c =>
    simp only [State.qualityLatched]
    split
    · rfl
    · exact State.occur_bank _ _ _

/-- Settles O9: the state before run permission follows, and what it makes of that. -/
theorem endOfJoiningEntersRunning : Obligations.EndOfJoiningEntersRunning := by
  have due_iff (s : State) : s.joiningDue = true ↔ s.loader.station = .joining ∧
      ∃ n, s.loader.joining = some n ∧ 3 * s.intervalMicros ≤ n := by
    rw [State.joiningDue, Bool.and_eq_true, Timer.hasReached_iff, decide_eq_true_iff]
  refine ⟨fun s no => exec_idle (i := .endOfJoining) (Bool.eq_false_iff.mpr fun yes => ?_),
    fun s elapsed joining timer long down stopped bank => ?_⟩
  · obtain ⟨joining, n, timer, long⟩ := (due_iff s).mp yes
    rcases no with other | early
    · exact other joining
    · have := early n timer; omega
  · have entered : s.joined = { s with
        loader := { s.loader with station := .running, joining := none, clampRecord := [], faultLamp := false }
        clock := { s.convergeJoining.clock with
          nextDue := some (after s.convergeJoining.clock.time s.intervalMicros) }
        line := { s.line with
          rx := s.convergeJoining.line.rx, bcnSlot := some (s.line.bcnSlot.getD s.placement), cabSlot := .pending }
        peers := s.peers.map fun p => { p with inRound := false }
        latches := s.joined.latches } := by
      rw [State.joined, State.latchClamps_eq, State.enterRunning_eq, State.convergeJoining_eq]
      rfl
    have latches : s.joined.latches = (s.loader.clampRecord.foldl (fun u d => u.occur .configClamped (byte d))
        s.convergeJoining.enterRunning).latches := by
      rw [State.joined, State.latchClamps_eq, State.enterRunning_eq, State.convergeJoining_eq]
    have cabinet : s.joined.cabinet = s.cabinet := by rw [entered]
    have cfg : s.joined.cfg = s.cfg := by rw [entered]; rfl
    have rests := State.followConditions_rests (s := s.joined) (by rw [cabinet]; exact down) (by rw [cabinet]; exact stopped)
      (by rw [entered])
    have loader := State.followConditions_loader s.joined
    generalize after : s.joined.followConditions = t at rests loader
    have conditions : t.runConditions = s.joined.runConditions := by
      have station : t.loader.station = s.joined.loader.station := by rw [loader]
      have others : t.cabinet.switch = s.joined.cabinet.switch ∧ t.cabinet.door = s.joined.cabinet.door ∧ t.peers = s.joined.peers := by
        rw [rests]; exact ⟨rfl, rfl, rfl⟩
      simp only [State.runConditions, State.running, station, others]
    have clock : t.clock = { s.convergeJoining.clock with nextDue := some (Machine.after s.convergeJoining.clock.time s.intervalMicros) } := by
      rw [rests, entered]
    have line : t.line = { s.line with
        rx := s.convergeJoining.line.rx, bcnSlot := some (s.line.bcnSlot.getD s.placement), cabSlot := .pending } := by
      rw [rests, entered]
    have full : s.convergeJoining.enterRunning.latches.length = 24 := by
      rw [State.enterRunning_eq]; exact s.convergeJoining_bank.trans bank
    have latch (e : EventSource) : t.latchOf e = (s.loader.clampRecord.foldl (fun u d => u.occur .configClamped (byte d))
        s.convergeJoining.enterRunning).latchOf e := State.latchOf_congr (by rw [rests, latches]) e
    have enter (e : EventSource) : s.convergeJoining.enterRunning.latchOf e = s.convergeJoining.latchOf e := by
      rw [State.enterRunning_eq]; rfl
    refine ⟨t, (exec_effect (i := .endOfJoining) ((due_iff s).mpr ⟨joining, elapsed, timer, long⟩)).trans (congrArg _ after),
      by rw [loader, entered], by rw [loader, entered], by rw [loader, entered], by rw [loader, entered], by rw [loader, entered],
      ?_, ?_, by rw [rests, entered], fun k clear => ?_, by rw [line]; rfl, by rw [line], fun mode empty lock => ?_,
      fun k clear n last => ?_, ?_, by rw [rests, entered], by rw [rests, entered], by rw [rests, entered], by rw [rests, entered],
      by rw [rests, entered], by rw [rests, entered], by rw [line]⟩
    · rw [clock, State.convergeJoining_eq]
      cases roundOutcome s.includedOffsets <;> rfl
    · rw [line, State.convergeJoining_eq]
      cases s.line.rx <;> cases roundOutcome s.includedOffsets <;> rfl
    · rw [latch, foldl_keeps (State.latchOf · .timeQuality) (fun u d => u.occur .configClamped (byte d))
        (fun u d => State.occur_latchOf_other _ _ (by decide)), enter, State.convergeJoining_timeQuality bank clear, clock]
      rfl
    · rw [line, empty, Option.getD_none, State.placement_eq lock]
      cases mode <;> rfl
    · have clear' : s.convergeJoining.enterRunning.latchOf .configClamped = Latch.clear k := by
        rw [enter, State.convergeJoining_latchOf _ (by decide), clear]
      obtain ⟨-, -, content⟩ := (foldl_occur_clear full clear' s.loader.clampRecord).2 n last
      rw [latch, content, clock, State.enterRunning_eq]
      rfl
    · rw [conditions]
      conv_lhs => rw [rests]
      rw [cabinet, cfg]

end Sys2Proof.Machine

/-! PROOFS of the statement on the end of LOADING (R26, R33, R135, R137, R195). -/

namespace Sys2Proof.Machine

/-! ## A debouncer at the entry to JOINING (R33, R195) -/

/-- A debouncer at the entry to JOINING, settled where its time is 0 (log 12). -/
def Debouncer.settlesAtOnce (steps : Nat) (d : Debouncer) : Debouncer :=
  if steps = 0 then d.settleIfDue (debounceMicros steps) else d

/-- A debouncer that joins, by its raw input and its start value (R33). -/
theorem Debouncer.joins_eq (steps : Nat) (d : Debouncer) : d.enterJoining.settlesAtOnce steps =
    if d.raw = d.state then { d with timer := none }
    else if steps = 0 ∧ d.moved = false then (⟨d.raw, d.raw, none, true⟩ : Debouncer) else { d with timer := some 0 } := by
  unfold Debouncer.settlesAtOnce
  by_cases agrees : d.raw = d.state
  · simp [Debouncer.enterJoining, Debouncer.settleIfDue, Debouncer.due, Timer.hasReached, agrees]
  · by_cases atOnce : steps = 0
    · cases moved : d.moved <;>
        simp [Debouncer.enterJoining, Debouncer.settleIfDue, Debouncer.due, Debouncer.settle, Timer.hasReached, agrees, atOnce,
          moved, debounceMicros]
    · simp [Debouncer.enterJoining, agrees, atOnce]

/-- A debouncer whose timer is stopped stays. -/
theorem Debouncer.settlesAtOnce_stopped {d : Debouncer} (stopped : d.timer = none) (steps : Nat) : d.settlesAtOnce steps = d := by
  simp [Debouncer.settlesAtOnce, Debouncer.settleIfDue, Debouncer.due, Timer.hasReached, stopped]

/-! ## What settles at that instant (log 12) -/

/-- A state as it enters JOINING: no run permission, no grants (R43, R141). -/
structure State.Joins (s : State) : Prop where
  joining : s.loader.station = .joining
  down : s.cabinet.permission = false
  free : s.access.grants = []

/-- The state has moved in its debounced inputs, the switch, the pocket and the counters alone. -/
def State.SettledFrom (s u : State) : Prop :=
  u = { s with
    cabinet := { u.cabinet with permission := s.cabinet.permission }
    tracking := { s.tracking with infeed := u.tracking.infeed, pitch := u.tracking.pitch, pocket := u.tracking.pocket }
    gate := { s.gate with confirm := u.gate.confirm }
    counters := u.counters }

/-- JOINING is a state in which the station listens. -/
theorem State.Joins.listens {s : State} (joins : s.Joins) : s.listening = true := by
  simp [State.listening, joins.joining]

/-- In JOINING the cabinet is not announced. -/
theorem State.Joins.announce {s : State} (joins : s.Joins) : s.announce = s := by
  rw [State.announce_eq, LinePort.announced, if_neg (by simp [State.running, joins.joining])]

/-- In JOINING run permission stays down. -/
theorem State.Joins.followConditions {s : State} (joins : s.Joins) :
    s.followConditions = { s with cabinet := { s.cabinet with restore := none } } :=
  (State.followConditions_fails (by simp [State.runConditions, State.running, joins.joining])).1 joins.down

/-- The entry to JOINING goes on through what settles. -/
theorem State.SettledFrom.joins {s u : State} (settled : s.SettledFrom u) (joins : s.Joins) : u.Joins := by
  refine ⟨?_, ?_, ?_⟩ <;> rw [settled]
  · exact joins.joining
  · exact joins.down
  · exact joins.free

/-- What settles keeps the configuration. -/
theorem State.SettledFrom.cfg {s u : State} (settled : s.SettledFrom u) : u.cfg = s.cfg :=
  State.cfg_congr (by rw [settled])

/-- What settles one after another settles. -/
theorem State.SettledFrom.trans {s u v : State} (first : s.SettledFrom u) (second : u.SettledFrom v) : s.SettledFrom v := by
  rw [State.SettledFrom] at second ⊢
  rw [first] at second
  exact second

/-- A switch that settles at the entry to JOINING moves its channels, and the machine on them (R34). -/
theorem State.Joins.takeSwitch {s : State} (joins : s.Joins) : s.SettledFrom s.takeSwitch ∧
    s.takeSwitch.cabinet.swA = s.cabinet.swA.settleIfDue s.switchDebounce ∧
    s.takeSwitch.cabinet.swB = s.cabinet.swB.settleIfDue s.switchDebounce ∧
    s.takeSwitch.cabinet.door = s.cabinet.door ∧ s.takeSwitch.cabinet.key = s.cabinet.key ∧
    s.takeSwitch.tracking = s.tracking ∧ s.takeSwitch.gate = s.gate := by
  have follows (c : Cabinet) (down : c.permission = false) :
      ({ s with cabinet := c } : State).announce.followConditions = { s with cabinet := { c with restore := none } } := by
    have joins' : ({ s with cabinet := c } : State).Joins := ⟨joins.joining, down, joins.free⟩
    rw [joins'.announce, joins'.followConditions]
  unfold State.takeSwitch
  dsimp only
  split
  case isTrue due =>
    rw [State.pairChanges, State.moveSwitch_eq]
    split
    · exact ⟨rfl, rfl, rfl, rfl, rfl, rfl, rfl⟩
    · dsimp only
      rw [follows]
      · exact ⟨rfl, rfl, rfl, rfl, rfl, rfl, rfl⟩
      · exact joins.down
  case isFalse none =>
    rw [Bool.or_eq_true, not_or] at none
    exact ⟨rfl, (if_neg none.1).symm, (if_neg none.2).symm, rfl, rfl, rfl, rfl⟩

/-- A door that closes at the entry to JOINING settles (R37). -/
theorem State.Joins.takeDoor {s : State} (joins : s.Joins)
    (closes : s.cabinet.door.due (debounceMicros s.cfg.hall.doorDebounce) = true → s.cabinet.door.raw = true) :
    s.SettledFrom s.takeDoor ∧
    s.takeDoor.cabinet.door = s.cabinet.door.settleIfDue (debounceMicros s.cfg.hall.doorDebounce) ∧
    s.takeDoor.cabinet.swA = s.cabinet.swA ∧ s.takeDoor.cabinet.swB = s.cabinet.swB ∧ s.takeDoor.cabinet.key = s.cabinet.key ∧
    s.takeDoor.tracking = s.tracking ∧ s.takeDoor.gate = s.gate := by
  unfold State.takeDoor
  split
  case isTrue due =>
    have joins' : ({ s with cabinet := { s.cabinet with door := s.cabinet.door.settle } } : State).Joins :=
      ⟨joins.joining, joins.down, joins.free⟩
    rw [if_pos (closes due), joins'.announce, joins'.followConditions]
    exact ⟨rfl, (if_pos due).symm, rfl, rfl, rfl, rfl, rfl⟩
  case isFalse none => exact ⟨rfl, (if_neg none).symm, rfl, rfl, rfl, rfl, rfl⟩

/-- A key that settles at the entry to JOINING ends no grant, for none stands (R37, R138). -/
theorem State.Joins.takeKey {s : State} (joins : s.Joins) : s.SettledFrom s.takeKey ∧
    s.takeKey.cabinet.key = s.cabinet.key.settleIfDue (debounceMicros s.cfg.hall.keyDebounce) ∧
    s.takeKey.cabinet.swA = s.cabinet.swA ∧ s.takeKey.cabinet.swB = s.cabinet.swB ∧ s.takeKey.cabinet.door = s.cabinet.door ∧
    s.takeKey.tracking = s.tracking ∧ s.takeKey.gate = s.gate := by
  unfold State.takeKey
  split
  case isTrue due =>
    have joins' : ({ s with cabinet := { s.cabinet with key := s.cabinet.key.settle } } : State).Joins :=
      ⟨joins.joining, joins.down, joins.free⟩
    have none : ({ s with cabinet := { s.cabinet with key := s.cabinet.key.settle } } : State).endAllGrants .keyOff =
        { s with cabinet := { s.cabinet with key := s.cabinet.key.settle } } := by
      simp only [State.endAllGrants, joins.free]
      rfl
    rw [joins'.announce]
    dsimp only
    rw [none, ite_self]
    exact ⟨rfl, (if_pos due).symm, rfl, rfl, rfl, rfl, rfl⟩
  case isFalse none => exact ⟨rfl, (if_neg none).symm, rfl, rfl, rfl, rfl, rfl⟩

/-- An infeed that settles at the entry to JOINING counts a capture at most (R50). -/
theorem State.Joins.takeInfeed {s : State} (joins : s.Joins) : s.SettledFrom s.takeInfeed ∧
    s.takeInfeed.tracking = { s.tracking with infeed := s.tracking.infeed.settleIfDue (debounceMicros s.cfg.track.infeedDebounce) } ∧
    s.takeInfeed.cabinet = s.cabinet ∧ s.takeInfeed.gate = s.gate := by
  have quiet (u : State) (station : u.loader.station = .joining) : u.capture = (u.count .captures).count .untracked := by
    rw [State.capture, if_neg (by simp [State.running, station])]
  unfold State.takeInfeed
  split
  case isTrue due =>
    have settled : s.tracking.infeed.settleIfDue (debounceMicros s.cfg.track.infeedDebounce) = s.tracking.infeed.settle := if_pos due
    rw [settled]
    dsimp only
    split
    · rw [quiet]
      · exact ⟨rfl, rfl, rfl, rfl⟩
      · exact joins.joining
    · exact ⟨rfl, rfl, rfl, rfl⟩
  case isFalse none =>
    have settled : s.tracking.infeed.settleIfDue (debounceMicros s.cfg.track.infeedDebounce) = s.tracking.infeed := if_neg none
    rw [settled]
    exact ⟨rfl, rfl, rfl, rfl⟩

/-- A pitch sensor that settles advances the pocket at most (R49). -/
theorem State.takePitch_settles (s : State) : s.SettledFrom s.takePitch ∧
    s.takePitch.tracking = { s.tracking with
      pitch := s.tracking.pitch.settleIfDue (debounceMicros s.cfg.track.pitchDebounce)
      pocket := s.takePitch.tracking.pocket } ∧
    (s.tracking.pocket = none → s.takePitch.tracking.pocket = none) ∧ s.takePitch.cabinet = s.cabinet ∧ s.takePitch.gate = s.gate := by
  unfold State.takePitch
  split
  case isTrue due =>
    have settled : s.tracking.pitch.settleIfDue (debounceMicros s.cfg.track.pitchDebounce) = s.tracking.pitch.settle := if_pos due
    rw [settled]
    dsimp only
    split
    · exact ⟨rfl, rfl, fun none => congrArg (Option.map _) none, rfl, rfl⟩
    · exact ⟨rfl, rfl, id, rfl, rfl⟩
  case isFalse none =>
    have settled : s.tracking.pitch.settleIfDue (debounceMicros s.cfg.track.pitchDebounce) = s.tracking.pitch := if_neg none
    rw [settled]
    exact ⟨rfl, rfl, id, rfl, rfl⟩

/-- A confirm sensor that settles at the entry to JOINING gives no edge (R125). -/
theorem State.Joins.takeConfirm {s : State} (joins : s.Joins) : s.SettledFrom s.takeConfirm ∧
    s.takeConfirm.gate = { s.gate with confirm := s.gate.confirm.settleIfDue (debounceMicros s.cfg.track.confirmDebounce) } ∧
    s.takeConfirm.cabinet = s.cabinet ∧ s.takeConfirm.tracking = s.tracking := by
  unfold State.takeConfirm
  split
  case isTrue due =>
    have settled : s.gate.confirm.settleIfDue (debounceMicros s.cfg.track.confirmDebounce) = s.gate.confirm.settle := if_pos due
    rw [settled]
    dsimp only
    rw [if_neg (by simp [State.running, joins.joining])]
    exact ⟨rfl, rfl, rfl, rfl⟩
  case isFalse none =>
    have settled : s.gate.confirm.settleIfDue (debounceMicros s.cfg.track.confirmDebounce) = s.gate.confirm := if_neg none
    rw [settled]
    exact ⟨rfl, rfl, rfl, rfl⟩

/-- An input whose debounce time is 0 is taken at once, another waits (R32). -/
theorem State.Joins.atOnce_or {s : State} (joins : s.Joins) (steps : Nat) (take : State → State) :
    s.atOnce steps take = if steps = 0 then take s else s := by
  simp only [State.atOnce, joins.listens, Bool.and_true, decide_eq_true_eq]

/-- What has begun to settle is the state itself. -/
theorem State.SettledFrom.refl (s : State) : s.SettledFrom s := rfl

/-- Every input with d = 0 that disagrees settles at the entry to JOINING (R32, R33, log 12). -/
theorem State.Joins.settleAtOnce {s : State} (joins : s.Joins)
    (closes : s.cabinet.door.due (debounceMicros s.cfg.hall.doorDebounce) = true → s.cabinet.door.raw = true) :
    s.SettledFrom s.settleAtOnce ∧
    s.settleAtOnce.cabinet.swA = s.cabinet.swA.settlesAtOnce s.cfg.hall.switchDebounce ∧
    s.settleAtOnce.cabinet.swB = s.cabinet.swB.settlesAtOnce s.cfg.hall.switchDebounce ∧
    s.settleAtOnce.cabinet.door = s.cabinet.door.settlesAtOnce s.cfg.hall.doorDebounce ∧
    s.settleAtOnce.cabinet.key = s.cabinet.key.settlesAtOnce s.cfg.hall.keyDebounce ∧
    s.settleAtOnce.tracking.infeed = s.tracking.infeed.settlesAtOnce s.cfg.track.infeedDebounce ∧
    s.settleAtOnce.tracking.pitch = s.tracking.pitch.settlesAtOnce s.cfg.track.pitchDebounce ∧
    (s.tracking.pocket = none → s.settleAtOnce.tracking.pocket = none) ∧
    s.settleAtOnce.gate.confirm = s.gate.confirm.settlesAtOnce s.cfg.track.confirmDebounce := by
  generalize first : s.atOnce s.cfg.hall.switchDebounce State.takeSwitch = u₁
  have switch : s.SettledFrom u₁ ∧ u₁.cabinet.swA = s.cabinet.swA.settlesAtOnce s.cfg.hall.switchDebounce ∧
      u₁.cabinet.swB = s.cabinet.swB.settlesAtOnce s.cfg.hall.switchDebounce ∧ u₁.cabinet.door = s.cabinet.door ∧
      u₁.cabinet.key = s.cabinet.key ∧ u₁.tracking = s.tracking ∧ u₁.gate = s.gate := by
    rw [← first, joins.atOnce_or]
    unfold Debouncer.settlesAtOnce
    split
    · exact joins.takeSwitch
    · exact ⟨.refl s, rfl, rfl, rfl, rfl, rfl, rfl⟩
  obtain ⟨from₁, swA₁, swB₁, door₁, key₁, tracking₁, gate₁⟩ := switch
  have joins₁ := from₁.joins joins
  generalize second : u₁.atOnce s.cfg.hall.doorDebounce State.takeDoor = u₂
  have door : u₁.SettledFrom u₂ ∧ u₂.cabinet.door = s.cabinet.door.settlesAtOnce s.cfg.hall.doorDebounce ∧
      u₂.cabinet.swA = u₁.cabinet.swA ∧ u₂.cabinet.swB = u₁.cabinet.swB ∧ u₂.cabinet.key = u₁.cabinet.key ∧
      u₂.tracking = u₁.tracking ∧ u₂.gate = u₁.gate := by
    rw [← second, joins₁.atOnce_or]
    unfold Debouncer.settlesAtOnce
    split
    · have takes := joins₁.takeDoor (by rw [door₁, from₁.cfg]; exact closes)
      rw [door₁, from₁.cfg] at takes
      exact takes
    · exact ⟨.refl u₁, door₁, rfl, rfl, rfl, rfl, rfl⟩
  obtain ⟨from₂, door₂, swA₂, swB₂, key₂, tracking₂, gate₂⟩ := door
  have joins₂ := from₂.joins joins₁
  have whole₂ := from₁.trans from₂
  generalize third : u₂.atOnce s.cfg.hall.keyDebounce State.takeKey = u₃
  have key : u₂.SettledFrom u₃ ∧ u₃.cabinet.key = s.cabinet.key.settlesAtOnce s.cfg.hall.keyDebounce ∧
      u₃.cabinet.swA = u₂.cabinet.swA ∧ u₃.cabinet.swB = u₂.cabinet.swB ∧ u₃.cabinet.door = u₂.cabinet.door ∧
      u₃.tracking = u₂.tracking ∧ u₃.gate = u₂.gate := by
    rw [← third, joins₂.atOnce_or]
    unfold Debouncer.settlesAtOnce
    split
    · have takes := joins₂.takeKey
      rw [key₂, key₁, whole₂.cfg] at takes
      exact takes
    · exact ⟨.refl u₂, key₂.trans key₁, rfl, rfl, rfl, rfl, rfl⟩
  obtain ⟨from₃, key₃, swA₃, swB₃, door₃, tracking₃, gate₃⟩ := key
  have joins₃ := from₃.joins joins₂
  have whole₃ := whole₂.trans from₃
  generalize fourth : u₃.atOnce s.cfg.track.infeedDebounce State.takeInfeed = u₄
  have infeed : u₃.SettledFrom u₄ ∧
      u₄.tracking = { s.tracking with infeed := s.tracking.infeed.settlesAtOnce s.cfg.track.infeedDebounce } ∧
      u₄.cabinet = u₃.cabinet ∧ u₄.gate = u₃.gate := by
    rw [← fourth, joins₃.atOnce_or]
    unfold Debouncer.settlesAtOnce
    split
    · have takes := joins₃.takeInfeed
      rw [tracking₃, tracking₂, tracking₁, whole₃.cfg] at takes
      exact takes
    · exact ⟨.refl u₃, by rw [tracking₃, tracking₂, tracking₁], rfl, rfl⟩
  obtain ⟨from₄, tracking₄, cabinet₄, gate₄⟩ := infeed
  have joins₄ := from₄.joins joins₃
  have whole₄ := whole₃.trans from₄
  generalize fifth : u₄.atOnce s.cfg.track.pitchDebounce State.takePitch = u₅
  have pitch : u₄.SettledFrom u₅ ∧ u₅.tracking = { u₄.tracking with
        pitch := s.tracking.pitch.settlesAtOnce s.cfg.track.pitchDebounce, pocket := u₅.tracking.pocket } ∧
      (s.tracking.pocket = none → u₅.tracking.pocket = none) ∧ u₅.cabinet = u₄.cabinet ∧ u₅.gate = u₄.gate := by
    have pitch₄ : u₄.tracking.pitch = s.tracking.pitch := by rw [tracking₄]
    have pocket₄ : u₄.tracking.pocket = s.tracking.pocket := by rw [tracking₄]
    rw [← fifth, joins₄.atOnce_or]
    unfold Debouncer.settlesAtOnce
    split
    · have takes := u₄.takePitch_settles
      rw [pitch₄, pocket₄, whole₄.cfg] at takes
      exact takes
    · exact ⟨.refl u₄, by rw [← pitch₄], fun none => pocket₄.trans none, rfl, rfl⟩
  obtain ⟨from₅, tracking₅, pocket₅, cabinet₅, gate₅⟩ := pitch
  have joins₅ := from₅.joins joins₄
  have whole₅ := whole₄.trans from₅
  have same₅ : u₅.gate = s.gate := by rw [gate₅, gate₄, gate₃, gate₂, gate₁]
  generalize sixth : u₅.atOnce s.cfg.track.confirmDebounce State.takeConfirm = u₆
  have confirm : u₅.SettledFrom u₆ ∧
      u₆.gate = { s.gate with confirm := s.gate.confirm.settlesAtOnce s.cfg.track.confirmDebounce } ∧
      u₆.cabinet = u₅.cabinet ∧ u₆.tracking = u₅.tracking := by
    rw [← sixth, joins₅.atOnce_or]
    unfold Debouncer.settlesAtOnce
    split
    · have takes := joins₅.takeConfirm
      rw [same₅, whole₅.cfg] at takes
      exact takes
    · exact ⟨.refl u₅, same₅, rfl, rfl⟩
  obtain ⟨from₆, gate₆, cabinet₆, tracking₆⟩ := confirm
  have is : s.settleAtOnce = u₆ := by
    rw [State.settleAtOnce, first, second, third, fourth, fifth, sixth]
  have cabinet : u₆.cabinet = u₃.cabinet := by rw [cabinet₆, cabinet₅, cabinet₄]
  rw [is]
  refine ⟨whole₅.trans from₆, ?_, ?_, ?_, ?_, ?_, ?_, ?_, by rw [gate₆]⟩
  · rw [cabinet, swA₃, swA₂, swA₁]
  · rw [cabinet, swB₃, swB₂, swB₁]
  · rw [cabinet, door₃, door₂]
  · rw [cabinet, key₃]
  · rw [tracking₆, tracking₅, tracking₄]
  · rw [tracking₆, tracking₅]
  · rw [tracking₆]; exact pocket₅

/-! ## The end of LOADING (R195) -/

/-- The state with its items taken and its lock mode set, as it enters JOINING (R195). -/
def State.entering (s : State) (image : List Byte) : State :=
  let u := (s.takeItems image).setLockMode
  ({ u with loader := { u.loader with
      station := .joining, joining := some 0, memSelected := false, readTimer := none, sampled := [] } } : State).startDebouncers

/-- The lock mode at the end of LOADING, with ACCESS_HELD under the held-lock flag (R135, R137). -/
theorem State.setLockMode_eq (s : State) : s.setLockMode = { s with
    access := { s.access with lockMode := if s.access.heldLock then some .held else some s.cfg.accessMode }
    latches := if s.access.heldLock then (s.occur .accessHeld 0xFF).latches else s.latches } := by
  unfold State.setLockMode
  split <;> rfl

/-- An accepted image is read to its end, as sampled, and passes (R188, R189). -/
theorem State.accepts_iff (s : State) (image : List Byte) : s.accepts image = true ↔ failsAfter image = none ∧
    (s.loader.station = .loading ∧ ∃ n, s.loader.readTimer = some n ∧ 1104 ≤ n) ∧ s.imageRead = image := by
  rw [State.accepts, Bool.and_eq_true, Bool.and_eq_true, State.haveRead, Bool.and_eq_true, Timer.hasReached_iff, and_assoc,
    decide_eq_true_iff, decide_eq_true_iff, Option.isNone_iff_eq_none]
  rfl

/-- The latches as JOINING is entered: each in its class, and ACCESS_HELD under the held-lock flag (R135, R177). -/
theorem State.entering_latches (s : State) (image : List Byte) : (s.entering image).latches =
    if s.access.heldLock then ((s.takeItems image).occur .accessHeld 0xFF).latches else (s.takeItems image).latches := by
  rw [State.entering, State.setLockMode_eq]
  rfl

/-- A latch takes its class from the image, and nothing else (R177). -/
theorem State.takeItems_latch {s : State} {i : Nat} (image : List Byte) (inside : i < s.latches.length) :
    (s.takeItems image).latch i = { s.latch i with cls := (recordOf image).classes.getD i 2 } := by
  simp [State.latch, State.takeItems, withIndex_eq_mapIdx, List.getD_eq_getElem?_getD, inside]

/-- An occurrence leaves the class of its latch. -/
theorem Latch.occur_cls (l : Latch) (stamp : Time) (localTime : Nat) (detail : Byte) :
    (l.occur stamp localTime detail).cls = l.cls := by
  unfold Latch.occur
  split
  · rfl
  · split <;> rfl

/-- An occurrence leaves the class of every latch. -/
theorem State.occur_cls (s : State) (e : EventSource) (detail : Byte) (i : Nat) :
    ((s.occur e detail).latch i).cls = (s.latch i).cls := by
  simp only [State.latch, State.occur_latches, List.getD_eq_getElem?_getD, List.getElem?_modify]
  split
  · cases s.latches[i]? with
    | none => rfl
    | some l => exact Latch.occur_cls l _ _ _
  · cases s.latches[i]? <;> rfl

/-- Settles O7: what enters JOINING, and what settles there. -/
theorem endOfLoadingEntersJoining : Obligations.EndOfLoadingEntersJoining := by
  refine ⟨fun s image no => exec_idle (i := .endOfLoading image) (Bool.eq_false_iff.mpr fun yes => ?_),
    fun s image elapsed loading timer long passes sampled table bank free opened down => ?_⟩
  · obtain ⟨passes, ⟨loading, n, timer, long⟩, -⟩ := (s.accepts_iff image).mp yes
    rcases no with other | early | fails
    · exact other loading
    · have := early n timer; omega
    · exact fails passes
  · intro compared
    have read : s.imageRead = image := by
      have bytes := memoryBytes_sampled image [] (by simp)
      rw [List.append_nil] at bytes
      rw [State.imageRead, sampled, bytes]
    have meaning : exec (.endOfLoading image) s = .next (s.entering image).settleAtOnce :=
      exec_effect (i := .endOfLoading image) ((s.accepts_iff image).mpr ⟨passes, ⟨loading, elapsed, timer, long⟩, read⟩)
    have entered : s.entering image = { s with
        loader := { s.loader with
          station := .joining, record := some (recordOf image), clampRecord := clampRecordOf image, joining := some 0,
          memSelected := false, readTimer := none, sampled := [] }
        access := { s.access with lockMode := if s.access.heldLock then some .held else some (recordOf image).accessMode }
        latches := (s.entering image).latches
        peers := withIndex (fun i p => p.atLoading (recordOf image).hall (i + 1)) s.peers
        cabinet := { s.cabinet with
          swA := s.cabinet.swA.enterJoining, swB := s.cabinet.swB.enterJoining
          door := s.cabinet.door.enterJoining, key := s.cabinet.key.enterJoining }
        tracking := { s.tracking with
          infeed := s.tracking.infeed.enterJoining, pitch := s.tracking.pitch.enterJoining
          pocket := if (recordOf image).track.heads = 0 then none else s.tracking.pocket }
        heads := withIndex (fun i h => if (i < (recordOf image).track.heads : Bool) then
          { h with fault := h.fault.enterJoining } else h) s.heads
        gate := { s.gate with
          confirm := if (recordOf image).track.gateFitted then s.gate.confirm.enterJoining else s.gate.confirm } } := by
      rw [State.entering, State.setLockMode_eq]
      rfl
    have joins : (s.entering image).Joins := by
      rw [entered]
      exact ⟨rfl, down, free⟩
    have cfg : (s.entering image).cfg = recordOf image := by
      rw [entered]; rfl
    have door : (s.entering image).cabinet.door = s.cabinet.door.enterJoining := by rw [entered]
    have closes (micros : Nat) (due : (s.entering image).cabinet.door.due micros = true) : (s.entering image).cabinet.door.raw = true := by
      obtain ⟨-, n, started, -⟩ := (Debouncer.due_iff _ _).mp due
      rw [door] at started ⊢
      by_contra other
      simp only [Debouncer.enterJoining, opened] at started other
      simp [Bool.eq_false_iff.mpr other] at started
    obtain ⟨settled, swA, swB, doorSettled, key, infeed, pitch, pocket, confirm⟩ := joins.settleAtOnce (closes _)
    generalize (s.entering image).settleAtOnce = t at settled swA swB doorSettled key infeed pitch pocket confirm meaning
    rw [cfg] at swA swB doorSettled key infeed pitch confirm
    have loader : t.loader = (s.entering image).loader := by rw [settled]
    have latches : t.latches = (s.entering image).latches := by rw [settled]
    have joined (steps : Nat) (d : Debouncer) : d.enterJoining.settlesAtOnce steps = compared steps d := Debouncer.joins_eq steps d
    refine ⟨t, meaning, by rw [loader, entered], by rw [settled, entered], fun held ⟨k, clear⟩ => ?_, fun a low high => ?_,
      fun none => pocket ?_, fun i below => ?_, by rw [swA, entered, ← joined], by rw [swB, entered, ← joined],
      by rw [doorSettled, entered, ← joined], by rw [key, entered, ← joined], by rw [infeed, entered, ← joined],
      by rw [pitch, entered, ← joined], fun fitted => ?_, fun unfitted stopped => ?_, ?_, by rw [settled, entered],
      by rw [settled, entered], by rw [settled, entered], by rw [settled, entered], by rw [settled, entered],
      by rw [settled, entered], by rw [settled, entered]⟩
    · have bank' : (s.takeItems image).latches.length = 24 := by simp [State.takeItems, withIndex_eq_mapIdx, bank]
      have clear' : (s.takeItems image).latchOf .accessHeld = Latch.clear ((recordOf image).classes.getD 22 2) := by
        rw [State.latchOf, State.takeItems_latch image (by rw [bank]; decide)]
        exact congrArg (fun l : Latch => { l with cls := (recordOf image).classes.getD 22 2 }) clear
      have latch : t.latchOf .accessHeld =
          (Latch.clear ((recordOf image).classes.getD 22 2)).occur s.now s.clock.localTime 0xFF := by
        rw [State.latchOf_congr (latches.trans ((s.entering_latches image).trans (if_pos held))),
          State.occur_latchOf_same _ _ bank', clear']
        rfl
      rw [latch]
      exact ⟨rfl, rfl⟩
    · have inside : a - 1 < s.peers.length := by omega
      have address : a - 1 + 1 = a := by omega
      have peers : t.peers = s.peers.mapIdx fun i p => p.atLoading (recordOf image).hall (i + 1) := by
        rw [settled, entered, withIndex_eq_mapIdx]
      simp only [State.peer, peers, List.getD_eq_getElem?_getD, List.getElem?_mapIdx, List.getElem?_eq_getElem inside, address]
      rfl
    · rw [entered]
      exact if_pos none
    · have inside : i < s.latches.length := by omega
      have own : ((s.takeItems image).latch i).cls = (recordOf image).classes.getD i 2 := by
        rw [State.takeItems_latch image inside]
      rw [State.latch, latches, s.entering_latches image]
      split
      · exact (State.occur_cls _ _ _ i).trans own
      · exact own
    · rw [confirm, entered, ← joined]
      exact congrArg _ (if_pos fitted)
    · have raw : (s.entering image).gate.confirm = s.gate.confirm := by
        rw [entered]; exact if_neg (Bool.eq_false_iff.mp unfitted)
      rw [confirm, raw, Debouncer.settlesAtOnce_stopped stopped]
    · have heads : t.heads = (s.entering image).heads := by rw [settled]
      have fault (d : Debouncer) : compared 10 d = d.enterJoining := (joined 10 d).symm
      rw [heads, entered]
      simp only [fault, withIndex_eq_mapIdx, decide_eq_true_eq]

end Sys2Proof.Machine

/-! PROOFS of the statement on LOCAL_MICROSECOND: every duration and every sampled pin (R5, R76, R111, R113, R159, R161, R188). -/

namespace Sys2Proof.Machine

/-! ## The result line (R111, R113) -/

/-- The bit rate by its baud code (R111). -/
theorem bitRate_eq (code : Nat) : bitRate code = [9600, 19200, 38400, 57600, 115200].getD code 115200 := by
  match code with
  | 0 | 1 | 2 | 3 | 4 => rfl
  | n + 5 => simp [bitRate]

/-- The ten bits of a character: its byte where the stop bit reads high (R111). -/
theorem readCharacter_eq {bits : List Bool} (eight : bits.length = 8) (high : Bool) :
    readCharacter (false :: bits.reverse ++ [high]) = if high then some (byteOfBits bits.reverse) else none := by
  have stop : (false :: bits.reverse ++ [high]).getD 9 false = high := by
    simp [List.getD_eq_getElem?_getD, eight]
  have data : ((false :: bits.reverse ++ [high]).drop 1).take 8 = bits.reverse := by
    simp [eight]
  rw [readCharacter, stop, data]

/-- A port that works reads its result line: by its receiver, with the inter-byte timer (R111, R113). -/
theorem CameraPort.readResult_eq (c : CameraPort) (code : Nat) (high : Bool)
    (short : ∀ gone bits, c.receiver = .inCharacter gone bits → bits.length ≤ 8) : c.readResult code high =
      match c.receiver with
      | .idle => if high then { c with interByte := c.interByte.tick } else { c with
          receiver := .inCharacter 1 []
          interByte := stopAtStartBit (40000000 / bitRate code) c.interByte }
      | .inCharacter gone bits => { c with
          receiver := if gone + 1 < (2 * (bits.length + 1) + 1) * 500000 / bitRate code + 1 then .inCharacter (gone + 1) bits
            else if bits.length < 8 then .inCharacter (gone + 1) (high :: bits)
            else .complete (if high then some (byteOfBits bits.reverse) else none)
          interByte := if c.interByte = some (40000000 / bitRate code) then none else c.interByte }
      | .complete _ => c
      | .waitHigh => { c with receiver := if high then .idle else .waitHigh, interByte := c.interByte.tick } := by
  unfold CameraPort.readResult
  cases rx : c.receiver with
  | idle => cases high <;> simp [SerialReceiver.step, interByteStep, interByteLimit]
  | inCharacter gone bits =>
    have atMost := short gone bits rx
    have step : characterStep code gone bits high =
        if gone + 1 < (2 * (bits.length + 1) + 1) * 500000 / bitRate code + 1 then .inCharacter (gone + 1) bits
        else if bits.length < 8 then .inCharacter (gone + 1) (high :: bits)
        else .complete (if high then some (byteOfBits bits.reverse) else none) := by
      by_cases more : bits.length < 8
      · simp only [characterStep, if_pos more]
        rfl
      · simp only [characterStep, if_neg more, readCharacter_eq (show bits.length = 8 by omega)]
        rfl
    have limit : interByteLimit code = 40000000 / bitRate code := rfl
    simp only [SerialReceiver.step, interByteStep, lapseInCharacter, limit, step]
  | complete result => simp [SerialReceiver.step, interByteStep, ← rx]
  | waitHigh => cases high <;> simp [SerialReceiver.step, interByteStep]

/-- The inter-byte timer at a start bit, by its count (R113, log 9). -/
theorem stopAtStartBit_eq (limit : Nat) (timer : Timer) : stopAtStartBit limit timer = match timer with
    | none => none
    | some n => if limit ≤ n + 1 then some (n + 1) else none := by
  cases timer with
  | none => rfl
  | some n => simp [stopAtStartBit, Timer.tick, Timer.hasReached]

/-! ## The line (R159, R161) -/

/-- One local microsecond of a frame in collection, place by place (R159, R161, log 41). -/
theorem Collecting.step_eq (f : Collecting) (recessive : Bool) : f.step recessive =
    ⟨(match (match f.place with
        | .mark gone => if gone < 3 then .mark (gone + 1) else .between [] 0
        | .between taken quiet =>
          if recessive then (if quiet < 10 then .between taken (quiet + 1) else .over (.ended taken.reverse))
          else if f.recessive < 11 then .inByte taken [] else .over (.ended taken.reverse)
        | .inByte taken bits =>
          if bits.length < 8 then .inByte taken (recessive :: bits)
          else if recessive then
            (if taken.length < 62 then .between (byteOfBits bits.reverse :: taken) 0 else .over (.broken false))
          else .over (.broken true)
        | .over got => .over got : Collector) with
      | .over got => .over got
      | other => if 9 < (if recessive then 0 else f.dominant + 1) then .over (.broken true) else other),
      if recessive then 0 else f.dominant + 1, if recessive then f.recessive + 1 else 0⟩ := by
  have step : f.place.step f.recessive recessive = (match f.place with
        | .mark gone => if gone < 3 then .mark (gone + 1) else .between [] 0
        | .between taken quiet =>
          if recessive then (if quiet < 10 then .between taken (quiet + 1) else .over (.ended taken.reverse))
          else if f.recessive < 11 then .inByte taken [] else .over (.ended taken.reverse)
        | .inByte taken bits =>
          if bits.length < 8 then .inByte taken (recessive :: bits)
          else if recessive then
            (if taken.length < 62 then .between (byteOfBits bits.reverse :: taken) 0 else .over (.broken false))
          else .over (.broken true)
        | .over got => .over got) := by
    cases f.place with
    | mark gone =>
      have counts : gone + 1 < startMarkLevels.length ↔ gone < 3 := by simp [startMarkLevels]; omega
      simp only [Collector.step, counts]
    | between taken quiet =>
      have ends : Config.frameEnd ≤ quiet + 1 ↔ ¬quiet < 10 := by simp [Config.frameEnd]
      have ran : Config.frameEnd ≤ f.recessive ↔ ¬f.recessive < 11 := by simp [Config.frameEnd]
      cases recessive
      · simp only [Collector.step, Collector.gap, ran, ite_not]
        rfl
      · simp only [Collector.step, Collector.gap, ends, ite_not]
        rfl
    | inByte taken bits =>
      have full : 62 < taken.length + 1 ↔ ¬taken.length < 62 := by omega
      cases recessive
      · simp only [Collector.step, Collector.stopBit]
        rfl
      · simp only [Collector.step, Collector.stopBit, full, ite_not]
        rfl
    | _ => rfl
  unfold Collecting.step
  rw [step]
  rfl

/-- A frame has 4 microseconds of start mark, and 10 for each byte (R159). -/
theorem frameLevels_length (bytes : List Byte) : (frameLevels bytes).length = 4 + 10 * bytes.length := by
  have each : (bytes.flatMap lineByte).length = 10 * bytes.length := by
    induction bytes with
    | nil => rfl
    | cons b bytes ih =>
      rw [List.flatMap_cons, List.length_append, ih]
      simp only [lineByte, byteBits, List.cons_append, List.length_cons, List.length_append, List.length_map, List.length_range,
        List.length_nil]
      omega
  rw [frameLevels, List.length_append, each]
  rfl

/-- The bit that the read samples in one local microsecond (R188). -/
theorem sampleMemory_eq (readTimer : Timer) (sampled : List Bool) (high : Bool) : sampleMemory readTimer sampled high =
    if (∃ n, readTimer = some n ∧ 32 ≤ n) ∧ sampled.length < 8 * 134 then sampled ++ [high] else sampled := by
  have reads : (readTimer.hasReached (readMicros 0) && sampled.length < 8 * Config.imageBytes) = true ↔
      (∃ n, readTimer = some n ∧ 32 ≤ n) ∧ sampled.length < 8 * 134 := by
    rw [Bool.and_eq_true, Timer.hasReached_iff, decide_eq_true_iff]
    rfl
  simp only [sampleMemory, reads]

/-- Settles O11: each block of a local microsecond. -/
theorem durationsCountLocalMicroseconds : Obligations.DurationsCountLocalMicroseconds := by
  intro s pins short
  refine ⟨s.tick pins, rfl, fun resets => ?_, rfl, ?_⟩
  · show (s.tickClock).clock = _
    rw [State.tickClock, if_pos resets]
  intro counted debounced rate reads port head recessive idle collected
  have ticks (timer : Timer) : timer.tick = counted timer := by cases timer <;> rfl
  have settles (d : Debouncer) : d.tick = debounced d := by rw [Debouncer.tick, ticks]
  have timed (c : CameraPort) : c.tick = { c with
      trigger := counted c.trigger, guard := counted c.guard, strobe := counted c.strobe, offTimer := counted c.offTimer
      schedule := c.schedule.map fun d => ⟨d.elapsed + 1, d.sequence⟩ } := by
    simp only [CameraPort.tick, ticks]
  have readPort (cfg : CameraConfig) (high : Bool) (c : CameraPort)
      (fits : ∀ gone bits, c.receiver = .inCharacter gone bits → bits.length ≤ 8) :
      c.readResult cfg.baud high = reads cfg high c := by
    rw [CameraPort.readResult_eq c cfg.baud high fits, bitRate_eq]
    simp only [ticks, stopAtStartBit_eq]
    rfl
  have ports (p : Port) : s.tickPort p pins = port (s.camera p) (resultLevel pins p) (s.port p) := by
    have works := s.portWorks_iff p
    by_cases yes : s.running = true ∧ (s.camera p).enabled = true
    · refine (if_pos (works.mpr yes)).trans (Eq.trans ?_ (if_pos yes).symm)
      rw [timed]
      exact readPort _ _ _ fun gone bits is => short p gone bits is
    · refine (if_neg (mt works.mp yes)).trans (Eq.trans ?_ (if_neg yes).symm)
      exact timed _
  have heads : withIndex (fun i (h : Head) => h.tick (inSet pins.ready i) (inSet pins.meter i)) s.heads = s.heads.mapIdx head := by
    rw [withIndex_eq_mapIdx]
    refine congrArg (List.mapIdx · s.heads) (funext₂ fun i h => ?_)
    have doses : DoseInHand.tick = fun d => { d with
        doseTimer := counted d.doseTimer, resumeTimer := counted d.resumeTimer, settleTimer := counted d.settleTimer } :=
      funext fun d => by simp only [DoseInHand.tick, ticks]
    simp only [Head.tick, settles, doses, head]
    cases h.train <;> rfl
  have level : isRecessive pins.line = recessive := by
    simp only [recessive]
    cases pins.line <;> rfl
  have counts : (match pins.line with | .dominant => 0 | .recessive => s.line.idle + 1) = idle := by
    have of (level : LineLevel) : (match level with | .dominant => 0 | .recessive => s.line.idle + 1) =
        if (level = .recessive : Bool) then s.line.idle + 1 else 0 := by cases level <;> rfl
    exact of pins.line
  have line : s.line.tick pins.line = { s.line with
      idle := idle
      startMark := pins.line = .dominant ∧ 11 ≤ s.line.idle
      rx := match s.line.rx with
        | .watching => .watching
        | .collecting stamp frame => .collecting stamp (collected frame)
        | .waitRecessive => if 11 ≤ idle then .watching else .waitRecessive
      tx := s.line.tx.map fun a => if a.readBack.length < 4 + 10 * a.bytes.length then
        { a with readBack := a.readBack ++ [recessive] } else a } := by
    have steps (frame : Collecting) : frame.step recessive = collected frame := Collecting.step_eq frame recessive
    have marks : (pins.line = .dominant && Config.frameEnd ≤ s.line.idle) = decide (pins.line = .dominant ∧ 11 ≤ s.line.idle) := by
      rw [Bool.decide_and]; rfl
    have hears : s.line.rx.hears recessive idle = match s.line.rx with
        | .watching => .watching
        | .collecting stamp frame => .collecting stamp (collected frame)
        | .waitRecessive => if 11 ≤ idle then .watching else .waitRecessive := by
      cases s.line.rx with
      | collecting stamp frame => exact congrArg _ (steps frame)
      | _ => rfl
    have backs : (fun a : Attempt => a.hears recessive) = fun a => if a.readBack.length < 4 + 10 * a.bytes.length then
        { a with readBack := a.readBack ++ [recessive] } else a :=
      funext fun a => by rw [Attempt.hears, Attempt.levels, frameLevels_length]
    rw [← hears, ← backs, ← marks, ← level, ← counts]
    rfl
  have loader : s.loader.tick pins.memory = { s.loader with
      joining := counted s.loader.joining, readTimer := counted s.loader.readTimer, hold := counted s.loader.hold
      sampled := if (∃ n, s.loader.readTimer = some n ∧ 32 ≤ n) ∧ s.loader.sampled.length < 8 * 134 then
        s.loader.sampled ++ [pins.memory] else s.loader.sampled } := by
    rw [Loader.tick, ← sampleMemory_eq, ticks, ticks, ticks]
  have cabinet : s.cabinet.tick = { s.cabinet with
      swA := debounced s.cabinet.swA, swB := debounced s.cabinet.swB, door := debounced s.cabinet.door
      key := debounced s.cabinet.key, discrepancy := counted s.cabinet.discrepancy, restore := counted s.cabinet.restore } := by
    simp only [Cabinet.tick, ticks, settles]
  have whole : s.tick pins = { s with
      clock := (s.tick pins).clock
      loader := s.loader.tick pins.memory
      cabinet := s.cabinet.tick
      tracking := { s.tracking with infeed := s.tracking.infeed.tick, pitch := s.tracking.pitch.tick }
      heads := withIndex (fun i h => h.tick (inSet pins.ready i) (inSet pins.meter i)) s.heads
      portA := s.tickPort .a pins
      portB := s.tickPort .b pins
      gate := { s.gate with confirm := s.gate.confirm.tick }
      line := if s.listening then s.line.tick pins.line else s.line } := rfl
  refine whole.trans ?_
  rw [loader, cabinet, settles, settles, settles, heads, ports, ports, line]
  rfl

end Sys2Proof.Machine

/-! PROOFS of the statement on frames and commands: the CRC, the layouts and the codes lose no bit (R160, R162, R171, R198, R201). -/

namespace Sys2Proof.Machine

/-! ## Numbers in bytes -/

/-- Bytes read on to a number put it before theirs. -/
theorem foldl_bytesOf (n v acc : Nat) :
    (bytesOf n v).foldl (fun acc b => acc * 256 + b.toNat) acc = acc * 256 ^ n + v % 256 ^ n := by
  induction n generalizing acc with
  | zero => simp [bytesOf, Nat.mod_one]
  | succ n ih =>
    have digit : (byte (v / 256 ^ n)).toNat = v / 256 ^ n % 256 := by simp [byte]
    rw [bytesOf, List.foldl_cons, ih, digit, Nat.pow_succ, Nat.mod_mul, Nat.add_mul, Nat.mul_assoc, Nat.mul_comm 256]
    rw [Nat.mul_comm (v / 256 ^ n % 256)]
    omega

/-- The number that n bytes of a number spell is its n low bytes. -/
theorem numberOf_bytesOf (n v : Nat) : numberOf (bytesOf n v) = v % 256 ^ n := by
  rw [numberOf, foldl_bytesOf]
  simp

/-- A hall time reads back from its bytes. -/
theorem time_reads (t : Time) : BitVec.ofNat 48 (numberOf (bytesOf 6 t.toNat)) = t := by
  rw [numberOf_bytesOf]
  bv_omega

/-- A 16-bit figure reads back from its bytes. -/
theorem word_reads (w : Word16) : BitVec.ofNat 16 (numberOf (bytesOf 2 w.toNat)) = w := by
  rw [numberOf_bytesOf]
  bv_omega

/-- A sequence reads back from its bytes. -/
theorem long_reads (w : Word32) : BitVec.ofNat 32 (numberOf (bytesOf 4 w.toNat)) = w := by
  rw [numberOf_bytesOf]
  bv_omega

/-! ## The CRC (R160) -/

/-- Feeding a register its own top bit shifts it. -/
theorem crcBit_own {r : Word16} {bit : Bool} (own : r.getLsbD 15 = bit) : crcBit r bit = r <<< 1 := by
  rw [crcBit, own]
  simp

/-- A register fed with its own bits from the top leaves nothing of them (R160). -/
theorem crc_own (r : Word16) : crcByte (crcByte r (byte (r.toNat / 256))) (byte r.toNat) = 0 := by
  have shifted (k j : Nat) (top : k + j = 15) : crcBit (r <<< k) (r.getLsbD j) = r <<< (k + 1) := by
    rw [crcBit_own (by rw [BitVec.getLsbD_shiftLeft, show 15 - k = j by omega]; simp [show k ≤ 15 by omega]), BitVec.shiftLeft_add]
  have begun (j : Nat) (top : j = 15) : crcBit r (r.getLsbD j) = r <<< 1 := crcBit_own (by rw [top])
  have high (i : Nat) (below : i < 8) : (byte (r.toNat / 256)).getLsbD i = r.getLsbD (8 + i) := by
    rw [byte, BitVec.getLsbD_ofNat, BitVec.getLsbD, show 256 = 2 ^ 8 from rfl, ← Nat.shiftRight_eq_div_pow, Nat.testBit_shiftRight]
    simp [below]
  have low (i : Nat) (below : i < 8) : (byte r.toNat).getLsbD i = r.getLsbD i := by
    rw [byte, BitVec.getLsbD_ofNat, BitVec.getLsbD]
    simp [below]
  have first : crcByte r (byte (r.toNat / 256)) = r <<< 8 := by
    simp only [crcByte, List.foldl_cons, List.foldl_nil, high _ (show 7 < 8 by decide), high _ (show 6 < 8 by decide),
      high _ (show 5 < 8 by decide), high _ (show 4 < 8 by decide), high _ (show 3 < 8 by decide), high _ (show 2 < 8 by decide),
      high _ (show 1 < 8 by decide), high _ (show 0 < 8 by decide)]
    rw [begun _ rfl, shifted _ _ rfl, shifted _ _ rfl, shifted _ _ rfl, shifted _ _ rfl, shifted _ _ rfl, shifted _ _ rfl,
      shifted _ _ rfl]
  have second : crcByte (r <<< 8) (byte r.toNat) = r <<< 16 := by
    simp only [crcByte, List.foldl_cons, List.foldl_nil, low _ (show 7 < 8 by decide), low _ (show 6 < 8 by decide),
      low _ (show 5 < 8 by decide), low _ (show 4 < 8 by decide), low _ (show 3 < 8 by decide), low _ (show 2 < 8 by decide),
      low _ (show 1 < 8 by decide), low _ (show 0 < 8 by decide)]
    rw [shifted _ _ rfl, shifted _ _ rfl, shifted _ _ rfl, shifted _ _ rfl, shifted _ _ rfl, shifted _ _ rfl, shifted _ _ rfl,
      shifted _ _ rfl]
  rw [first, second]
  exact BitVec.shiftLeft_eq_zero (by decide)

/-- A frame with its CRC behind it leaves no remainder (R160). -/
theorem crc16_frameBytes (dest src kind : Byte) (payload : List Byte) : crc16 (frameBytes dest src kind payload) = 0 := by
  have two (v : Nat) : bytesOf 2 v = [byte (v / 256), byte v] := by simp [bytesOf]
  have whole : crc16 (frameBytes dest src kind payload) = crcByte (crcByte (crc16 (frameBody dest src kind payload))
      (byte ((crc16 (frameBody dest src kind payload)).toNat / 256))) (byte (crc16 (frameBody dest src kind payload)).toNat) := by
    rw [frameBytes, two, crc16, List.foldl_append]
    rfl
  rw [whole, crc_own]

/-! ## Frames (R160, R162, R171, R198) -/

/-- A frame is 6 bytes longer than its payload (R160). -/
theorem frameBytes_length (dest src kind : Byte) (payload : List Byte) :
    (frameBytes dest src kind payload).length = payload.length + 6 := by
  simp [frameBytes, frameBody]

/-- A whole frame is the command of its kind (R162, R171). -/
theorem commandOf_frameBytes (dest src : Byte) (k : FrameKind) {payload : List Byte} (short : payload.length ≤ 56)
    (allowed : lenAllowed k payload.length = true) :
    commandOf (frameBytes dest src (kindCode k) payload) = commandOfKind k dest src payload := by
  have length := frameBytes_length dest src (kindCode k) payload
  have len : ((frameBytes dest src (kindCode k) payload).getD 3 0).toNat = payload.length := by
    show (byte payload.length).toNat = _
    simp only [byte, BitVec.toNat_ofNat]
    omega
  have whole : wholeFrame (frameBytes dest src (kindCode k) payload) = true := by
    simp only [wholeFrame, Bool.and_eq_true, decide_eq_true_eq, length, len, crc16_frameBytes]
    exact ⟨⟨⟨by omega, trivial⟩, by omega⟩, trivial⟩
  have body : ((frameBytes dest src (kindCode k) payload).drop 4).take (payload.length + 6 - 6) = payload := by
    show (payload ++ _).take _ = _
    rw [Nat.add_sub_cancel, List.take_left]
  have kind : allowedKind (kindCode k) payload.length = some k := by
    rw [allowedKind, (kindOf_eq_some (kindCode k) k).mpr rfl]
    exact Option.filter_some_pos allowed
  rw [commandOf, if_pos whole]
  simp only [length, body]
  show (match allowedKind (kindCode k) payload.length with
    | some k' => commandOfKind k' dest src payload
    | none => .frameDiscarded dest src (kindCode k) payload) = _
  rw [kind]

/-- No kind allows more than 56 payload bytes (R198). -/
theorem length_of_allowed {k : FrameKind} {len : Nat} (allowed : lenAllowed k len = true) : len ≤ 56 := by
  cases k <;> simp [lenAllowed] at allowed <;> omega

/-- A frame of an allowed length reads back as the command of its kind, its CRC passes, and it is not too long. -/
theorem frame_reads_back {i : Instr} {dest src : Byte} (k : FrameKind) {payload : List Byte}
    (allowed : lenAllowed k payload.length = true) (is : commandOfKind k dest src payload = i) :
    commandOf (frameBytes dest src (kindCode k) payload) = i ∧ crc16 (frameBytes dest src (kindCode k) payload) = 0 ∧
      (frameBytes dest src (kindCode k) payload).length ≤ 62 := by
  have short := length_of_allowed allowed
  exact ⟨(commandOf_frameBytes dest src k short allowed).trans is, crc16_frameBytes _ _ _ _,
    by rw [frameBytes_length]; omega⟩

/-- The fields of a BCN read back (R201). -/
theorem bcnBodyOf_bytes (b : BcnBody) : bcnBodyOf (timeBytes b.stamp ++ [b.quality] ++ cabinetCodeBytes b.cabinet ++
    bytesOf 2 b.intervalMs.toNat ++ [b.lock, b.gateFault, b.fill]) = b := by
  have fields : bcnBodyOf (timeBytes b.stamp ++ [b.quality] ++ cabinetCodeBytes b.cabinet ++
      bytesOf 2 b.intervalMs.toNat ++ [b.lock, b.gateFault, b.fill]) =
      ⟨BitVec.ofNat 48 (numberOf (bytesOf 6 b.stamp.toNat)), b.quality, b.cabinet,
        BitVec.ofNat 16 (numberOf (bytesOf 2 b.intervalMs.toNat)), b.lock, b.gateFault, b.fill⟩ := rfl
  rw [fields, time_reads, word_reads]

/-- The fields of an HND read back (R201). -/
theorem hndBodyOf_bytes (h : HndBody) : hndBodyOf (bytesOf 4 h.sequence.toNat ++ timeBytes h.capture ++ [h.fill] ++
    bytesOf 2 h.meter.toNat ++ [h.verdicts, h.failA, h.failB, h.reasons, h.flags, h.quality]) = h := by
  have fields : hndBodyOf (bytesOf 4 h.sequence.toNat ++ timeBytes h.capture ++ [h.fill] ++ bytesOf 2 h.meter.toNat ++
      [h.verdicts, h.failA, h.failB, h.reasons, h.flags, h.quality]) =
      ⟨BitVec.ofNat 32 (numberOf (bytesOf 4 h.sequence.toNat)), BitVec.ofNat 48 (numberOf (bytesOf 6 h.capture.toNat)), h.fill,
        BitVec.ofNat 16 (numberOf (bytesOf 2 h.meter.toNat)), h.verdicts, h.failA, h.failB, h.reasons, h.flags, h.quality⟩ := rfl
  rw [fields, long_reads, time_reads, word_reads]

/-- The seconds of an ARQ read back (R201). -/
theorem arq_seconds (level span : Byte) (seconds : Word16) : wordAt ([level, span] ++ bytesOf 2 seconds.toNat) 2 = seconds := by
  have field : wordAt ([level, span] ++ bytesOf 2 seconds.toNat) 2 =
      BitVec.ofNat 16 (numberOf (bytesOf 2 seconds.toNat)) := rfl
  rw [field, word_reads]

/-- Settles O59: each frame command by its kind. -/
theorem framesReadBackAsTheirCommands : Obligations.FramesReadBackAsTheirCommands := by
  intro i bytes frame formed
  cases i with
  | bcn dest src b =>
    obtain rfl := Option.some.inj frame
    exact frame_reads_back .bcn rfl (congrArg (Instr.bcn dest src) (bcnBodyOf_bytes b))
  | cab dest src c =>
    obtain rfl := Option.some.inj frame
    exact frame_reads_back .cab rfl rfl
  | hnd dest src h =>
    obtain rfl := Option.some.inj frame
    exact frame_reads_back .hnd rfl (congrArg (Instr.hnd dest src) (hndBodyOf_bytes h))
  | crp dest src payload =>
    obtain rfl := Option.some.inj frame
    exact frame_reads_back .crp formed rfl
  | evt dest src payload =>
    obtain rfl := Option.some.inj frame
    exact frame_reads_back .evt formed rfl
  | arp dest src payload =>
    obtain rfl := Option.some.inj frame
    exact frame_reads_back .arp formed rfl
  | ans dest src payload =>
    obtain rfl := Option.some.inj frame
    exact frame_reads_back .ans formed rfl
  | arq dest src level span seconds =>
    obtain rfl := Option.some.inj frame
    exact frame_reads_back .arq rfl (congrArg (Instr.arq dest src level span) (arq_seconds level span seconds))
  | arl dest src number =>
    obtain rfl := Option.some.inj frame
    exact frame_reads_back .arl rfl rfl
  | jog dest src head count =>
    obtain rfl := Option.some.inj frame
    exact frame_reads_back .jog rfl rfl
  | lck dest src =>
    obtain rfl := Option.some.inj frame
    exact frame_reads_back .lck rfl rfl
  | qry dest src table start count clear =>
    obtain rfl := Option.some.inj frame
    exact frame_reads_back .qry rfl rfl
  | _ => cases frame

end Sys2Proof.Machine

/-! PROOFS of the statement on the levels of the lines: frames, characters and the bytes of the memory (R111, R159, R161, R188). -/

namespace Sys2Proof.Machine

/-! ## One byte on the hall line (R159, R161) -/

/-- The bits of a byte spell it. -/
theorem byteOfBits_byteBits (b : Byte) : byteOfBits (byteBits b) = b := byteOfBits_memory b

/-- Up to 8 data bits are taken, with at most one dominant microsecond more for each (R159). -/
theorem foldl_data (taken : List Byte) (levels bits : List Bool) (d r : Nat) (room : bits.length + levels.length ≤ 8)
    (short : d + levels.length ≤ 9) : ∃ d' r', levels.foldl Collecting.step ⟨.inByte taken bits, d, r⟩ =
      ⟨.inByte taken (levels.reverse ++ bits), d', r'⟩ ∧ d' ≤ d + levels.length ∧ r' ≤ r + levels.length := by
  induction levels generalizing bits d r with
  | nil => exact ⟨d, r, rfl, Nat.le_refl _, Nat.le_refl _⟩
  | cons level levels ih =>
    simp only [List.length_cons] at room short
    have step : Collecting.step ⟨.inByte taken bits, d, r⟩ level =
        ⟨.inByte taken (level :: bits), if level then 0 else d + 1, if level then r + 1 else 0⟩ := by
      have more : bits.length < 8 := by omega
      have held : ¬9 < (if level then 0 else d + 1) := by split <;> omega
      rw [Collecting.step_eq]
      simp only [if_pos more, if_neg held]
    rw [List.foldl_cons, step]
    obtain ⟨d', r', is, dominant, recessive⟩ := ih (level :: bits) (if level then 0 else d + 1) (if level then r + 1 else 0)
      (by simp only [List.length_cons]; omega) (by split <;> omega)
    refine ⟨d', r', by rw [is]; simp, ?_, ?_⟩
    · simp only [List.length_cons]
      split at dominant <;> omega
    · simp only [List.length_cons]
      split at recessive <;> omega

/-- The start bit and the data bits of a byte (R159). -/
theorem foldl_begunByte (b : Byte) (taken : List Byte) (q r : Nat) (run : r < 11) :
    ∃ d' r', (false :: byteBits b).foldl Collecting.step ⟨.between taken q, 0, r⟩ =
      ⟨.inByte taken (byteBits b).reverse, d', r'⟩ ∧ d' ≤ 9 ∧ r' ≤ 8 := by
  have start : Collecting.step ⟨.between taken q, 0, r⟩ false = ⟨.inByte taken [], 1, 0⟩ := by
    rw [Collecting.step_eq]
    simp [run]
  have eight : (byteBits b).length = 8 := by simp [byteBits]
  rw [List.foldl_cons, start]
  obtain ⟨d', r', is, dominant, recessive⟩ := foldl_data taken (byteBits b) [] 1 0 (by simp [eight]) (by simp [eight])
  exact ⟨d', r', by rw [is, List.append_nil], by omega, by omega⟩

/-- A byte that is not the 63rd is taken (R159, R161). -/
theorem foldl_byte (b : Byte) (taken : List Byte) (r : Nat) (room : taken.length < 62) (run : r < 11) :
    ∃ r', (lineByte b).foldl Collecting.step ⟨.between taken 0, 0, r⟩ = ⟨.between (b :: taken) 0, 0, r'⟩ ∧ r' < 11 := by
  obtain ⟨d', r', is, -, recessive⟩ := foldl_begunByte b taken 0 r run
  refine ⟨r' + 1, ?_, by omega⟩
  have eight : ¬(byteBits b).reverse.length < 8 := by simp [byteBits]
  rw [lineByte, List.foldl_append, is, List.foldl_cons, List.foldl_nil, Collecting.step_eq]
  simp only [if_neg eight, if_pos room, if_true, List.reverse_reverse, byteOfBits_byteBits]
  rfl

/-- Up to 62 bytes are taken one after the other (R159, R161). -/
theorem foldl_bytes (bytes taken : List Byte) (r : Nat) (room : taken.length + bytes.length ≤ 62) (run : r < 11) :
    ∃ r', (bytes.flatMap lineByte).foldl Collecting.step ⟨.between taken 0, 0, r⟩ =
      ⟨.between (bytes.reverse ++ taken) 0, 0, r'⟩ ∧ r' < 11 := by
  induction bytes generalizing taken r with
  | nil => exact ⟨r, rfl, run⟩
  | cons b bytes ih =>
    simp only [List.length_cons] at room
    obtain ⟨r₁, one, run₁⟩ := foldl_byte b taken r (by omega) run
    obtain ⟨r₂, rest, run₂⟩ := ih (b :: taken) r₁ (by simp only [List.length_cons]; omega) run₁
    exact ⟨r₂, by rw [List.flatMap_cons, List.foldl_append, one, rest]; simp, run₂⟩

/-! ## A whole frame (R159, R161) -/

/-- The start mark goes by (R159). -/
theorem foldl_startMark : startMarkLevels.foldl Collecting.step Collecting.fresh = ⟨.between [] 0, 0, 1⟩ := by
  decide

/-- A frame of up to 62 bytes is collected to its last stop bit (R159). -/
theorem foldl_frame {bytes : List Byte} (short : bytes.length ≤ 62) : ∃ r,
    (frameLevels bytes).foldl Collecting.step Collecting.fresh = ⟨.between bytes.reverse 0, 0, r⟩ ∧ r < 11 := by
  obtain ⟨r, is, run⟩ := foldl_bytes bytes [] 1 (by simpa using short) (by omega)
  exact ⟨r, by rw [frameLevels, List.foldl_append, foldl_startMark, is, List.append_nil], run⟩

/-- Recessive microseconds after a stop bit, up to 10 of them (R161). -/
theorem foldl_quiet (taken : List Byte) (n q r : Nat) (few : q + n ≤ 10) : ∃ d r',
    (List.replicate n true).foldl Collecting.step ⟨.between taken q, 0, r⟩ = ⟨.between taken (q + n), d, r'⟩ := by
  induction n generalizing q r with
  | zero => exact ⟨0, r, rfl⟩
  | succ n ih =>
    have step : Collecting.step ⟨.between taken q, 0, r⟩ true = ⟨.between taken (q + 1), 0, r + 1⟩ := by
      rw [Collecting.step_eq]
      simp [show q < 10 by omega]
    obtain ⟨d, r', is⟩ := ih (q + 1) (r + 1) (by omega)
    exact ⟨d, r', by rw [List.replicate_succ, List.foldl_cons, step, is, Nat.add_right_comm, Nat.add_assoc]⟩

/-- A frame at its end stays so. -/
theorem foldl_ended (levels : List Bool) {c : Collecting} {got : Collected} (ended : c.ended = some got) :
    (levels.foldl Collecting.step c).ended = some got := by
  induction levels generalizing c with
  | nil => exact ended
  | cons level levels ih => exact ih (Collecting.step_ended c got level ended)

/-- What local microseconds make of a frame in collection is what its levels make of it (R159, R161). -/
theorem collected_after (samples : List PinSamples) {u : State} {stamp : Time} {frame : Collecting}
    (listens : u.listening = true) (rx : u.line.rx = .collecting stamp frame) :
    (samples.foldl State.tick u).collected =
      ((samples.map fun pins => decide (pins.line = .recessive)).foldl Collecting.step frame).ended := by
  induction samples generalizing u frame with
  | nil => rw [List.foldl_nil, State.collected, if_pos listens, rx]; rfl
  | cons pins samples ih =>
    have level : isRecessive pins.line = decide (pins.line = .recessive) := by cases pins.line <;> rfl
    have line : (u.tick pins).line = u.line.tick pins.line := if_pos listens
    refine ih (u := u.tick pins) (frame := frame.step (decide (pins.line = .recessive))) listens ?_
    rw [line]
    show u.line.rx.hears (isRecessive pins.line) _ = _
    rw [rx, level]
    rfl

/-! ## A character of a result line (R111) -/

/-- The local microsecond, counted from 0, in which the middle of bit k of a character is sampled (R111). -/
def middleAt (rate k : Nat) : Nat := (2 * k + 1) * 500000 / rate

/-- The middle of a bit lies in the bit (R111). -/
theorem middleAt_place {rate : Nat} (positive : 0 < rate) (slow : rate ≤ 500000) (k : Nat) :
    middleAt rate k * rate / 1000000 = k := by
  have low := Nat.div_mul_le_self ((2 * k + 1) * 500000) rate
  have high := Nat.lt_div_mul_add (a := (2 * k + 1) * 500000) positive
  unfold middleAt
  generalize (2 * k + 1) * 500000 / rate * rate = place at low high
  omega

/-- The middle of a bit comes after that of the bit before (R111). -/
theorem middleAt_lt {rate : Nat} (positive : 0 < rate) (slow : rate ≤ 500000) (k : Nat) : middleAt rate k < middleAt rate (k + 1) := by
  have next : (2 * k + 1) * 500000 + rate ≤ (2 * (k + 1) + 1) * 500000 := by omega
  have grows := Nat.div_le_div_right (c := rate) next
  rw [Nat.add_div_right _ positive] at grows
  exact grows

/-- The middles of the bits come in order (R111). -/
theorem middleAt_le {rate : Nat} (positive : 0 < rate) (slow : rate ≤ 500000) {j k : Nat} (order : j ≤ k) :
    middleAt rate j ≤ middleAt rate k := by
  induction order with
  | refl => exact Nat.le_refl _
  | step _ ih => exact ih.trans (middleAt_lt positive slow _).le

/-- The levels that a character holds on its line, one for each local microsecond up to the middle of its stop bit (R111). -/
def characterLevels (b : Byte) (rate n : Nat) : List Bool := (List.range n).map fun i => (lineByte b).getD (i * rate / 1000000) true

/-- A character in its microseconds: the bits whose middles have gone by are taken (R111). -/
theorem foldl_character (b : Byte) (code n : Nat) (positive : 0 < bitRate code) (slow : bitRate code ≤ 500000)
    (short : n < middleAt (bitRate code) 9) : ∃ m ≤ 8, (characterLevels b (bitRate code) (n + 1)).foldl (SerialReceiver.step code) .idle =
      .inCharacter (n + 1) ((byteBits b).take m).reverse ∧ n + 1 ≤ middleAt (bitRate code) (m + 1) := by
  induction n with
  | zero =>
    refine ⟨0, by omega, by simp [characterLevels, lineByte, SerialReceiver.step], ?_⟩
    have := middleAt_lt positive slow 0
    omega
  | succ n ih =>
    obtain ⟨m, few, is, before⟩ := ih (by omega)
    have levels : characterLevels b (bitRate code) (n + 1 + 1) = characterLevels b (bitRate code) (n + 1) ++
        [(lineByte b).getD ((n + 1) * bitRate code / 1000000) true] := by
      simp [characterLevels, List.range_succ]
    have taken : ((byteBits b).take m).reverse.length = m := by simp [byteBits]; omega
    rw [levels, List.foldl_append, is, List.foldl_cons, List.foldl_nil]
    by_cases early : n + 1 < middleAt (bitRate code) (m + 1)
    · refine ⟨m, few, ?_, early⟩
      have wait : n + 1 + 1 < bitMiddle code (((byteBits b).take m).reverse.length + 1) := by
        rw [taken]; exact Nat.succ_lt_succ early
      rw [SerialReceiver.step, characterStep, if_pos wait]
    · have now : n + 1 = middleAt (bitRate code) (m + 1) := by omega
      have more : m < 8 := by
        by_contra none
        have := middleAt_le positive slow (show 9 ≤ m + 1 by omega)
        omega
      have due : ¬n + 1 + 1 < bitMiddle code (((byteBits b).take m).reverse.length + 1) := by
        rw [taken]; exact fun lt => early (Nat.lt_of_succ_lt_succ lt)
      have bit : (lineByte b).getD ((n + 1) * bitRate code / 1000000) true = b.getLsbD m := by
        rw [now, middleAt_place positive slow]
        simp [lineByte, byteBits, List.getD_eq_getElem?_getD, List.getElem?_append, more]
      have longer : (byteBits b).take (m + 1) = (byteBits b).take m ++ [b.getLsbD m] := by
        rw [List.take_add_one]
        simp [byteBits, more]
      refine ⟨m + 1, more, ?_, ?_⟩
      · rw [SerialReceiver.step, characterStep, if_neg due, if_pos (by rw [taken]; exact more), bit, longer]
        simp
      · rw [now]; exact middleAt_lt positive slow _

/-- A character completes as its byte at the middle of its stop bit (R111). -/
theorem character_completes (b : Byte) (code : Nat) (positive : 0 < bitRate code) (slow : bitRate code ≤ 500000) :
    (characterLevels b (bitRate code) (middleAt (bitRate code) 9 + 1)).foldl (SerialReceiver.step code) .idle = .complete (some b) := by
  have first : middleAt (bitRate code) 8 < middleAt (bitRate code) 9 := middleAt_lt positive slow 8
  obtain ⟨n, stop⟩ : ∃ n, middleAt (bitRate code) 9 = n + 1 := ⟨middleAt (bitRate code) 9 - 1, by omega⟩
  obtain ⟨m, few, is, before⟩ := foldl_character b code n positive slow (by omega)
  have all : m = 8 := by
    by_contra other
    have := middleAt_le positive slow (show m + 1 ≤ 8 by omega)
    omega
  subst all
  have eight : (byteBits b).length = 8 := by simp [byteBits]
  have taken : ((byteBits b).take 8).reverse.length = 8 := by simp [eight]
  have levels : characterLevels b (bitRate code) (middleAt (bitRate code) 9 + 1) = characterLevels b (bitRate code) (n + 1) ++
      [(lineByte b).getD (middleAt (bitRate code) 9 * bitRate code / 1000000) true] := by
    simp [characterLevels, List.range_succ, stop]
  have bit : (lineByte b).getD (middleAt (bitRate code) 9 * bitRate code / 1000000) true = true := by
    rw [middleAt_place positive slow]
    simp [lineByte, byteBits, List.getD_eq_getElem?_getD]
  have due : ¬n + 1 + 1 < bitMiddle code (((byteBits b).take 8).reverse.length + 1) := by
    rw [taken]
    show ¬n + 1 + 1 < middleAt (bitRate code) 9 + 1
    omega
  rw [levels, List.foldl_append, is, List.foldl_cons, List.foldl_nil, bit, SerialReceiver.step, characterStep, if_neg due,
    if_neg (by rw [taken]; decide), readCharacter_eq taken, List.reverse_reverse, List.take_of_length_le (by rw [eight]),
    byteOfBits_byteBits]
  rfl

/-- The bit rate of every baud code is within its limits (R111). -/
theorem bitRate_bounds (code : Nat) : 0 < bitRate code ∧ bitRate code ≤ 500000 := by
  unfold bitRate
  split <;> omega

/-- Settles O60: frames, held lines, the receiver in its microseconds, characters, and the memory. -/
theorem lineBytesReadBack : Obligations.LineBytesReadBack := by
  refine ⟨fun bytes => ⟨fun short => ?ends, fun short => ?waits, fun long => ?long, fun b short => ?dominant⟩, fun n => ?held,
    fun s samples sees => ?receiver, fun b code => ?character, fun bytes => ?memory⟩
  case ends =>
    obtain ⟨r, is, -⟩ := foldl_frame short
    obtain ⟨d, r', quiet⟩ := foldl_quiet bytes.reverse 10 0 r (by omega)
    rw [collectFrame, List.foldl_append, is, List.replicate_succ' (n := 10), List.foldl_append, quiet, List.foldl_cons,
      List.foldl_nil, Collecting.step_eq]
    simp [Collecting.ended]
  case waits =>
    obtain ⟨r, is, -⟩ := foldl_frame short
    obtain ⟨d, r', quiet⟩ := foldl_quiet bytes.reverse 10 0 r (by omega)
    rw [collectFrame, List.foldl_append, is, quiet]
    rfl
  case long =>
    obtain ⟨front, last, rfl⟩ : ∃ front last, bytes = front ++ [last] :=
      ⟨bytes.dropLast, bytes.getLast (by rintro rfl; simp at long), (List.dropLast_append_getLast _).symm⟩
    have short : front.length = 62 := by simpa using long
    obtain ⟨r, is, run⟩ := foldl_frame (bytes := front) (by omega)
    obtain ⟨d', r', begun, -, -⟩ := foldl_begunByte last front.reverse 0 r run
    have levels : frameLevels (front ++ [last]) = frameLevels front ++ (false :: byteBits last) ++ [true] := by
      simp [frameLevels, lineByte]
    have eight : ¬(byteBits last).reverse.length < 8 := by simp [byteBits]
    have full : ¬front.reverse.length < 62 := by simp [short]
    rw [collectFrame, levels, List.foldl_append, List.foldl_append, is, begun, List.foldl_cons, List.foldl_nil, Collecting.step_eq]
    simp only [if_neg eight, if_neg full]
    rfl
  case dominant =>
    obtain ⟨r, is, run⟩ := foldl_frame short
    obtain ⟨d', r', begun, -, -⟩ := foldl_begunByte b bytes.reverse 0 r run
    have levels : (lineByte b).take 9 = false :: byteBits b := by
      simp [lineByte, byteBits]
    have eight : ¬(byteBits b).reverse.length < 8 := by simp [byteBits]
    rw [collectFrame, levels, List.foldl_append, List.foldl_append, is, begun, List.foldl_cons, List.foldl_nil, Collecting.step_eq]
    simp only [if_neg eight]
    rfl
  case held =>
    by_cases few : n ≤ 9
    · rw [if_pos few]
      interval_cases n <;> decide
    · have parts : List.replicate n false = List.replicate 10 false ++ List.replicate (n - 10) false := by
        rw [List.replicate_append_replicate, show 10 + (n - 10) = n by omega]
      have broken : ((List.replicate 10 false).foldl Collecting.step Collecting.fresh).ended = some (.broken true) := by decide
      rw [if_neg few, collectFrame, parts, List.foldl_append, foldl_ended _ broken]
  case receiver =>
    intro after
    have listens : s.listening = true := by
      simp only [State.seesStartMark, Bool.and_eq_true] at sees
      exact sees.1.1
    have begins : after s .startMark = { s with line := { s.line with rx := .collecting s.now .begun, idle := 0, startMark := false } } := by
      simp only [after]
      rw [exec_effect (i := .startMark) sees]
      rfl
    rw [begins]
    exact collected_after samples listens rfl
  case character =>
    intro rate levels
    have same : bitRate code = rate := bitRate_eq code
    have completes := character_completes b code (bitRate_bounds code).1 (bitRate_bounds code).2
    rw [same] at completes
    exact completes
  case memory =>
    have read := memoryBytes_sampled bytes [] (by simp)
    rw [List.append_nil] at read
    exact read

end Sys2Proof.Machine

/-! PROOFS of the statement on the configuration: every field by its row, the cross clamps and the clamp record (R192, R193, R204). -/

namespace Sys2Proof.Machine

/-! ## The rows of the image (R204) -/

/-- The rows stand in ascending field number. -/
theorem fieldRows_ascending : fieldRows.Pairwise fun x y => x.number < y.number := by
  decide

/-- A field number names one row. -/
theorem fieldRow_unique {x y : FieldRow} (listedX : x ∈ fieldRows) (listedY : y ∈ fieldRows) (same : x.number = y.number) : x = y :=
  pairwise_eq fieldRows_ascending listedX listedY (by omega) (by omega)

/-- The lower limit of every row is not above its upper one. -/
theorem fieldRow_range : ∀ row ∈ fieldRows, row.low ≤ row.high := by
  decide

/-- The value of a field after R192 is that of its row. -/
theorem rangedField_row (image : List Byte) {row : FieldRow} (listed : row ∈ fieldRows) :
    rangedField image row.number = row.ranged image := by
  have found : (fieldRows.find? fun r => r.number = row.number) = some row :=
    find_unique listed (by simp) fun other held same => fieldRow_unique held listed (by simpa using same)
  rw [rangedField, found]

/-- A value brought into a range lies in it (R192). -/
theorem clampNat_bounds {low high : Nat} (range : low ≤ high) (v : Nat) : low ≤ clampNat low high v ∧ clampNat low high v ≤ high := by
  unfold clampNat
  omega

/-- A value in its range is used as written (R192). -/
theorem clampNat_inside {low high v : Nat} (above : low ≤ v) (below : v ≤ high) : clampNat low high v = v := by
  unfold clampNat
  omega

/-- Every field lies in its range after R192. -/
theorem rangedField_bounds (image : List Byte) {row : FieldRow} (listed : row ∈ fieldRows) :
    row.low ≤ rangedField image row.number ∧ rangedField image row.number ≤ row.high := by
  rw [rangedField_row image listed]
  exact clampNat_bounds (fieldRow_range row listed) _

/-! ## The cross clamps (R193) -/

/-- The fields that a cross clamp may change, beside the classes. -/
def crossed : List Nat := [15, 16, 17, 20, 21]

/-- A field that no cross clamp names is used as R192 leaves it. -/
theorem finalField_plain (image : List Byte) {n : Nat} (plain : n ∉ crossed) (early : n < 64) :
    finalField image n = rangedField image n := by
  simp only [crossed, List.mem_cons, List.not_mem_nil, or_false, not_or] at plain
  obtain ⟨no15, no16, no17, no20, no21⟩ := plain
  unfold finalField
  split
  · exact absurd rfl no20
  · exact absurd rfl no21
  · exact absurd rfl no15
  · exact absurd rfl no16
  · exact absurd rfl no17
  · exact if_neg (by omega)

/-- A class after R193 (R177). -/
theorem finalField_class (image : List Byte) {n : Nat} (late : 64 ≤ n) :
    finalField image n = crossClass (n - 64) (rangedField image n) := by
  unfold finalField
  split
  case h_6 => exact if_pos late
  all_goals omega

/-- A partner's address is another station's or 0 (R193). -/
theorem crossAddress_bounds {own address : Nat} (station : own ≠ 0) (short : address ≤ 30) :
    crossAddress own address ≤ 30 ∧ crossAddress own address ≠ own := by
  unfold crossAddress
  split <;> omega

/-- The reject delay after its cross clamp (R75, R193). -/
theorem crossRejectDelay_bounds {delay : Nat} (low : 1 ≤ delay) (high : delay ≤ 30000) :
    1 ≤ crossRejectDelay delay ∧ crossRejectDelay delay ≤ 30000 := by
  unfold crossRejectDelay
  split <;> omega

/-- The decide margin after its cross clamp lies below the reject delay (R75, R193). -/
theorem crossDecideMargin_bounds {delay margin : Nat} (delayLow : 1 ≤ delay) (low : 1 ≤ margin) (high : margin ≤ 1000) :
    1 ≤ crossDecideMargin delay margin ∧ crossDecideMargin delay margin ≤ 1000 ∧
      crossDecideMargin delay margin < crossRejectDelay delay := by
  unfold crossDecideMargin crossRejectDelay
  split <;> omega

/-- A class is 1 or 2 (R177). -/
theorem crossClass_or (source entry : Nat) : crossClass source entry = 1 ∨ crossClass source entry = 2 := by
  unfold crossClass
  split
  · exact .inl rfl
  · split
    · exact .inl rfl
    · exact .inr rfl

/-- A class from its source and its entry (R177, R193). -/
theorem crossClass_eq (source entry : Nat) : crossClass source entry = if source ∈ fixedClassOne ∨ entry = 1 then 1 else 2 := by
  unfold crossClass
  by_cases fixed : source ∈ fixedClassOne
  · simp [fixed]
  · simp [fixed]

/-- The rows of the crossed fields, and the range of the classes. -/
theorem crossed_rows : ∀ row ∈ fieldRows, (row.number ∈ crossed → row ∈ [(⟨15, 32, 1, 0, 30⟩ : FieldRow), ⟨16, 33, 1, 0, 30⟩,
    ⟨17, 34, 1, 0, 30⟩, ⟨20, 39, 2, 1, 30000⟩, ⟨21, 41, 2, 1, 1000⟩]) ∧ (64 ≤ row.number → row.low = 0 ∧ row.high = 255) := by
  decide

/-- Every field lies in the range of its row after R193 too. -/
theorem finalField_bounds (image : List Byte) {row : FieldRow} (listed : row ∈ fieldRows) :
    row.low ≤ finalField image row.number ∧ finalField image row.number ≤ row.high := by
  have range (n offset size low high : Nat) (at_ : (⟨n, offset, size, low, high⟩ : FieldRow) ∈ fieldRows) :
      low ≤ rangedField image n ∧ rangedField image n ≤ high := rangedField_bounds image at_
  by_cases late : 64 ≤ row.number
  · obtain ⟨low, high⟩ := (crossed_rows row listed).2 late
    rw [finalField_class image late, low, high]
    rcases crossClass_or (row.number - 64) (rangedField image row.number) with is | is <;> omega
  · by_cases crosses : row.number ∈ crossed
    · have delay := range 20 39 2 1 30000 (by decide)
      have margin := range 21 41 2 1 1000 (by decide)
      have small (own address : Nat) (short : address ≤ 30) : 0 ≤ crossAddress own address ∧ crossAddress own address ≤ 30 := by
        unfold crossAddress
        split <;> omega
      have rows := (crossed_rows row listed).1 crosses
      simp only [List.mem_cons, List.not_mem_nil, or_false] at rows
      rcases rows with rfl | rfl | rfl | rfl | rfl
      · exact small _ _ (range 15 32 1 0 30 (by decide)).2
      · exact small _ _ (range 16 33 1 0 30 (by decide)).2
      · exact small _ _ (range 17 34 1 0 30 (by decide)).2
      · exact crossRejectDelay_bounds delay.1 delay.2
      · have bounds := crossDecideMargin_bounds delay.1 margin.1 margin.2
        exact ⟨bounds.1, bounds.2.1⟩
    · rw [finalField_plain image crosses (by omega)]
      exact rangedField_bounds image listed

/-! ## The clamp record (R192, R193) -/

/-- A field is entered where its value in use differs from the value written, but for the four fixed sources (R192, R193). -/
theorem isClamped_iff (image : List Byte) {row : FieldRow} (listed : row ∈ fieldRows) : row.isClamped image = true ↔
    ¬(64 ≤ row.number ∧ row.number - 64 ∈ fixedClassOne) ∧ finalField image row.number ≠ row.written image := by
  by_cases fixed : 64 ≤ row.number ∧ row.number - 64 ∈ fixedClassOne
  · simp [FieldRow.isClamped, fixed]
  · have entered : row.isClamped image = true ↔ row.ranged image ≠ row.written image ∨
        finalField image row.number ≠ row.ranged image := by
      rw [FieldRow.isClamped, if_neg (by simpa using fixed)]
      simp
    obtain ⟨above, below⟩ := finalField_bounds image listed
    rw [entered]
    by_cases same : row.ranged image = row.written image
    · simp [same, fixed]
    · have outside : finalField image row.number ≠ row.written image := fun is =>
        same (clampNat_inside (is ▸ above) (is ▸ below))
      simp [same, fixed, outside]

/-- The clamp record holds the numbers of the rows entered. -/
theorem mem_clampRecordOf (image : List Byte) (n : Nat) : n ∈ clampRecordOf image ↔ ∃ row ∈ fieldRows, row.number = n ∧
    ¬(64 ≤ n ∧ n - 64 ∈ fixedClassOne) ∧ finalField image n ≠ row.written image := by
  simp only [clampRecordOf, List.mem_map, List.mem_filter]
  constructor
  · rintro ⟨row, ⟨listed, clamped⟩, rfl⟩
    exact ⟨row, listed, rfl, (isClamped_iff image listed).mp clamped⟩
  · rintro ⟨row, listed, rfl, clamped⟩
    exact ⟨row, ⟨listed, (isClamped_iff image listed).mpr clamped⟩, rfl⟩

/-- The clamp record stands in ascending order, each field once. -/
theorem clampRecordOf_ascending (image : List Byte) : (clampRecordOf image).Pairwise (· < ·) := by
  rw [clampRecordOf, List.pairwise_map]
  exact fieldRows_ascending.filter _

/-! ## The values written (R204) -/

/-- A field of one byte is at most 255. -/
theorem numberOf_one_le (offset : Nat) (image : List Byte) : numberOf (part offset 1 image) ≤ 255 := by
  rw [part]
  match image.drop offset with
  | [] => simp [numberOf]
  | b :: rest =>
    have := b.isLt
    simp only [List.take_succ_cons, List.take_zero, numberOf, List.foldl_cons, List.foldl_nil]
    omega

/-- The station address is the first field, used as written (R189, R204). -/
theorem finalField_address {image : List Byte} (station : 1 ≤ imageAddress image) : finalField image 1 = imageAddress image := by
  have inside : 5 < image.length := by
    by_contra short
    rw [imageAddress, byteAt, List.getD_eq_default _ _ (by omega)] at station
    exact absurd station (by decide)
  have row : rangedField image 1 = (⟨1, 5, 1, 0, 255⟩ : FieldRow).ranged image :=
    rangedField_row image (row := ⟨1, 5, 1, 0, 255⟩) (by decide)
  have written : numberOf (part 5 1 image) = imageAddress image := numberOf_part_one image 5 inside
  have short : imageAddress image ≤ 255 := written ▸ numberOf_one_le 5 image
  rw [finalField_plain image (by decide) (by decide), row, FieldRow.ranged, FieldRow.written, written]
  exact clampNat_inside (Nat.zero_le _) short

/-- The byte at a place of an image. -/
def imageByte (image : List Byte) (place : Nat) : Nat := (image.getD place 0).toNat

/-- The two bytes at a place, high byte first. -/
def imageWord (image : List Byte) (place : Nat) : Nat := 256 * imageByte image place + imageByte image (place + 1)

/-- The four bytes at a place, high byte first. -/
def imageLong (image : List Byte) (place : Nat) : Nat := 65536 * imageWord image place + imageWord image (place + 2)

/-- A value brought into a range, from below first (R192). -/
def within (low high v : Nat) : Nat := if v < low then low else if high < v then high else v

/-- The field that a row names, with its figure in the bytes of a whole image (R204). -/
def FieldRow.figure (image : List Byte) (row : FieldRow) : Nat :=
  if row.size = 1 then imageByte image row.offset else if row.size = 2 then imageWord image row.offset
  else imageLong image row.offset

/-- Every row lies in the image and has 1, 2 or 4 bytes (R204). -/
theorem fieldRow_place : ∀ row ∈ fieldRows, row.offset + row.size ≤ 134 ∧ (row.size = 1 ∨ row.size = 2 ∨ row.size = 4) := by
  decide

/-- A row's value as written is its figure, high byte first (R204). -/
theorem written_eq_figure {image : List Byte} (whole : image.length = 134) : ∀ row ∈ fieldRows,
    row.written image = row.figure image := by
  intro row listed
  obtain ⟨inside, one | two | four⟩ := fieldRow_place row listed
  · rw [FieldRow.written, FieldRow.figure, one, numberOf_part_one _ _ (by omega)]
    rfl
  · rw [FieldRow.written, FieldRow.figure, two, numberOf_part_two _ _ (by omega)]
    rfl
  · rw [FieldRow.written, FieldRow.figure, four, numberOf_part_four _ _ (by omega), numberOf_part_two _ _ (by omega),
      numberOf_part_two _ _ (by omega)]
    rfl

/-- A field after R192, by its figure in a whole image. -/
theorem ranged_eq_figure {image : List Byte} (whole : image.length = 134) {row : FieldRow} (listed : row ∈ fieldRows) :
    rangedField image row.number = within row.low row.high (row.figure image) := by
  rw [rangedField_row image listed, FieldRow.ranged, written_eq_figure whole row listed, clampNat_eq _ _ _ (fieldRow_range row listed)]
  rfl

/-- The rows of the fields that neither clamp can change. -/
def unclampedRows : List FieldRow :=
  [⟨1, 5, 1, 0, 255⟩, ⟨4, 8, 4, 0, 4294967295⟩, ⟨5, 12, 4, 0, 4294967295⟩, ⟨32, 60, 1, 0, 255⟩, ⟨52, 102, 2, 0, 65535⟩]

/-- A byte of an image is at most 255. -/
theorem imageByte_le (image : List Byte) (place : Nat) : imageByte image place ≤ 255 := by
  have := (image.getD place 0).isLt
  unfold imageByte
  omega

/-- A field whose range is that of its size is used as written (R192). -/
theorem unclamped_eq_figure {image : List Byte} (whole : image.length = 134) : ∀ row ∈ unclampedRows,
    finalField image row.number = row.figure image := by
  have plain : ∀ row ∈ unclampedRows, row ∈ fieldRows ∧ row.number ∉ crossed ∧ row.number < 64 ∧ row.low = 0 := by
    decide
  intro row listed
  obtain ⟨entered, uncrossed, early, low⟩ := plain row listed
  have short : row.figure image ≤ row.high := by
    have byte := imageByte_le image
    simp only [unclampedRows, List.mem_cons, List.not_mem_nil, or_false] at listed
    rcases listed with rfl | rfl | rfl | rfl | rfl <;>
      simp only [FieldRow.figure, imageLong, imageWord, if_true, Nat.reduceEqDiff, if_false, OfNat.ofNat_ne_one, Nat.reduceAdd]
    · exact byte 5
    · have := byte 8; have := byte 9; have := byte 10; have := byte 11
      omega
    · have := byte 12; have := byte 13; have := byte 14; have := byte 15
      omega
    · exact byte 60
    · have := byte 102; have := byte 103
      omega
  rw [finalField_plain image uncrossed early, ranged_eq_figure whole entered, low, within]
  rw [if_neg (by omega), if_neg (by omega)]

/-! ## The record of a whole image (R204) -/

/-- A field of one byte in the record. -/
theorem finalField_byte {image : List Byte} (whole : image.length = 134) {n offset low high : Nat}
    (listed : (⟨n, offset, 1, low, high⟩ : FieldRow) ∈ fieldRows) (uncrossed : n ∉ crossed) (early : n < 64) :
    finalField image n = within low high (imageByte image offset) := by
  rw [finalField_plain image uncrossed early]
  exact ranged_eq_figure whole listed

/-- A field of two bytes in the record. -/
theorem finalField_word {image : List Byte} (whole : image.length = 134) {n offset low high : Nat}
    (listed : (⟨n, offset, 2, low, high⟩ : FieldRow) ∈ fieldRows) (uncrossed : n ∉ crossed) (early : n < 64) :
    finalField image n = within low high (imageWord image offset) := by
  rw [finalField_plain image uncrossed early]
  exact ranged_eq_figure whole listed

/-- A field of four bytes in the record. -/
theorem finalField_long {image : List Byte} (whole : image.length = 134) {n offset low high : Nat}
    (listed : (⟨n, offset, 4, low, high⟩ : FieldRow) ∈ fieldRows) (uncrossed : n ∉ crossed) (early : n < 64) :
    finalField image n = within low high (imageLong image offset) := by
  rw [finalField_plain image uncrossed early]
  exact ranged_eq_figure whole listed

/-- A flag of the image is set by every value but 0 (R204). -/
theorem within_flag (v : Nat) : (within 0 1 v != 0) = decide (v ≠ 0) := by
  rw [Bool.eq_iff_iff]
  simp only [bne_iff_ne, decide_eq_true_eq, within, Nat.not_lt_zero, if_false]
  split <;> omega

/-- A partner's address after the cross clamp, with the station's own taken as 0 (R193). -/
def partnerOf (image : List Byte) (place : Nat) : Nat :=
  if within 0 30 (imageByte image place) = imageByte image 5 then 0 else within 0 30 (imageByte image place)

/-- The partners in the record (R193). -/
theorem finalField_partner {image : List Byte} (whole : image.length = 134) : finalField image 15 = partnerOf image 32 ∧
    finalField image 16 = partnerOf image 33 ∧ finalField image 17 = partnerOf image 34 := by
  have own : rangedField image 1 = imageByte image 5 := unclamped_eq_figure whole ⟨1, 5, 1, 0, 255⟩ (by decide)
  have partner (n place : Nat) (listed : (⟨n, place, 1, 0, 30⟩ : FieldRow) ∈ fieldRows) :
      crossAddress (rangedField image 1) (rangedField image n) = partnerOf image place := by
    have value : rangedField image n = within 0 30 (imageByte image place) := ranged_eq_figure whole listed
    rw [value, own]
    rfl
  exact ⟨partner 15 32 (by decide), partner 16 33 (by decide), partner 17 34 (by decide)⟩

/-- The reject delay and the decide margin in the record (R75, R193). -/
theorem finalField_delays {image : List Byte} (whole : image.length = 134) :
    let delay := within 1 30000 (imageWord image 39)
    let margin := within 1 1000 (imageWord image 41)
    finalField image 20 = (if delay = 1 then 2 else delay) ∧
    finalField image 21 = (if delay = 1 then 1 else if delay - 1 < margin then delay - 1 else margin) := by
  intro delay margin
  have delayed : rangedField image 20 = delay := ranged_eq_figure whole (row := ⟨20, 39, 2, 1, 30000⟩) (by decide)
  have limited : rangedField image 21 = margin := ranged_eq_figure whole (row := ⟨21, 41, 2, 1, 1000⟩) (by decide)
  constructor
  · exact congrArg crossRejectDelay delayed
  · refine (congrArg₂ crossDecideMargin delayed limited).trans ?_
    unfold crossDecideMargin
    split
    · rfl
    · split <;> omega

/-- The class of a source as an image gives it (R177). -/
def eventOf (image : List Byte) (source : Nat) : Nat :=
  if source ∈ [0, 1, 14, 22] ∨ imageByte image (108 + source) = 1 then 1 else 2

/-- The classes in the record (R177, R193). -/
theorem finalField_event {image : List Byte} (whole : image.length = 134) {source : Nat} (is : source < 24) :
    finalField image (64 + source) = eventOf image source := by
  have listed : (⟨64 + source, 108 + source, 1, 0, 255⟩ : FieldRow) ∈ fieldRows :=
    List.mem_append_right _ (List.mem_map.mpr ⟨source, List.mem_range.mpr is, rfl⟩)
  have value : rangedField image (64 + source) = imageByte image (108 + source) := by
    have short := imageByte_le image (108 + source)
    refine (ranged_eq_figure whole listed).trans ?_
    refine (if_neg (Nat.not_lt_zero _)).trans (if_neg ?_)
    exact Nat.not_lt.mpr short
  rw [finalField_class image (by omega), value, Nat.add_sub_cancel_left, crossClass_eq]
  rfl

/-- The items of a camera as an image gives them (R118, R204). -/
def cameraOf (image : List Byte) (place : Nat) : CameraConfig :=
  { enabled := decide (imageByte image place ≠ 0), baud := within 0 4 (imageByte image (place + 1))
    triggerDelay := within 0 10000000 (imageLong image (place + 2))
    triggerWidth := within 10 1000 (imageWord image (place + 6)), strobeDelay := within 0 1000 (imageWord image (place + 8))
    strobeDuration := within 1 2000 (imageWord image (place + 10))
    strobeOff := within 0 100000 (imageLong image (place + 12)) }

/-- A camera of the record. -/
theorem cameraItems_eq {image : List Byte} (whole : image.length = 134) {first place : Nat}
    (listed : ∀ row ∈ cameraRows first place, row ∈ fieldRows) (uncrossed : ∀ n ∈ crossed, n < first) (early : first < 57) :
    cameraItems (finalField image) first = cameraOf image place := by
  simp only [cameraRows, List.forall_mem_cons] at listed
  obtain ⟨enabled, baud, triggerDelay, triggerWidth, strobeDelay, strobeDuration, strobeOff, -⟩ := listed
  have plain (i : Nat) : first + i ∉ crossed := fun crosses => absurd (uncrossed _ crosses) (by omega)
  rw [cameraItems, cameraOf, finalField_byte whole enabled (plain 0) (by omega), within_flag,
    finalField_byte whole baud (plain 1) (by omega), finalField_long whole triggerDelay (plain 2) (by omega),
    finalField_word whole triggerWidth (plain 3) (by omega), finalField_word whole strobeDelay (plain 4) (by omega),
    finalField_word whole strobeDuration (plain 5) (by omega), finalField_long whole strobeOff (plain 6) (by omega)]

/-- The hall items of the record (R24, R47, R204). -/
theorem hallItems_eq {image : List Byte} (whole : image.length = 134) : hallItems (finalField image) = {
    address := imageByte image 5, intervalMs := within 5 100 (imageByte image 6), lineDelay := within 0 15 (imageByte image 7)
    countedMask := BitVec.ofNat 32 (imageLong image 8), dependentMask := BitVec.ofNat 32 (imageLong image 12)
    absentLimit := within 2 15 (imageByte image 16), switchDebounce := within 0 1000 (imageWord image 17)
    doorDebounce := within 0 1000 (imageWord image 19), keyDebounce := within 0 1000 (imageWord image 21)
    discrepancyMs := within 20 2000 (imageWord image 23), restoreMs := within 0 5000 (imageWord image 25) } := by
  have address : finalField image 1 = imageByte image 5 := unclamped_eq_figure whole ⟨1, 5, 1, 0, 255⟩ (by decide)
  have counted : finalField image 4 = imageLong image 8 := unclamped_eq_figure whole ⟨4, 8, 4, 0, 4294967295⟩ (by decide)
  have dependent : finalField image 5 = imageLong image 12 :=
    unclamped_eq_figure whole ⟨5, 12, 4, 0, 4294967295⟩ (by decide)
  rw [hallItems, address, counted, dependent,
    finalField_byte whole (n := 2) (offset := 6) (low := 5) (high := 100) (by decide) (by decide) (by decide),
    finalField_byte whole (n := 3) (offset := 7) (low := 0) (high := 15) (by decide) (by decide) (by decide),
    finalField_byte whole (n := 6) (offset := 16) (low := 2) (high := 15) (by decide) (by decide) (by decide),
    finalField_word whole (n := 7) (offset := 17) (low := 0) (high := 1000) (by decide) (by decide) (by decide),
    finalField_word whole (n := 8) (offset := 19) (low := 0) (high := 1000) (by decide) (by decide) (by decide),
    finalField_word whole (n := 9) (offset := 21) (low := 0) (high := 1000) (by decide) (by decide) (by decide),
    finalField_word whole (n := 10) (offset := 23) (low := 20) (high := 2000) (by decide) (by decide) (by decide),
    finalField_word whole (n := 11) (offset := 25) (low := 0) (high := 5000) (by decide) (by decide) (by decide)]

/-- The tracking items of the record (R75, R134, R204). -/
theorem trackItems_eq {image : List Byte} (whole : image.length = 134) :
    let delay := within 1 30000 (imageWord image 39)
    let margin := within 1 1000 (imageWord image 41)
    trackItems (finalField image) = {
      heads := within 0 8 (imageByte image 27), infeedDebounce := within 0 1000 (imageWord image 28)
      pitchDebounce := within 0 1000 (imageWord image 30)
      upstream := partnerOf image 32, downstream := partnerOf image 33, report := partnerOf image 34
      transferMs := within 0 60000 (imageWord image 35), windowMs := within 1 1000 (imageWord image 37)
      rejectDelayMs := if delay = 1 then 2 else delay
      decideMarginMs := if delay = 1 then 1 else if delay - 1 < margin then delay - 1 else margin
      rejectUnknown := decide (imageByte image 43 ≠ 0), reportAll := decide (imageByte image 44 ≠ 0)
      gateFitted := decide (imageByte image 45 ≠ 0), gatePulseMs := within 1 1000 (imageWord image 46)
      confirmWindowMs := within 0 1000 (imageWord image 48), confirmDebounce := within 0 1000 (imageWord image 50) } := by
  intro delay margin
  obtain ⟨upstream, downstream, report⟩ := finalField_partner whole
  obtain ⟨delayed, limited⟩ := finalField_delays whole
  rw [trackItems, upstream, downstream, report, delayed, limited,
    finalField_byte whole (n := 12) (offset := 27) (low := 0) (high := 8) (by decide) (by decide) (by decide),
    finalField_word whole (n := 13) (offset := 28) (low := 0) (high := 1000) (by decide) (by decide) (by decide),
    finalField_word whole (n := 14) (offset := 30) (low := 0) (high := 1000) (by decide) (by decide) (by decide),
    finalField_word whole (n := 18) (offset := 35) (low := 0) (high := 60000) (by decide) (by decide) (by decide),
    finalField_word whole (n := 19) (offset := 37) (low := 1) (high := 1000) (by decide) (by decide) (by decide),
    finalField_byte whole (n := 22) (offset := 43) (low := 0) (high := 1) (by decide) (by decide) (by decide), within_flag,
    finalField_byte whole (n := 23) (offset := 44) (low := 0) (high := 1) (by decide) (by decide) (by decide), within_flag,
    finalField_byte whole (n := 24) (offset := 45) (low := 0) (high := 1) (by decide) (by decide) (by decide), within_flag,
    finalField_word whole (n := 25) (offset := 46) (low := 1) (high := 1000) (by decide) (by decide) (by decide),
    finalField_word whole (n := 26) (offset := 48) (low := 0) (high := 1000) (by decide) (by decide) (by decide),
    finalField_word whole (n := 27) (offset := 50) (low := 0) (high := 1000) (by decide) (by decide) (by decide)]

/-- The dose parameters of the record (R81, R93, R204). -/
theorem doseItems_eq {image : List Byte} (whole : image.length = 134) : doseItems (finalField image) = {
    pulses := within 1 65535 (imageWord image 52), highTime := within 2 65535 (imageWord image 54)
    lowTime := within 2 65535 (imageWord image 56), meterFactor := within 16 4095 (imageWord image 58)
    tolerance := imageByte image 60, fillDelayMs := within 0 10000 (imageWord image 61)
    timeoutMs := within 10 30000 (imageWord image 63), settleMs := within 0 2000 (imageWord image 65)
    resumeMs := within 0 10000 (imageWord image 67)
    expected := within 1 65535 (imageWord image 52) * within 16 4095 (imageWord image 58) / 256 } := by
  have tolerance : finalField image 32 = imageByte image 60 := unclamped_eq_figure whole ⟨32, 60, 1, 0, 255⟩ (by decide)
  rw [doseItems, tolerance,
    finalField_word whole (n := 28) (offset := 52) (low := 1) (high := 65535) (by decide) (by decide) (by decide),
    finalField_word whole (n := 29) (offset := 54) (low := 2) (high := 65535) (by decide) (by decide) (by decide),
    finalField_word whole (n := 30) (offset := 56) (low := 2) (high := 65535) (by decide) (by decide) (by decide),
    finalField_word whole (n := 31) (offset := 58) (low := 16) (high := 4095) (by decide) (by decide) (by decide),
    finalField_word whole (n := 33) (offset := 61) (low := 0) (high := 10000) (by decide) (by decide) (by decide),
    finalField_word whole (n := 34) (offset := 63) (low := 10) (high := 30000) (by decide) (by decide) (by decide),
    finalField_word whole (n := 35) (offset := 65) (low := 0) (high := 2000) (by decide) (by decide) (by decide),
    finalField_word whole (n := 36) (offset := 67) (low := 0) (high := 10000) (by decide) (by decide) (by decide)]

/-! ## The clamp record of a whole image (R192, R193) -/

/-- A clamp can change the field, and it is entered then: not a field of the range of its size, nor one of the four fixed
sources (R192, R193). -/
def FieldRow.isChangeable (row : FieldRow) : Bool :=
  decide (row.number ∉ unclampedRows.map FieldRow.number) && !(decide (64 ≤ row.number) && fixedClassOne.contains (row.number - 64))

/-- The value in use of a field; a code or a flag by its range (R192). -/
def FieldRow.used (image : List Byte) (row : FieldRow) : Nat :=
  if row.number ∈ [22, 23, 24, 37, 44, 53, 54] then within row.low row.high (row.figure image) else finalField image row.number

/-- What is used of a field is its value after both clamps. -/
theorem FieldRow.used_eq {image : List Byte} (whole : image.length = 134) {row : FieldRow} (listed : row ∈ fieldRows) :
    row.used image = finalField image row.number := by
  have plain : ∀ n ∈ [22, 23, 24, 37, 44, 53, 54], n ∉ crossed ∧ n < 64 := by decide
  unfold FieldRow.used
  split
  next code =>
    obtain ⟨uncrossed, early⟩ := plain _ code
    rw [finalField_plain image uncrossed early, ranged_eq_figure whole listed]
  · rfl

/-- A field with its number, its value written and its value in use. -/
def FieldRow.change (image : List Byte) (row : FieldRow) : Nat × Nat × Nat := (row.number, row.figure image, row.used image)

/-- The clamp record is the changeable fields whose value in use differs from the value written. -/
theorem clampRecordOf_eq {image : List Byte} (whole : image.length = 134) : clampRecordOf image =
    ((((fieldRows.filter FieldRow.isChangeable).map (FieldRow.change image)).filter
      fun field => decide (field.2.1 ≠ field.2.2)).map Prod.fst) := by
  have entered : ∀ row ∈ fieldRows, row.isClamped image =
      (row.isChangeable && decide (row.figure image ≠ row.used image)) := by
    intro row listed
    have changes := isClamped_iff image listed
    rw [written_eq_figure whole row listed, ← FieldRow.used_eq whole listed, ne_comm] at changes
    rw [Bool.eq_iff_iff, changes]
    by_cases free : row.number ∈ unclampedRows.map FieldRow.number
    · obtain ⟨other, among, same⟩ := List.mem_map.mp free
      have rows : ∀ row ∈ unclampedRows, row ∈ fieldRows := by decide
      have is : other = row := fieldRow_unique (rows other among) listed same
      simp [FieldRow.isChangeable, free, FieldRow.used_eq whole listed, unclamped_eq_figure whole row (is ▸ among)]
    · simp only [FieldRow.isChangeable, free, not_false_eq_true, decide_true, Bool.true_and, Bool.and_eq_true, Bool.not_eq_true',
        decide_eq_true_eq, Bool.and_eq_false_iff, decide_eq_false_iff_not, List.contains_eq_mem, not_and_or]
  rw [clampRecordOf, List.filter_congr entered, List.filter_map, List.map_map, List.filter_filter]
  congr 2
  funext row
  exact Bool.and_comm _ _

/-- The changeable fields before the classes. -/
theorem changeable_rows : fieldRows.filter FieldRow.isChangeable =
    ((generalRows ++ doseRows ++ cameraRows 37 69 ++ cameraRows 44 85 ++ closingRows).filter FieldRow.isChangeable) ++
    ((List.range 24).filter fun source => decide (source ∉ [0, 1, 14, 22])).map fun source =>
      (⟨64 + source, 108 + source, 1, 0, 255⟩ : FieldRow) := by
  decide

/-- Settles O8: every item of the record is the field of its row after R192 and R193, so it keeps its range; for a whole image
its value is the figure of its bytes brought into that range, and the clamp record holds the rows that this changed. -/
theorem configurationStaysInRange : Obligations.ConfigurationStaysInRange := by
  unfold Obligations.ConfigurationStaysInRange
  intro image station short r
  have address : finalField image 1 = imageAddress image := finalField_address station
  have bounds (n offset size low high : Nat) (listed : (⟨n, offset, size, low, high⟩ : FieldRow) ∈ fieldRows) :
      low ≤ finalField image n ∧ finalField image n ≤ high := finalField_bounds image listed
  have partner (n place : Nat) (listed : (⟨n, place, 1, 0, 30⟩ : FieldRow) ∈ fieldRows)
      (is : finalField image n = crossAddress (rangedField image 1) (rangedField image n)) :
      finalField image n ≤ 30 ∧ finalField image n ≠ finalField image 1 := by
    have own : rangedField image 1 = finalField image 1 := (finalField_plain image (by decide) (by decide)).symm
    have range := rangedField_bounds image listed
    rw [is, ← own]
    exact crossAddress_bounds (by omega) range.2
  have delay := rangedField_bounds image (row := ⟨20, 39, 2, 1, 30000⟩) (by decide)
  have margin := rangedField_bounds image (row := ⟨21, 41, 2, 1, 1000⟩) (by decide)
  refine ⟨⟨address, (bounds 2 6 1 5 100 (by decide)).1, (bounds 2 6 1 5 100 (by decide)).2, (bounds 3 7 1 0 15 (by decide)).2,
      (bounds 6 16 1 2 15 (by decide)).1, (bounds 6 16 1 2 15 (by decide)).2, (bounds 7 17 2 0 1000 (by decide)).2,
      (bounds 8 19 2 0 1000 (by decide)).2, (bounds 9 21 2 0 1000 (by decide)).2, (bounds 10 23 2 20 2000 (by decide)).1,
      (bounds 10 23 2 20 2000 (by decide)).2, (bounds 11 25 2 0 5000 (by decide)).2⟩,
    ⟨(bounds 12 27 1 0 8 (by decide)).2, (bounds 13 28 2 0 1000 (by decide)).2, (bounds 14 30 2 0 1000 (by decide)).2,
      (bounds 18 35 2 0 60000 (by decide)).2, (bounds 19 37 2 1 1000 (by decide)).1, (bounds 19 37 2 1 1000 (by decide)).2,
      (bounds 20 39 2 1 30000 (by decide)).2, (bounds 21 41 2 1 1000 (by decide)).1, (bounds 21 41 2 1 1000 (by decide)).2,
      (crossDecideMargin_bounds delay.1 margin.1 margin.2).2.2, (bounds 25 46 2 1 1000 (by decide)).1,
      (bounds 25 46 2 1 1000 (by decide)).2, (bounds 26 48 2 0 1000 (by decide)).2, (bounds 27 50 2 0 1000 (by decide)).2⟩,
    ?partners,
    ⟨(bounds 28 52 2 1 65535 (by decide)).1, (bounds 28 52 2 1 65535 (by decide)).2, (bounds 29 54 2 2 65535 (by decide)).1,
      (bounds 29 54 2 2 65535 (by decide)).2, (bounds 30 56 2 2 65535 (by decide)).1, (bounds 30 56 2 2 65535 (by decide)).2,
      (bounds 31 58 2 16 4095 (by decide)).1, (bounds 31 58 2 16 4095 (by decide)).2, (bounds 32 60 1 0 255 (by decide)).2,
      (bounds 33 61 2 0 10000 (by decide)).2, (bounds 34 63 2 10 30000 (by decide)).1, (bounds 34 63 2 10 30000 (by decide)).2,
      (bounds 35 65 2 0 2000 (by decide)).2, (bounds 36 67 2 0 10000 (by decide)).2, rfl⟩,
    ?cameras, (bounds 51 101 1 1 16 (by decide)).1, (bounds 51 101 1 1 16 (by decide)).2, (bounds 55 106 2 60 7200 (by decide)).1,
    (bounds 55 106 2 60 7200 (by decide)).2, ?mode, by simp [r, recordOf], ?classes, ?fixed, clampRecordOf_ascending image,
    mem_clampRecordOf image, ?whole⟩
  case partners =>
    simp only [List.forall_mem_cons]
    exact ⟨partner 15 32 (by decide) rfl, partner 16 33 (by decide) rfl, partner 17 34 (by decide) rfl, by simp⟩
  case cameras =>
    simp only [List.forall_mem_cons]
    exact ⟨⟨(bounds 38 70 1 0 4 (by decide)).2, (bounds 39 71 4 0 10000000 (by decide)).2, (bounds 40 75 2 10 1000 (by decide)).1,
        (bounds 40 75 2 10 1000 (by decide)).2, (bounds 41 77 2 0 1000 (by decide)).2, (bounds 42 79 2 1 2000 (by decide)).1,
        (bounds 42 79 2 1 2000 (by decide)).2, (bounds 43 81 4 0 100000 (by decide)).2⟩,
      ⟨(bounds 45 86 1 0 4 (by decide)).2, (bounds 46 87 4 0 10000000 (by decide)).2, (bounds 47 91 2 10 1000 (by decide)).1,
        (bounds 47 91 2 10 1000 (by decide)).2, (bounds 48 93 2 0 1000 (by decide)).2, (bounds 49 95 2 1 2000 (by decide)).1,
        (bounds 49 95 2 1 2000 (by decide)).2, (bounds 50 97 4 0 100000 (by decide)).2⟩, by simp⟩
  case mode =>
    show accessModeOf (finalField image 53) ≠ .held
    unfold accessModeOf
    split
    · decide
    · split <;> decide
  case classes =>
    intro c listed
    obtain ⟨source, -, rfl⟩ := List.mem_map.mp listed
    simp only [finalField_class image (Nat.le_add_right 64 source)]
    exact crossClass_or _ _
  case fixed =>
    simp only [fixedClassOne, List.forall_mem_cons]
    exact ⟨rfl, rfl, rfl, rfl, by simp⟩
  case whole =>
    intro whole byte word long within' yes partner' delay' margin' event camera changes
    have cameraA : r.cameraA = cameraOf image 69 := cameraItems_eq whole (by decide) (by decide) (by decide)
    have cameraB : r.cameraB = cameraOf image 85 := cameraItems_eq whole (by decide) (by decide) (by decide)
    have mode : finalField image 53 = within 0 2 (imageByte image 104) := finalField_byte whole (by decide) (by decide) (by decide)
    have locks : finalField image 54 = within 0 1 (imageByte image 105) := finalField_byte whole (by decide) (by decide) (by decide)
    refine ⟨hallItems_eq whole, trackItems_eq whole, doseItems_eq whole, cameraA, cameraB,
      finalField_byte whole (n := 51) (offset := 101) (low := 1) (high := 16) (by decide) (by decide) (by decide), ?_, ?_, ?_,
      finalField_word whole (n := 55) (offset := 106) (low := 60) (high := 7200) (by decide) (by decide) (by decide), ?_, ?_⟩
    · exact congrArg (BitVec.ofNat 16) (unclamped_eq_figure whole ⟨52, 102, 2, 0, 65535⟩ (by decide))
    · show accessModeOf (finalField image 53) = _
      rw [mode]
      show accessModeOf (within 0 2 (imageByte image 104)) = match imageByte image 104 with
        | 0 => .free
        | 1 => .keyed
        | _ => .fixed
      match imageByte image 104 with
      | 0 => rfl
      | 1 => rfl
      | n + 2 =>
        have limited : within 0 2 (n + 2) = 2 := by
          unfold within
          split
          · omega
          · split <;> omega
        rw [limited]
        rfl
    · show (finalField image 54 != 0) = _
      rw [locks]
      exact within_flag _
    · exact List.map_congr_left fun source listed => finalField_event whole (List.mem_range.mp listed)
    · refine (clampRecordOf_eq whole).trans ?_
      rw [changeable_rows, List.map_append, List.map_map]
      refine congrArg (fun list : List (Nat × Nat × Nat) =>
        (list.filter fun field => decide (field.2.1 ≠ field.2.2)).map Prod.fst) (congrArg₂ (· ++ ·) rfl ?_)
      refine List.map_congr_left fun source listed => ?_
      have is : source < 24 := List.mem_range.mp (List.mem_filter.mp listed).1
      have value : FieldRow.used image ⟨64 + source, 108 + source, 1, 0, 255⟩ = eventOf image source :=
        (FieldRow.used_eq whole (List.mem_append_right _ (List.mem_map.mpr ⟨source, List.mem_range.mpr is, rfl⟩))).trans
          (finalField_event whole is)
      exact congrArg (fun event => (64 + source, imageByte image (108 + source), event)) value

end Sys2Proof.Machine

/-! PROOFS of what every command keeps, first part: the Line Port, the latches and the Counter Bank (R39, R40, R159 to R170, R174,
R179). -/

namespace Sys2Proof.Machine

/-- What every command keeps of the Line Port, the latches and the Counter Bank. -/
structure State.Reporting (s : State) : Prop where
  latches : s.latches.length = 24
  counters : s.counters.length = 20
  counts : ∀ n ∈ s.counters, n ≤ 65535
  gathered : ∀ l ∈ s.latches, l.content.count ≤ 255 ∧ l.sending.count ≤ 255
  queue : s.line.queue.length ≤ 16
  readBack : ∀ a, s.line.tx = some a → a.readBack.length ≤ (frameLevels a.bytes).length
  line : s.LineSound
  silent : s.running = false → s.line.tx = none ∧ s.line.cabSlot = .empty ∧ s.line.bcnSlot = none ∧ s.line.queue = []

/-! ## Latches (R174, R175) -/

/-- A latch stays sound as local time goes on. -/
theorem Latch.Sound.later {l : Latch} {now then_ : Nat} (sound : l.Sound now) (le : now ≤ then_) : l.Sound then_ :=
  ⟨sound.gathered, sound.content, sound.sending, sound.blocked, sound.idle, sound.ready.trans le, sound.attempts⟩

/-- Gathering counts at least one and at most 255 (R174). -/
theorem Gathered.add_count (g : Gathered) (stamp : Time) (detail : Byte) :
    1 ≤ (g.add stamp detail).count ∧ (g.add stamp detail).count ≤ 255 := by
  unfold Gathered.add saturate
  split <;> simp

/-- What has gathered something has a first time and a detail (R174). -/
theorem Gathered.add_filled {g : Gathered} (filled : 1 ≤ g.count ↔ g.first.isSome = true ∧ g.detail.isSome = true) (stamp : Time)
    (detail : Byte) : (g.add stamp detail).first.isSome = true ∧ (g.add stamp detail).detail.isSome = true := by
  unfold Gathered.add
  split
  · exact ⟨rfl, rfl⟩
  · exact ⟨(filled.mp (by omega)).1, rfl⟩

/-- An event leaves a sound latch sound (R175). -/
theorem Latch.Sound.occur {l : Latch} {now : Nat} (sound : l.Sound now) (stamp : Time) (detail : Byte) :
    (l.occur stamp now detail).Sound now := by
  have some_content (g : Gathered) (filled : 1 ≤ g.count ↔ g.first.isSome = true ∧ g.detail.isSome = true) :
      1 ≤ (g.add stamp detail).count ↔ (g.add stamp detail).first.isSome = true ∧ (g.add stamp detail).detail.isSome = true :=
    iff_of_true (g.add_count stamp detail).1 (Gathered.add_filled filled stamp detail)
  have counted (g : Gathered) : 1 ≤ (g.add stamp detail).count := (g.add_count stamp detail).1
  unfold Latch.occur
  split
  next blocked =>
    exact ⟨sound.gathered, sound.content, some_content _ sound.sending, sound.blocked, fun free => absurd (blocked.symm.trans free) (by simp),
      sound.ready, sound.attempts⟩
  next free =>
    split
    next pending =>
      exact ⟨iff_of_true pending (counted _), some_content _ sound.content, sound.sending, sound.blocked, sound.idle, sound.ready,
        sound.attempts⟩
    · exact ⟨iff_of_true rfl (counted _), some_content _ (by simp [Gathered.none]), sound.sending, fun _ => rfl, sound.idle,
        Nat.le_refl _, sound.attempts⟩

/-- An event does not block a latch. -/
theorem Latch.occur_keepsBlock (l : Latch) (stamp : Time) (now : Nat) (detail : Byte) : (l.occur stamp now detail).blocked = l.blocked := by
  unfold Latch.occur
  repeat' split
  all_goals rfl

/-- The counts of a latch stay at most 255 (R174). -/
theorem Latch.occur_gathered {l : Latch} (gathered : l.content.count ≤ 255 ∧ l.sending.count ≤ 255) (stamp : Time) (now : Nat)
    (detail : Byte) : (l.occur stamp now detail).content.count ≤ 255 ∧ (l.occur stamp now detail).sending.count ≤ 255 := by
  have short (g : Gathered) : (g.add stamp detail).count ≤ 255 := (g.add_count stamp detail).2
  unfold Latch.occur
  split
  · exact ⟨gathered.1, short _⟩
  · split
    · exact ⟨short _, gathered.2⟩
    · exact ⟨short _, gathered.2⟩

/-- A latch of the bank. -/
theorem State.latch_mem {s : State} (bank : s.latches.length = 24) {i : Nat} (inside : i < 24) : s.latch i ∈ s.latches := by
  rw [State.latch, List.getD_eq_getElem _ _ (by omega)]
  exact List.getElem_mem _

/-- A latch of equal banks. -/
theorem State.latch_congr {s t : State} (latches : t.latches = s.latches) (i : Nat) : t.latch i = s.latch i := by
  rw [State.latch, latches]; rfl

/-- The station of equal Loaders. -/
theorem State.running_congr {s t : State} (loader : t.loader = s.loader) : t.running = s.running := by
  rw [State.running, loader]; rfl

/-! ## What the Line Port keeps while its parts change -/

section
variable {s t : State}

/-- The Line Port stays sound while local time goes on and the latches change in what they gather alone. -/
theorem State.LineSound.congr (sound : s.LineSound) (line : t.line = s.line)
    (blocked : ∀ i, i < 24 → (t.latch i).blocked = (s.latch i).blocked) (each : ∀ l ∈ t.latches, l.Sound t.clock.localTime)
    (later : s.clock.localTime ≤ t.clock.localTime) : t.LineSound := by
  refine ⟨line ▸ sound.order, fun e listed => ?_, line ▸ sound.counts, line ▸ sound.cab, line ▸ sound.renew, line ▸ sound.beacon,
    fun i inside => ?_, line ▸ sound.marked, line ▸ sound.unmarked, each, line ▸ sound.receiver, line ▸ sound.startMark⟩
  · obtain ⟨cls, ready, attempts⟩ := sound.entries e (line ▸ listed)
    exact ⟨cls, ready.trans later, attempts⟩
  · rw [blocked i inside, line]
    exact sound.blocked i inside

/-- What is kept of the line, the latches and the counters is kept while latches gather and local time goes on. -/
theorem State.Reporting.withLatches (sound : s.Reporting) (line : t.line = s.line) (counters : t.counters = s.counters)
    (bank : t.latches.length = s.latches.length) (blocked : ∀ i, i < 24 → (t.latch i).blocked = (s.latch i).blocked)
    (each : ∀ l ∈ t.latches, l.Sound t.clock.localTime ∧ l.content.count ≤ 255 ∧ l.sending.count ≤ 255)
    (later : s.clock.localTime ≤ t.clock.localTime) (runs : t.running = s.running) : t.Reporting := by
  refine ⟨bank.trans sound.latches, counters ▸ sound.counters, counters ▸ sound.counts, fun l listed => (each l listed).2,
    line ▸ sound.queue, line ▸ sound.readBack, sound.line.congr line blocked (fun l listed => (each l listed).1) later, ?_⟩
  rw [runs, line]
  exact sound.silent

/-- What is kept of the line, the latches and the counters depends on these, on local time and on RUNNING alone. -/
theorem State.Reporting.congr (sound : s.Reporting) (line : t.line = s.line) (latches : t.latches = s.latches)
    (counters : t.counters = s.counters) (later : s.clock.localTime ≤ t.clock.localTime) (runs : t.running = s.running) :
    t.Reporting := by
  refine sound.withLatches line counters (by rw [latches]) (fun i _ => by rw [State.latch_congr latches])
    (fun l listed => ?_) later runs
  rw [latches] at listed
  exact ⟨(sound.line.latches l listed).later later, sound.gathered l listed⟩

/-- What is kept holds after the counters change within their top. -/
theorem State.Reporting.withCounters (sound : s.Reporting) (counters : List Nat) (table : counters.length = 20)
    (counts : ∀ n ∈ counters, n ≤ 65535) : ({ s with counters := counters } : State).Reporting :=
  ⟨sound.latches, table, counts, sound.gathered, sound.queue, sound.readBack,
    sound.line.congr rfl (fun _ _ => rfl) sound.line.latches (Nat.le_refl _), sound.silent⟩

/-- A counter counts (R179). -/
theorem State.Reporting.count (sound : s.Reporting) (c : Counter) : (s.count c).Reporting := by
  refine sound.withCounters _ (by simp [sound.counters]) fun n listed => ?_
  obtain ⟨i, inside, rfl⟩ := List.mem_iff_getElem.mp listed
  rw [List.getElem_modify]
  split
  · exact Nat.min_le_left _ _
  · exact sound.counts _ (List.getElem_mem _)

/-- An event blocks no latch and frees none (R175). -/
theorem State.occur_keepsBlock (bank : s.latches.length = 24) (e : EventSource) (detail : Byte) {i : Nat} (inside : i < 24) :
    ((s.occur e detail).latch i).blocked = (s.latch i).blocked := by
  rw [State.latch, State.latch, State.occur_latches, List.getD_eq_getElem _ _ (by simp; omega),
    List.getD_eq_getElem _ _ (by omega), List.getElem_modify]
  split
  · exact Latch.occur_keepsBlock _ _ _ _
  · rfl

/-- An event is latched (R175). -/
theorem State.Reporting.occur (sound : s.Reporting) (e : EventSource) (detail : Byte) : (s.occur e detail).Reporting := by
  refine sound.withLatches (by simp) (by simp) (by simp) (fun i inside => State.occur_keepsBlock sound.latches e detail inside)
    (fun l listed => ?_) (by simp) (State.running_congr (by simp))
  obtain ⟨i, inside, rfl⟩ := List.mem_iff_getElem.mp listed
  simp only [State.occur_latches, List.length_modify] at inside
  have old := List.getElem_mem inside
  simp only [State.occur_latches, State.occur_clock, List.getElem_modify]
  split
  · exact ⟨(sound.line.latches _ old).occur _ _, Latch.occur_gathered (sound.gathered _ old) _ _ _⟩
  · exact ⟨sound.line.latches _ old, sound.gathered _ old⟩

/-- A frame is dropped from a full queue (R169). -/
theorem State.Reporting.txDrop (sound : s.Reporting) (kind : FrameKind) : (s.txDrop kind).Reporting :=
  (sound.occur _ _).count _

/-- What is kept holds for another receiver, the frame in collection being sound. -/
theorem State.Reporting.withReceiver (sound : s.Reporting) (rx : Receiver)
    (frame : ∀ stamp frame, rx = .collecting stamp frame → frame.Sound s.line.idle) :
    ({ s with line := { s.line with rx := rx } } : State).Reporting :=
  ⟨sound.latches, sound.counters, sound.counts, sound.gathered, sound.queue, sound.readBack,
    ⟨sound.line.order, sound.line.entries, sound.line.counts, sound.line.cab, sound.line.renew, sound.line.beacon,
      sound.line.blocked, sound.line.marked, sound.line.unmarked, sound.line.latches, frame, sound.line.startMark⟩, sound.silent⟩

/-- The receiver watches again (R161). -/
theorem State.Reporting.releaseFrame (sound : s.Reporting) : s.releaseFrame.Reporting :=
  sound.withReceiver .watching fun _ _ is => Receiver.noConfusion is

/-! ## The General Queue (R164, R168, R169) -/

/-- A queue in the order of the send order, its entries ready and short of their eighth attempt (R164, R166, R168). -/
def QueueOrdered (queue : List QueueEntry) (now : Nat) : Prop :=
  (queue.Pairwise fun x y => x.cls < y.cls ∨ (x.cls = y.cls ∧ x.ready ≤ y.ready)) ∧
  ∀ e ∈ queue, (e.cls = 2 ∨ e.cls = 3) ∧ e.ready ≤ now ∧ e.attempts ≤ 7

/-- Part of an ordered queue is ordered. -/
theorem QueueOrdered.sublist {queue part : List QueueEntry} {now : Nat} (ordered : QueueOrdered queue now)
    (within : part.Sublist queue) : QueueOrdered part now :=
  ⟨ordered.1.sublist within, fun e listed => ordered.2 e (within.subset listed)⟩

/-- A new entry takes its place in the order (R168). -/
theorem QueueOrdered.insert {queue : List QueueEntry} {now : Nat} (ordered : QueueOrdered queue now) {e : QueueEntry}
    (cls : e.cls = 2 ∨ e.cls = 3) (ready : e.ready = now) (fresh : e.attempts = 0) : QueueOrdered (insertByClass e queue) now := by
  have byClass : queue.Pairwise fun x y => x.cls ≤ y.cls := ordered.1.imp fun {x y} le => by omega
  rw [insertByClass_eq_filter e queue byClass]
  constructor
  · refine List.pairwise_append.mpr ⟨ordered.1.filter _, List.pairwise_cons.mpr ⟨fun y listed => ?_, ordered.1.filter _⟩,
      fun x listed y later => ?_⟩
    · exact .inl (by simpa using (List.mem_filter.mp listed).2)
    · obtain ⟨old, low⟩ := List.mem_filter.mp listed
      have le : x.cls ≤ e.cls := by simpa using low
      have readyAt := (ordered.2 x old).2.1
      rcases List.mem_cons.mp later with rfl | behind
      · omega
      · have high : e.cls < y.cls := by simpa using (List.mem_filter.mp behind).2
        omega
  · intro x listed
    rcases List.mem_append.mp listed with before | here
    · exact ordered.2 x (List.mem_filter.mp before).1
    · rcases List.mem_cons.mp here with rfl | behind
      · exact ⟨cls, by omega, by omega⟩
      · exact ordered.2 x (List.mem_filter.mp behind).1

/-- A new entry marks no other one as sent. -/
theorem insertByClass_inAttempt {e : QueueEntry} (idle : e.inAttempt = false) (queue : List QueueEntry) :
    (insertByClass e queue).filter QueueEntry.inAttempt = queue.filter QueueEntry.inAttempt := by
  induction queue with
  | nil => simp [insertByClass, idle]
  | cons q rest ih =>
    unfold insertByClass
    split
    · simp only [List.filter_cons, ih]
    · simp [List.filter_cons, idle]

/-- A new entry makes the queue one longer. -/
theorem insertByClass_length (e : QueueEntry) (queue : List QueueEntry) : (insertByClass e queue).length = queue.length + 1 := by
  induction queue with
  | nil => rfl
  | cons q rest ih =>
    unfold insertByClass
    split <;> simp [ih]

/-- The displaced entry leaves the rest in order, and no entry in an attempt is displaced (R169). -/
theorem dropNewestClassThree_kept {queue kept : List QueueEntry} {kind : FrameKind}
    (drops : dropNewestClassThree queue = some (kept, kind)) :
    kept.Sublist queue ∧ kept.length + 1 = queue.length ∧
      kept.filter QueueEntry.inAttempt = queue.filter QueueEntry.inAttempt := by
  induction queue generalizing kept with
  | nil => exact absurd drops (by simp [dropNewestClassThree])
  | cons q rest ih =>
    rw [dropNewestClassThree] at drops
    cases later : dropNewestClassThree rest with
    | some found =>
      rw [later] at drops
      obtain ⟨rfl, rfl⟩ : q :: found.1 = kept ∧ found.2 = kind := by simpa using drops
      obtain ⟨within, length, marked⟩ := ih (kept := found.1) later
      exact ⟨within.cons_cons q, by simp [← length], by simp only [List.filter_cons, marked]⟩
    | none =>
      rw [later] at drops
      by_cases here : q.cls = 3 ∧ q.inAttempt = false
      · obtain ⟨rfl, rfl⟩ : rest = kept ∧ q.frame.kind = kind := by simpa [here] using drops
        exact ⟨List.sublist_cons_self q rest, rfl, by simp [here]⟩
      · rw [if_neg (by simpa using here)] at drops
        exact absurd drops (by simp)

/-- What is kept holds for another queue in order, with the same entries in an attempt. -/
theorem State.Reporting.withQueue (sound : s.Reporting) (runs : s.running = true) {queue : List QueueEntry}
    (short : queue.length ≤ 16) (ordered : QueueOrdered queue s.clock.localTime)
    (marked : queue.filter QueueEntry.inAttempt = s.line.queue.filter QueueEntry.inAttempt) :
    ({ s with line := { s.line with queue := queue } } : State).Reporting := by
  refine ⟨sound.latches, sound.counters, sound.counts, sound.gathered, short, sound.readBack,
    ⟨ordered.1, ordered.2, sound.line.counts, sound.line.cab, sound.line.renew, sound.line.beacon, sound.line.blocked,
      fun sends => (congrArg List.length marked).trans (sound.line.marked sends), fun silent e listed => ?_, sound.line.latches,
      sound.line.receiver, sound.line.startMark⟩, fun stopped => absurd (runs.symm.trans stopped) (by simp)⟩
  have none : s.line.queue.filter QueueEntry.inAttempt = [] :=
    List.filter_eq_nil_iff.mpr fun x held => by simp [sound.line.unmarked silent x held]
  simpa using List.filter_eq_nil_iff.mp (marked.trans none) e listed

/-- What is handed over in RUNNING finds its place, or is dropped (R168, R169). -/
theorem State.Reporting.handOver (sound : s.Reporting) (runs : s.running = true) (frame : OutFrame) {cls : Nat}
    (low : cls = 2 ∨ cls = 3) : (s.handOver frame cls).Reporting := by
  have ordered : QueueOrdered s.line.queue s.clock.localTime := ⟨sound.line.order, sound.line.entries⟩
  unfold State.handOver
  split
  next room =>
    have short : s.line.queue.length < 16 := of_decide_eq_true room
    exact sound.withQueue runs (by rw [insertByClass_length]; omega) (ordered.insert low rfl rfl) (insertByClass_inAttempt rfl _)
  · split
    · cases displaced : dropNewestClassThree s.line.queue with
      | none => exact sound.txDrop _
      | some found =>
        obtain ⟨within, length, marked⟩ := dropNewestClassThree_kept (kept := found.1) displaced
        have full := sound.queue
        exact (sound.withQueue runs (by rw [insertByClass_length]; omega) ((ordered.sublist within).insert low rfl rfl)
          ((insertByClass_inAttempt rfl _).trans marked)).txDrop _
    · exact sound.txDrop _

/-- A reply is handed over (R155). -/
theorem State.Reporting.reply (sound : s.Reporting) (runs : s.running = true) (dest : Byte) (reply : Reply) :
    (s.reply dest reply).Reporting :=
  sound.handOver runs _ (.inl rfl)

/-! ## The two slots (R8, R39) -/

/-- A change of the cabinet is announced (R39). -/
theorem State.Reporting.announce (sound : s.Reporting) : s.announce.Reporting := by
  unfold State.announce
  split
  next runs =>
    cases slot : s.line.cabSlot with
    | empty =>
      have idle : s.line.cabSlot ≠ .sending := by simp [slot]
      exact ⟨sound.latches, sound.counters, sound.counts, sound.gathered, sound.queue, sound.readBack,
        ⟨sound.line.order, sound.line.entries, sound.line.counts, iff_of_false (by simp) (mt sound.line.cab.mpr idle),
          fun renew => absurd (sound.line.renew renew) idle, sound.line.beacon, sound.line.blocked, sound.line.marked,
          sound.line.unmarked, sound.line.latches, sound.line.receiver, sound.line.startMark⟩,
        fun stopped => absurd (runs.symm.trans stopped) (by simp)⟩
    | pending => exact sound
    | sending =>
      exact ⟨sound.latches, sound.counters, sound.counts, sound.gathered, sound.queue, sound.readBack,
        ⟨sound.line.order, sound.line.entries, sound.line.counts, sound.line.cab, fun _ => slot, sound.line.beacon,
          sound.line.blocked, sound.line.marked, sound.line.unmarked, sound.line.latches, sound.line.receiver,
          sound.line.startMark⟩, fun stopped => absurd (runs.symm.trans stopped) (by simp)⟩
  · exact sound

/-- A beacon is placed in RUNNING (R8). -/
theorem State.Reporting.placeBeacon (sound : s.Reporting) (runs : s.running = true) : s.placeBeacon.Reporting := by
  unfold State.placeBeacon
  cases full : s.line.bcnSlot with
  | some p => exact sound
  | none =>
    exact ⟨sound.latches, sound.counters, sound.counts, sound.gathered, sound.queue, sound.readBack,
      ⟨sound.line.order, sound.line.entries, sound.line.counts, sound.line.cab, sound.line.renew, fun _ => rfl,
        sound.line.blocked, sound.line.marked, sound.line.unmarked, sound.line.latches, sound.line.receiver,
        sound.line.startMark⟩, fun stopped => absurd (runs.symm.trans stopped) (by simp)⟩

end

end Sys2Proof.Machine

/-! PROOFS of what every command keeps, second part: the transmitter (R40, R163 to R170) and the receiver (R161). -/

namespace Sys2Proof.Machine

/-! ## The place of the frame being sent (R39, R163, R170) -/

/-- The place of the candidate being sent is held, and no other one. -/
structure State.Holds (s : State) (held : Option Candidate) : Prop where
  cab : s.line.cabSlot = .sending ↔ held = some .cab
  renew : s.line.renew = true → s.line.cabSlot = .sending
  beacon : held = some .bcn → s.line.bcnSlot.isSome = true
  blocked : ∀ i, i < 24 → ((s.latch i).blocked = true ↔ held = some (.latch i))
  marked : (∃ cls, held = some (.queued cls)) → (s.line.queue.filter QueueEntry.inAttempt).length = 1
  unmarked : (¬∃ cls, held = some (.queued cls)) → ∀ e ∈ s.line.queue, e.inAttempt = false

/-- The candidate of an attempt, in the two ways in which it is named. -/
theorem sends_iff (tx : Option Attempt) (c : Candidate) : (∃ b r, tx = some ⟨c, b, r⟩) ↔ tx.map Attempt.candidate = some c := by
  cases tx with
  | none => simp
  | some a =>
    obtain ⟨candidate, bytes, readBack⟩ := a
    simp

/-- The candidate of a queued frame, in the two ways in which it is named. -/
theorem sendsQueued_iff (tx : Option Attempt) : (∃ cls b r, tx = some ⟨.queued cls, b, r⟩) ↔
    ∃ cls, tx.map Attempt.candidate = some (.queued cls) :=
  exists_congr fun cls => sends_iff tx (.queued cls)

section
variable {s t : State}

/-- A sound Line Port holds the place of the frame being sent. -/
theorem State.LineSound.holds (sound : s.LineSound) : s.Holds (s.line.tx.map Attempt.candidate) :=
  ⟨sound.cab.trans (sends_iff _ _), sound.renew, fun sends => sound.beacon ((sends_iff _ _).mpr sends),
    fun i inside => (sound.blocked i inside).trans (sends_iff _ _), fun sends => sound.marked ((sendsQueued_iff _).mpr sends),
    fun silent => sound.unmarked (mt (sendsQueued_iff _).mp silent)⟩

/-- What is kept after a change of what is sent, from the places that are held then. -/
theorem State.Reporting.ofHolds (sound : s.Reporting) (runs : s.running = true) (alike : t.loader = s.loader)
    (rx : t.line.rx = .watching ∨ t.line.rx = s.line.rx) (idle : t.line.idle = s.line.idle)
    (startMark : t.line.startMark = s.line.startMark)
    (counters : t.counters.length = 20 ∧ ∀ n ∈ t.counters, n ≤ 65535) (bank : t.latches.length = 24)
    (each : ∀ l ∈ t.latches, l.Sound t.clock.localTime ∧ l.content.count ≤ 255 ∧ l.sending.count ≤ 255)
    (short : t.line.queue.length ≤ 16) (ordered : QueueOrdered t.line.queue t.clock.localTime)
    (counts : t.line.cabAttempts ≤ 8 ∧ t.line.bcnAttempts ≤ 7)
    (readBack : ∀ a, t.line.tx = some a → a.readBack.length ≤ (frameLevels a.bytes).length)
    (held : t.Holds (t.line.tx.map Attempt.candidate)) : t.Reporting := by
  refine ⟨bank, counters.1, counters.2, fun l listed => (each l listed).2, short, readBack,
    ⟨ordered.1, ordered.2, counts, held.cab.trans (sends_iff _ _).symm, held.renew, fun sends => held.beacon ((sends_iff _ _).mp sends),
      fun i inside => (held.blocked i inside).trans (sends_iff _ _).symm, fun sends => held.marked ((sendsQueued_iff _).mp sends),
      fun silent => held.unmarked (mt (sendsQueued_iff _).mpr silent), fun l listed => (each l listed).1, fun stamp frame is => ?_, ?_⟩,
    fun stopped => ?_⟩
  · rw [idle]
    rcases rx with watches | same
    · exact absurd (watches.symm.trans is) (by simp)
    · exact sound.line.receiver stamp frame (same ▸ is)
  · rw [idle, startMark]
    exact sound.line.startMark
  · rw [State.running_congr alike] at stopped
    exact absurd (runs.symm.trans stopped) (by simp)

/-- What holds of every item holds of every item after a change of one that gives it to that one. -/
theorem forall_mem_modify {α : Type} {P : α → Prop} {f : α → α} {l : List α} {i : Nat} (each : ∀ x ∈ l, P x)
    (changed : ∀ x, l[i]? = some x → P (f x)) : ∀ x ∈ l.modify i f, P x := by
  intro x listed
  obtain ⟨j, inside, rfl⟩ := List.mem_iff_getElem.mp listed
  rw [List.length_modify] at inside
  rw [List.getElem_modify]
  split
  next here => exact changed _ (here ▸ List.getElem?_eq_getElem inside)
  · exact each _ (List.getElem_mem _)

/-- A latch of the bank after a change of one. -/
theorem State.latch_setLatch (bank : s.latches.length = 24) {i : Nat} (inside : i < 24) (source : Nat) (f : Latch → Latch) :
    (s.setLatch source f).latch i = if source = i then f (s.latch i) else s.latch i := by
  rw [State.latch, State.latch, State.setLatch, List.getD_eq_getElem _ _ (by simp; omega), List.getD_eq_getElem _ _ (by omega),
    List.getElem_modify]

/-- Marking the first of some entries, none being marked, marks one. -/
theorem modifyFirst_marks {p : QueueEntry → Bool} {queue : List QueueEntry} (unmarked : ∀ e ∈ queue, e.inAttempt = false)
    (meets : ∃ e ∈ queue, p e = true) :
    ((modifyFirst p (fun e => { e with inAttempt := true }) queue).filter QueueEntry.inAttempt).length = 1 := by
  induction queue with
  | nil => simp at meets
  | cons q rest ih =>
    obtain ⟨first, others⟩ := List.forall_mem_cons.mp unmarked
    unfold modifyFirst
    split
    · have none : rest.filter QueueEntry.inAttempt = [] := List.filter_eq_nil_iff.mpr fun e listed => by simp [others e listed]
      simp [none]
    next not =>
      obtain ⟨e, listed, is⟩ := meets
      have later : e ∈ rest := (List.mem_cons.mp listed).resolve_left fun here => not (here ▸ is)
      rw [List.filter_cons_of_neg (by simp [first]), ih others ⟨e, later, is⟩]

/-- A change of the first of some items leaves what it leaves of each. -/
theorem modifyFirst_map {α β : Type} {p : α → Bool} {f : α → α} {g : α → β} (same : ∀ x, g (f x) = g x) (l : List α) :
    (modifyFirst p f l).map g = l.map g := by
  induction l with
  | nil => rfl
  | cons x rest ih =>
    unfold modifyFirst
    split <;> simp [same, ih]

/-- What holds of every item holds after a change of the first of some that gives it to that one. -/
theorem forall_mem_modifyFirst {α : Type} {P : α → Prop} {p : α → Bool} {f : α → α} {l : List α} (each : ∀ x ∈ l, P x)
    (changed : ∀ x, l.find? p = some x → P (f x)) : ∀ x ∈ modifyFirst p f l, P x := by
  induction l with
  | nil => simp [modifyFirst]
  | cons y rest ih =>
    obtain ⟨first, others⟩ := List.forall_mem_cons.mp each
    unfold modifyFirst
    split
    next here => exact List.forall_mem_cons.mpr ⟨changed y (by simp [here]), others⟩
    next not => exact List.forall_mem_cons.mpr ⟨first, ih others fun x found => changed x (by simpa [not] using found)⟩

/-- A queue stays in order while its first entry of some kind changes in its attempts or its mark alone. -/
theorem QueueOrdered.modifyFirst {queue : List QueueEntry} {now : Nat} (ordered : QueueOrdered queue now) {p : QueueEntry → Bool}
    {f : QueueEntry → QueueEntry} (same : ∀ e, (f e).cls = e.cls ∧ (f e).ready = e.ready)
    (attempts : ∀ e, queue.find? p = some e → (f e).attempts ≤ 7) : QueueOrdered (modifyFirst p f queue) now := by
  constructor
  · have placed (l : List QueueEntry) : (l.Pairwise fun x y => x.cls < y.cls ∨ (x.cls = y.cls ∧ x.ready ≤ y.ready)) ↔
        (l.map fun e => (e.cls, e.ready)).Pairwise fun x y => x.1 < y.1 ∨ (x.1 = y.1 ∧ x.2 ≤ y.2) := by
      rw [List.pairwise_map]
    rw [placed, modifyFirst_map fun e => Prod.ext (same e).1 (same e).2, ← placed]
    exact ordered.1
  · refine forall_mem_modifyFirst ordered.2 fun e found => ?_
    obtain ⟨cls, ready, -⟩ := ordered.2 e (List.mem_of_find?_eq_some found)
    rw [(same e).1, (same e).2]
    exact ⟨cls, ready, attempts e found⟩

/-- A change of the first of some items leaves the length. -/
theorem modifyFirst_length {α : Type} (p : α → Bool) (f : α → α) (l : List α) : (modifyFirst p f l).length = l.length := by
  simpa using congrArg List.length (modifyFirst_map (p := p) (f := f) (g := fun _ => ()) (fun _ => rfl) l)

/-! ## The start of an attempt (R40, R163) -/

/-- The candidate stands in its place, and may be sent (R163). -/
def State.Offers (s : State) (c : Candidate) : Prop :=
  match c with
  | .cab => True
  | .bcn => s.line.bcnSlot.isSome = true
  | .latch i => i < 24 ∧ (s.latch i).pending = true ∧ (s.latch i).blocked = false
  | .queued cls => ∃ e ∈ s.line.queue, e.cls = cls

/-- The candidate taken stands in its place (R164). -/
theorem State.pick_offers (bank : s.latches.length = 24) {c : Candidate} (picks : s.pick = some c) : s.Offers c := by
  have latch {cls i ready : Nat} (oldest : s.oldestLatch cls = some (i, ready)) : s.Offers (.latch i) := by
    obtain ⟨-, inside, pending, free, -⟩ := (State.oldestLatch_offers oldest).1 bank
    exact ⟨inside, pending, free⟩
  have queued {cls : Nat} {e : QueueEntry} (first : s.firstQueued cls = some e) : s.Offers (.queued cls) :=
    ⟨e, List.mem_of_find?_eq_some first, by simpa using List.find?_some first⟩
  unfold State.pick at picks
  split at picks
  · cases picks; exact trivial
  · split at picks
    next full => cases picks; exact full
    · cases oldest : s.oldestLatch 1 with
      | some found => rw [oldest] at picks; cases picks; exact latch oldest
      | none =>
        rw [oldest] at picks
        rcases Option.or_eq_some_iff.mp picks with second | ⟨-, third⟩
        · unfold State.pickClassTwo at second
          cases oldest : s.oldestLatch 2 with
          | some found =>
            rw [oldest] at second
            cases first : s.firstQueued 2 with
            | some e =>
              rw [first] at second
              simp only at second
              split at second
              · cases second; exact latch oldest
              · cases second; exact queued first
            | none => rw [first] at second; cases second; exact latch oldest
          | none =>
            rw [oldest] at second
            cases first : s.firstQueued 2 with
            | some e => rw [first] at second; cases second; exact queued first
            | none => rw [first] at second; cases second
        · obtain ⟨e, first, rfl⟩ := Option.map_eq_some_iff.mp third
          exact queued first

/-- The start of an attempt holds the candidate's place, where none was held (R39, R163, R170). -/
theorem State.Holds.begins (held : s.Holds none) (bank : s.latches.length = 24) {c : Candidate} (offers : s.Offers c) :
    (s.beginAttempt c).Holds (some c) := by
  have idle : s.line.cabSlot ≠ .sending := fun sends => by simpa using held.cab.mp sends
  have free (i : Nat) (inside : i < 24) : ¬(s.latch i).blocked = true := fun blocked => by
    simpa using (held.blocked i inside).mp blocked
  have unmarked : ∀ e ∈ s.line.queue, e.inAttempt = false := held.unmarked (by simp)
  cases c with
  | cab =>
    exact ⟨iff_of_true rfl rfl, Bool.noConfusion, nofun, fun i inside => iff_of_false (free i inside) (by simp), by simp,
      fun _ => unmarked⟩
  | bcn =>
    exact ⟨iff_of_false idle (by simp), held.renew, fun _ => offers, fun i inside => iff_of_false (free i inside) (by simp), by simp,
      fun _ => unmarked⟩
  | latch source =>
    refine ⟨iff_of_false idle (by simp), held.renew, nofun, fun i inside => ?_, by simp, fun _ => unmarked⟩
    rw [State.beginAttempt, State.latch_setLatch bank inside]
    by_cases here : source = i
    · simp [here]
    · rw [if_neg here]
      exact iff_of_false (free i inside) (by simpa using here)
  | queued cls =>
    refine ⟨iff_of_false idle (by simp), held.renew, nofun, fun i inside => iff_of_false (free i inside) (by simp), fun _ => ?_,
      by simp⟩
    obtain ⟨e, listed, is⟩ := offers
    exact modifyFirst_marks unmarked ⟨e, listed, by simpa using is⟩

/-! ## The end of an attempt (R40, R163, R165, R166, R170) -/

/-- Taking out the first item of some kind leaves the others of that kind. -/
theorem filter_eraseP {α : Type} (p : α → Bool) (l : List α) : (l.eraseP p).filter p = (l.filter p).tail := by
  induction l with
  | nil => rfl
  | cons x rest ih => cases is : p x <;> simp [is, ih]

/-- Changing the first item of some kind into none leaves the others of that kind. -/
theorem filter_modifyFirst {α : Type} {p : α → Bool} {f : α → α} (changed : ∀ x, p (f x) = false) (l : List α) :
    (modifyFirst p f l).filter p = (l.filter p).tail := by
  induction l with
  | nil => rfl
  | cons x rest ih =>
    unfold modifyFirst
    cases is : p x <;> simp [is, ih, changed]

/-- Where one entry was marked and its mark is gone, none is marked. -/
theorem unmarked_of_tail {queue rest : List QueueEntry} (one : (queue.filter QueueEntry.inAttempt).length = 1)
    (left : rest.filter QueueEntry.inAttempt = (queue.filter QueueEntry.inAttempt).tail) : ∀ e ∈ rest, e.inAttempt = false := by
  have none : rest.filter QueueEntry.inAttempt = [] := by
    rw [left, ← List.length_eq_zero_iff, List.length_tail, one]
  exact fun e listed => by simpa using List.filter_eq_nil_iff.mp none e listed

/-- The places that are held where a candidate other than the CAB slot is sent. -/
theorem State.Holds.notSending {c : Candidate} (held : s.Holds (some c)) (other : c ≠ .cab) : s.line.cabSlot ≠ .sending :=
  fun sends => other (by simpa using held.cab.mp sends)

/-- No latch but that of the candidate is blocked (R170). -/
theorem State.Holds.notBlocked {c : Candidate} (held : s.Holds (some c)) {i : Nat} (inside : i < 24) (other : c ≠ .latch i) :
    ¬(s.latch i).blocked = true :=
  fun blocked => other (by simpa using (held.blocked i inside).mp blocked)

/-- No entry is marked where no queued frame is sent. -/
theorem State.Holds.notMarked {c : Candidate} (held : s.Holds (some c)) (other : ∀ cls, c ≠ .queued cls) :
    ∀ e ∈ s.line.queue, e.inAttempt = false :=
  held.unmarked fun ⟨cls, is⟩ => other cls (by simpa using is)

/-- Places held where none is named. -/
theorem State.Holds.ofNone (cab : s.line.cabSlot ≠ .sending) (renew : s.line.renew = true → s.line.cabSlot = .sending)
    (free : ∀ i, i < 24 → ¬(s.latch i).blocked = true) (unmarked : ∀ e ∈ s.line.queue, e.inAttempt = false) : s.Holds none :=
  ⟨iff_of_false cab (by simp), renew, nofun, fun i inside => iff_of_false (free i inside) (by simp), by simp, fun _ => unmarked⟩

/-- No latch is blocked after a change of the candidate's latch that frees it. -/
theorem State.Holds.frees (bank : s.latches.length = 24) {source : Nat} (held : s.Holds (some (.latch source))) {f : Latch → Latch}
    (freed : ∀ l, (f l).blocked = false) {i : Nat} (inside : i < 24) : ¬((s.setLatch source f).latch i).blocked = true := by
  rw [State.latch_setLatch bank inside]
  by_cases here : source = i
  · simp [here, freed]
  · rw [if_neg here]
    exact held.notBlocked inside (by simpa using here)

/-- A sent frame leaves its place, and none is held (R40, R163, R170). -/
theorem State.Holds.sent (bank : s.latches.length = 24) {c : Candidate} (held : s.Holds (some c)) : (s.candidateSent c).Holds none := by
  cases c with
  | cab =>
    refine .ofNone ?_ Bool.noConfusion (fun i inside => held.notBlocked inside nofun) (held.notMarked nofun)
    show (if s.line.renew then CabSlot.pending else .empty) ≠ .sending
    split <;> simp
  | bcn => exact .ofNone (held.notSending nofun) held.renew (fun i inside => held.notBlocked inside nofun) (held.notMarked nofun)
  | latch source =>
    refine .ofNone (held.notSending nofun) held.renew (fun i inside => held.frees bank (fun l => ?_) inside) (held.notMarked nofun)
    unfold Latch.sent
    split <;> rfl
  | queued cls =>
    have left : ∀ e ∈ s.line.queue.eraseP QueueEntry.inAttempt, e.inAttempt = false :=
      unmarked_of_tail (held.marked ⟨cls, rfl⟩) (filter_eraseP _ _)
    simp only [State.candidateSent]
    split
    all_goals exact .ofNone (held.notSending nofun) held.renew (fun i inside => held.notBlocked inside nofun) left

/-- A collision gives the candidate back to its place (R40, R165, R166, R170). -/
def State.returns (s : State) (c : Candidate) : State :=
  match c with
  | .cab => s.onLine LinePort.cabCollided
  | .bcn => s.onLine LinePort.bcnCollided
  | .latch source => s.setLatch source Latch.collided
  | .queued _ =>
    match s.line.queue.find? QueueEntry.inAttempt with
    | some e => s.onLine fun l => l.entryCollided e
    | none => s

/-- A collision gives the candidate back, and the eighth latches LINE_FAULT (R166). -/
theorem State.candidateCollided_eq (s : State) (c : Candidate) :
    s.candidateCollided c = s.returns c ∨ ∃ kind, s.candidateCollided c = (s.returns c).lineFault kind := by
  have fault (u : State) (n : Nat) (kind : FrameKind) : u.faultAtEight n kind = u ∨ ∃ k, u.faultAtEight n kind = u.lineFault k := by
    unfold State.faultAtEight
    split
    · exact .inr ⟨kind, rfl⟩
    · exact .inl rfl
  cases c with
  | cab => exact fault _ _ _
  | bcn => exact fault _ _ _
  | latch source => exact fault _ _ _
  | queued cls =>
    simp only [State.candidateCollided, State.returns]
    cases s.line.queue.find? QueueEntry.inAttempt with
    | none => exact .inl rfl
    | some e => exact fault _ _ _

/-- A beacon that collided leaves the other places of the line as they are (R165). -/
theorem LinePort.bcnCollided_rest (l : LinePort) : l.bcnCollided.cabSlot = l.cabSlot ∧ l.bcnCollided.renew = l.renew ∧
    l.bcnCollided.queue = l.queue ∧ l.bcnCollided.tx = l.tx ∧ l.bcnCollided.rx = l.rx ∧ l.bcnCollided.idle = l.idle ∧
    l.bcnCollided.startMark = l.startMark ∧ l.bcnCollided.cabAttempts = l.cabAttempts := by
  unfold LinePort.bcnCollided
  split <;> exact ⟨rfl, rfl, rfl, rfl, rfl, rfl, rfl, rfl⟩

/-- An entry that collided leaves the other places of the line as they are (R165). -/
theorem LinePort.entryCollided_rest (l : LinePort) (e : QueueEntry) : (l.entryCollided e).cabSlot = l.cabSlot ∧
    (l.entryCollided e).renew = l.renew ∧ (l.entryCollided e).tx = l.tx ∧ (l.entryCollided e).rx = l.rx ∧
    (l.entryCollided e).idle = l.idle ∧ (l.entryCollided e).startMark = l.startMark ∧
    (l.entryCollided e).cabAttempts = l.cabAttempts ∧ (l.entryCollided e).bcnAttempts = l.bcnAttempts := by
  unfold LinePort.entryCollided
  split <;> exact ⟨rfl, rfl, rfl, rfl, rfl, rfl, rfl, rfl⟩

/-- After a collision no place is held (R40, R165, R166, R170). -/
theorem State.Holds.returned (bank : s.latches.length = 24) {c : Candidate} (held : s.Holds (some c)) : (s.returns c).Holds none := by
  cases c with
  | cab =>
    exact .ofNone (by simp [State.returns, LinePort.cabCollided]) Bool.noConfusion (fun i inside => held.notBlocked inside nofun)
      (held.notMarked nofun)
  | bcn =>
    obtain ⟨slot, renew, queue, -⟩ := s.line.bcnCollided_rest
    exact .ofNone (by simpa [State.returns, slot] using held.notSending nofun) (by simpa [State.returns, slot, renew] using held.renew)
      (fun i inside => held.notBlocked inside nofun) (by simpa [State.returns, queue] using held.notMarked nofun)
  | latch source =>
    exact .ofNone (held.notSending nofun) held.renew (fun i inside => held.frees bank (fun l => rfl) inside) (held.notMarked nofun)
  | queued cls =>
    have one := held.marked ⟨cls, rfl⟩
    cases found : s.line.queue.find? QueueEntry.inAttempt with
    | none =>
      have gone : s.line.queue.filter QueueEntry.inAttempt = [] := List.filter_eq_nil_iff.mpr (List.find?_eq_none.mp found)
      simp [gone] at one
    | some e =>
      obtain ⟨slot, renew, -⟩ := s.line.entryCollided_rest e
      have queue : (s.line.entryCollided e).queue.filter QueueEntry.inAttempt = (s.line.queue.filter QueueEntry.inAttempt).tail := by
        unfold LinePort.entryCollided
        split
        · exact filter_eraseP _ _
        · exact filter_modifyFirst (fun _ => rfl) _
      simp only [State.returns, found]
      exact .ofNone (by simpa [slot] using held.notSending nofun) (by simpa [slot, renew] using held.renew)
        (fun i inside => held.notBlocked inside nofun) (unmarked_of_tail one queue)

/-- A latch whose frame is sent is clear, or pending with what it gathered since (R170). -/
theorem Latch.Sound.sent {l : Latch} {now : Nat} (sound : l.Sound now) : (l.sent now).Sound now := by
  unfold Latch.sent
  split
  · exact ⟨by simp [Latch.clear, Gathered.none], by simp [Latch.clear, Gathered.none], by simp [Latch.clear, Gathered.none], nofun,
      fun _ => rfl, Nat.zero_le _, Nat.zero_le _⟩
  next gathered =>
    exact ⟨iff_of_true rfl (Nat.one_le_iff_ne_zero.mpr gathered), sound.sending, by simp [Latch.clear, Gathered.none], nofun,
      fun _ => rfl, Nat.le_refl _, Nat.zero_le _⟩

/-- The counts of a latch whose frame is sent (R174). -/
theorem Latch.sent_counts {l : Latch} {now : Nat} (short : l.sending.count ≤ 255) :
    (l.sent now).content.count ≤ 255 ∧ (l.sent now).sending.count ≤ 255 := by
  unfold Latch.sent
  split
  · exact ⟨Nat.zero_le _, Nat.zero_le _⟩
  · exact ⟨short, Nat.zero_le _⟩

/-- A latch whose frame collided is pending with all it has gathered (R166, R170). -/
theorem Latch.Sound.collided {l : Latch} {now : Nat} (sound : l.Sound now) : l.collided.Sound now := by
  have filled : (1 ≤ (l.content.merge l.sending).count ↔ 1 ≤ l.content.count) ∧ (1 ≤ (l.content.merge l.sending).count ↔
      (l.content.merge l.sending).first.isSome = true ∧ (l.content.merge l.sending).detail.isSome = true) := by
    unfold Gathered.merge
    split
    · exact ⟨Iff.rfl, sound.content⟩
    next gathered =>
      have detail := (sound.sending.mp (Nat.one_le_iff_ne_zero.mpr gathered)).2
      have blocked : l.blocked = true := by
        by_contra free
        exact gathered (by rw [sound.idle (by simpa using free)]; rfl)
      have content := sound.gathered.mp (sound.blocked blocked)
      have counted : 1 ≤ saturate 255 (l.content.count + l.sending.count) := by
        unfold saturate
        omega
      exact ⟨iff_of_true counted content, iff_of_true counted ⟨(sound.content.mp content).1, detail⟩⟩
  refine ⟨sound.gathered.trans filled.1.symm, filled.2, by simp [Latch.collided, Gathered.none], nofun, fun _ => rfl, sound.ready, ?_⟩
  have attempts := sound.attempts
  unfold Latch.collided Config.maxAttempts
  simp only
  split <;> omega

/-- The counts of a latch whose frame collided (R174). -/
theorem Latch.collided_counts {l : Latch} (short : l.content.count ≤ 255) :
    l.collided.content.count ≤ 255 ∧ l.collided.sending.count ≤ 255 := by
  refine ⟨?_, Nat.zero_le _⟩
  show (l.content.merge l.sending).count ≤ 255
  unfold Gathered.merge
  split
  · exact short
  · exact Nat.min_le_left _ _

/-! ## The commands of the transmitter (R163, R165) -/

/-- What is kept of every latch. -/
theorem State.Reporting.eachLatch (sound : s.Reporting) : ∀ l ∈ s.latches,
    l.Sound s.clock.localTime ∧ l.content.count ≤ 255 ∧ l.sending.count ≤ 255 :=
  fun l listed => ⟨sound.line.latches l listed, sound.gathered l listed⟩

/-- The order of the General Queue. -/
theorem State.Reporting.ordered (sound : s.Reporting) : QueueOrdered s.line.queue s.clock.localTime :=
  ⟨sound.line.order, sound.line.entries⟩

/-- The latch that stands at a place of the bank. -/
theorem State.latch_getElem? {l : Latch} {i : Nat} (at_ : s.latches[i]? = some l) : s.latch i = l := by
  rw [State.latch, List.getD_eq_getElem?_getD, at_]
  rfl

/-- An attempt begins (R40, R163). -/
theorem State.Reporting.startAttempt (sound : s.Reporting) (runs : s.running = true) (silent : s.line.tx = none) {c : Candidate}
    (offers : s.Offers c) : (s.startAttempt c).Reporting := by
  have none : s.Holds none := by simpa [silent] using sound.line.holds
  have held := none.begins sound.latches offers
  have places : (s.startAttempt c).Holds (some c) := ⟨held.cab, held.renew, held.beacon, held.blocked, held.marked, held.unmarked⟩
  have frame := State.startAttempt_frame s c
  obtain ⟨loader, clock, -, -, -, -, -, -, -, -, counters, -⟩ := frame
  have parts : (s.startAttempt c).latches = (s.beginAttempt c).latches ∧ (s.startAttempt c).line.queue = (s.beginAttempt c).line.queue ∧
      (s.startAttempt c).line.tx = some ⟨c, s.fillFrame c, []⟩ ∧
      (s.startAttempt c).line.cabAttempts = (s.beginAttempt c).line.cabAttempts ∧
      (s.startAttempt c).line.bcnAttempts = (s.beginAttempt c).line.bcnAttempts := ⟨rfl, rfl, rfl, rfl, rfl⟩
  obtain ⟨latches, queue, tx, cabAttempts, bcnAttempts⟩ := parts
  refine sound.ofHolds runs loader (.inr (by simp)) (by simp) ?_ (counters ▸ ⟨sound.counters, sound.counts⟩) ?_ ?_ ?_ ?_ ?_ ?_ ?_
  · cases c <;> rfl
  · rw [latches]
    cases c <;> simp [State.beginAttempt, sound.latches, State.setLatch]
  · rw [latches, clock]
    cases c with
    | latch source =>
      refine forall_mem_modify sound.eachLatch fun l at_ => ?_
      obtain ⟨-, pending, free⟩ := offers
      rw [State.latch_getElem? at_] at pending free
      obtain ⟨kept, counts⟩ := sound.eachLatch l (List.mem_of_getElem? at_)
      exact ⟨⟨kept.gathered, kept.content, kept.sending, fun _ => pending, nofun, kept.ready, kept.attempts⟩, counts⟩
    | cab => exact sound.eachLatch
    | bcn => exact sound.eachLatch
    | queued cls => exact sound.eachLatch
  · rw [queue]
    cases c with
    | queued cls => exact (modifyFirst_length _ _ _).trans_le sound.queue
    | cab => exact sound.queue
    | bcn => exact sound.queue
    | latch source => exact sound.queue
  · rw [queue, clock]
    cases c with
    | queued cls =>
      exact sound.ordered.modifyFirst (fun _ => ⟨rfl, rfl⟩) fun e found =>
        (sound.line.entries e (List.mem_of_find?_eq_some found)).2.2
    | cab => exact sound.ordered
    | bcn => exact sound.ordered
    | latch source => exact sound.ordered
  · rw [cabAttempts, bcnAttempts]
    cases c <;> exact sound.line.counts
  · rw [tx]
    rintro a ⟨⟩
    exact Nat.zero_le _
  · rw [tx]
    exact places

/-- The Counter Bank keeps its size and its top while one counter counts (R179). -/
theorem State.count_bank (bank : s.counters.length = 20 ∧ ∀ n ∈ s.counters, n ≤ 65535) (c : Counter) :
    (s.count c).counters.length = 20 ∧ ∀ n ∈ (s.count c).counters, n ≤ 65535 :=
  ⟨by simp [bank.1], forall_mem_modify bank.2 fun _ _ => Nat.min_le_left _ _⟩

/-- A sent frame ends the attempt (R163). -/
theorem State.Reporting.endSent (sound : s.Reporting) (runs : s.running = true) {a : Attempt} (sends : s.line.tx = some a) :
    (s.endSent a.candidate).Reporting := by
  have held : s.Holds (some a.candidate) := by simpa [sends] using sound.line.holds
  generalize a.candidate = c at held
  have free := held.sent sound.latches
  obtain ⟨loader, clock, -⟩ := State.candidateSent_frame s c
  have places : (s.endSent c).Holds none := ⟨free.cab, free.renew, free.beacon, free.blocked, free.marked, free.unmarked⟩
  have parts : (s.endSent c).loader = (s.candidateSent c).loader ∧ (s.endSent c).clock = (s.candidateSent c).clock ∧
      (s.endSent c).latches = (s.candidateSent c).latches ∧ (s.endSent c).line.queue = (s.candidateSent c).line.queue ∧
      (s.endSent c).line.cabAttempts = (s.candidateSent c).line.cabAttempts ∧
      (s.endSent c).line.bcnAttempts = (s.candidateSent c).line.bcnAttempts := ⟨rfl, rfl, rfl, rfl, rfl, rfl⟩
  obtain ⟨loader', clock', latches, queue, cabAttempts, bcnAttempts⟩ := parts
  have left : (s.candidateSent c).line.queue.Sublist s.line.queue := by
    cases c with
    | queued cls =>
      simp only [State.candidateSent]
      split
      all_goals exact List.eraseP_sublist
    | cab => exact .refl _
    | bcn => exact .refl _
    | latch source => exact .refl _
  refine sound.ofHolds runs (loader'.trans loader) (.inl rfl) ?_ ?_ (State.count_bank ?_ _) ?_ ?_ (queue ▸ left.length_le.trans sound.queue)
    (by rw [queue, clock', clock]; exact sound.ordered.sublist left) ?_ nofun places
  · cases c with
    | queued cls => simp only [State.endSent, State.candidateSent]; split <;> rfl
    | cab => rfl
    | bcn => rfl
    | latch source => rfl
  · cases c with
    | queued cls => simp only [State.endSent, State.candidateSent]; split <;> rfl
    | cab => rfl
    | bcn => rfl
    | latch source => rfl
  · cases c with
    | queued cls =>
      simp only [State.candidateSent]
      split
      · exact State.count_bank ⟨sound.counters, sound.counts⟩ _
      · exact ⟨sound.counters, sound.counts⟩
    | cab => exact ⟨sound.counters, sound.counts⟩
    | bcn => exact ⟨sound.counters, sound.counts⟩
    | latch source => exact ⟨sound.counters, sound.counts⟩
  · rw [latches]
    cases c with
    | queued cls => simp only [State.candidateSent]; split <;> exact sound.latches
    | cab => exact sound.latches
    | bcn => exact sound.latches
    | latch source => simp [State.candidateSent, State.setLatch, sound.latches]
  · rw [latches, clock', clock]
    cases c with
    | queued cls => simp only [State.candidateSent]; split <;> exact sound.eachLatch
    | cab => exact sound.eachLatch
    | bcn => exact sound.eachLatch
    | latch source =>
      refine forall_mem_modify sound.eachLatch fun l at_ => ?_
      obtain ⟨kept, counts⟩ := sound.eachLatch l (List.mem_of_getElem? at_)
      exact ⟨kept.sent, Latch.sent_counts counts.2⟩
  · rw [cabAttempts, bcnAttempts]
    have counts := sound.line.counts
    cases c with
    | queued cls => simp only [State.candidateSent]; split <;> exact counts
    | cab => exact ⟨Nat.zero_le _, counts.2⟩
    | bcn => exact ⟨counts.1, Nat.zero_le _⟩
    | latch source => exact counts

/-- A candidate given back leaves what is kept, no attempt being in progress (R165, R166). -/
theorem State.Reporting.returned (sound : s.Reporting) (runs : s.running = true) {a : Attempt} (sends : s.line.tx = some a) :
    (((s.count .collisions).onLine fun l => { l with tx := none, backoff := true }).returns a.candidate).Reporting := by
  have held : s.Holds (some a.candidate) := by simpa [sends] using sound.line.holds
  generalize a.candidate = c at held
  generalize is : ((s.count .collisions).onLine fun l => { l with tx := none, backoff := true }) = u
  have line : u.line = { s.line with tx := none, backoff := true } := by rw [← is]; rfl
  have latches : u.latches = s.latches := by rw [← is]; rfl
  have clock : u.clock = s.clock := by rw [← is]; rfl
  have loader : u.loader = s.loader := by rw [← is]; rfl
  have counters : u.counters.length = 20 ∧ ∀ n ∈ u.counters, n ≤ 65535 := by
    rw [← is]
    exact State.count_bank ⟨sound.counters, sound.counts⟩ _
  have heldNow : u.Holds (some c) := by
    rw [← is]
    exact ⟨held.cab, held.renew, held.beacon, held.blocked, held.marked, held.unmarked⟩
  have bank : u.latches.length = 24 := latches ▸ sound.latches
  have each : ∀ l ∈ u.latches, l.Sound u.clock.localTime ∧ l.content.count ≤ 255 ∧ l.sending.count ≤ 255 := by
    rw [latches, clock]
    exact sound.eachLatch
  have ordered : QueueOrdered u.line.queue u.clock.localTime := by
    rw [line, clock]
    exact sound.ordered
  have short : u.line.queue.length ≤ 16 := by rw [line]; exact sound.queue
  have counts : u.line.cabAttempts ≤ 8 ∧ u.line.bcnAttempts ≤ 7 := by rw [line]; exact sound.line.counts
  have silent : u.line.tx = none := by rw [line]
  have rx : u.line.rx = s.line.rx := by rw [line]
  have idle : u.line.idle = s.line.idle := by rw [line]
  have startMark : u.line.startMark = s.line.startMark := by rw [line]
  have places := heldNow.returned bank
  cases c with
  | cab =>
    exact sound.ofHolds runs loader (.inr rx) idle startMark counters bank each short ordered ⟨Nat.min_le_left _ _, counts.2⟩
      (fun a is => absurd (silent.symm.trans is) (by simp)) (by simpa [State.returns, LinePort.cabCollided, silent] using places)
  | bcn =>
    obtain ⟨-, -, queue, tx, rx', idle', mark', cabAttempts⟩ := u.line.bcnCollided_rest
    have tries : u.line.bcnCollided.bcnAttempts ≤ 7 := by
      unfold LinePort.bcnCollided Config.maxAttempts
      split
      · exact Nat.zero_le _
      · simp only; omega
    exact sound.ofHolds runs loader (.inr (rx'.trans rx)) (idle'.trans idle) (mark'.trans startMark) counters bank each (queue ▸ short)
      (queue ▸ ordered) ⟨cabAttempts ▸ counts.1, tries⟩ (fun a is => absurd ((tx.trans silent).symm.trans is) (by simp))
      (by simpa [State.returns, tx, silent] using places)
  | latch source =>
    refine sound.ofHolds runs loader (.inr rx) idle startMark counters (by simp [State.returns, State.setLatch, bank]) ?_ short ordered
      counts (fun a is => absurd (silent.symm.trans is) (by simp)) (by simpa [State.returns, silent] using places)
    refine forall_mem_modify each fun l at_ => ?_
    obtain ⟨kept, counts⟩ := each l (List.mem_of_getElem? at_)
    exact ⟨kept.collided, Latch.collided_counts counts.1⟩
  | queued cls =>
    cases found : u.line.queue.find? QueueEntry.inAttempt with
    | none =>
      simp only [State.returns, found] at places ⊢
      exact sound.ofHolds runs loader (.inr rx) idle startMark counters bank each short ordered counts
        (fun a is => absurd (silent.symm.trans is) (by simp)) (by simpa [silent] using places)
    | some e =>
      simp only [State.returns, found] at places ⊢
      obtain ⟨-, -, tx, rx', idle', mark', cabAttempts, bcnAttempts⟩ := u.line.entryCollided_rest e
      have queue : (u.line.entryCollided e).queue.length ≤ 16 ∧ QueueOrdered (u.line.entryCollided e).queue u.clock.localTime := by
        unfold LinePort.entryCollided Config.maxAttempts
        split
        · exact ⟨List.length_eraseP_le.trans short, ordered.sublist List.eraseP_sublist⟩
        next early =>
          refine ⟨(modifyFirst_length _ _ _).trans_le short, ordered.modifyFirst (fun _ => ⟨rfl, rfl⟩) fun x is => ?_⟩
          obtain rfl : e = x := by simpa [found] using is
          simp only [QueueEntry.returned]
          omega
      exact sound.ofHolds runs loader (.inr (rx'.trans rx)) (idle'.trans idle) (mark'.trans startMark) counters bank each queue.1
        queue.2 ⟨cabAttempts ▸ counts.1, bcnAttempts ▸ counts.2⟩ (fun a is => absurd ((tx.trans silent).symm.trans is) (by simp))
        (by simpa [tx, silent] using places)

/-- A collision ends the attempt (R165, R166). -/
theorem State.Reporting.endCollided (sound : s.Reporting) (runs : s.running = true) {a : Attempt} (sends : s.line.tx = some a) :
    (s.endCollided a.candidate).Reporting := by
  have back := sound.returned runs sends
  rcases State.candidateCollided_eq ((s.count .collisions).onLine fun l => { l with tx := none, backoff := true }) a.candidate
    with plain | ⟨kind, faulted⟩
  · rw [State.endCollided, plain]
    exact back
  · rw [State.endCollided, faulted]
    exact back.occur _ _

end

end Sys2Proof.Machine

/-! PROOFS of what every command keeps, third part: the receiver (R159, R161), and what the shared operations keep of the line, the
latches and the counters. -/

namespace Sys2Proof.Machine

/-! ## The frame in collection (R159, R161) -/

/-- What a collector holds of its frame keeps within the lengths of R159 and R161. -/
def Collector.Fits : Collector → Prop
  | .mark gone => gone < 4
  | .between taken quiet => taken.length ≤ 62 ∧ quiet < 11
  | .inByte taken bits => taken.length ≤ 62 ∧ bits.length ≤ 8
  | .over (.ended bytes) => bytes.length ≤ 62
  | .over (.broken _) => True

/-- A frame in collection is sound where its runs are counted and what it holds keeps within its lengths. -/
theorem Collecting.sound_iff (c : Collecting) (idle : Nat) : c.Sound idle ↔
    c.recessive = idle ∧ (c.dominant = 0 ∨ c.recessive = 0) ∧ (c.ended = none → c.dominant ≤ 9) ∧ c.place.Fits := by
  constructor
  · intro sound
    refine ⟨sound.run, sound.stretch, sound.held, ?_⟩
    cases place : c.place with
    | mark gone => exact sound.mark gone place
    | between taken quiet => exact sound.between taken quiet place
    | inByte taken bits => exact sound.inByte taken bits place
    | _ got =>
      cases got with
      | ended bytes => exact sound.ended bytes ((Collecting.ended_iff c _).mpr place)
      | broken onDominant => trivial
  · rintro ⟨run, stretch, held, fits⟩
    refine ⟨run, stretch, held, fun gone is => ?_, fun taken quiet is => ?_, fun taken bits is => ?_, fun bytes is => ?_⟩
    · rwa [is] at fits
    · rwa [is] at fits
    · rwa [is] at fits
    · rwa [(Collecting.ended_iff c _).mp is] at fits

/-- A collector keeps within its lengths (R159, R161). -/
theorem Collector.Fits.step {c : Collector} (fits : c.Fits) (run : Nat) (recessive : Bool) : (c.step run recessive).Fits := by
  cases c with
  | mark gone =>
    unfold Collector.step
    have four : startMarkLevels.length = 4 := rfl
    simp only [four]
    split
    next more => exact more
    · exact ⟨Nat.zero_le _, by decide⟩
  | between taken quiet =>
    obtain ⟨short, few⟩ := fits
    have ended : Collector.Fits (.over (.ended taken.reverse)) := by simpa [Collector.Fits] using short
    unfold Collector.step Collector.gap Config.frameEnd
    simp only
    split
    · split
      · exact ended
      · exact ⟨short, Nat.zero_le _⟩
    · split
      · exact ended
      · exact ⟨short, by omega⟩
  | inByte taken bits =>
    obtain ⟨short, eight⟩ := fits
    unfold Collector.step
    simp only
    split
    next more => exact ⟨short, by simpa using more⟩
    · unfold Collector.stopBit
      split
      · trivial
      · split
        · trivial
        next room => exact ⟨by simpa using room, by decide⟩
  | _ => exact fits

/-- A collector that the line broke off holds nothing more. -/
theorem Collector.Fits.held {c : Collector} (fits : c.Fits) (dominant : Nat) : (c.held dominant).Fits := by
  unfold Collector.held
  split
  · exact fits
  · split
    · trivial
    · exact fits

/-- A frame that goes on is dominant for at most 9 µs at a stretch (R161). -/
theorem Collector.held_ongoing {c : Collector} {dominant : Nat} (ongoing : ∀ got, c.held dominant ≠ .over got) : dominant ≤ 9 := by
  by_contra long
  cases c with
  | mark gone => exact ongoing (.broken true) (if_pos (Nat.lt_of_not_le long))
  | between taken quiet => exact ongoing (.broken true) (if_pos (Nat.lt_of_not_le long))
  | inByte taken bits => exact ongoing (.broken true) (if_pos (Nat.lt_of_not_le long))
  | _ got => exact ongoing got rfl

/-- A frame in collection stays sound from one local microsecond to the next (R159, R161). -/
theorem Collecting.Sound.step {c : Collecting} {idle : Nat} (sound : c.Sound idle) (recessive : Bool) :
    (c.step recessive).Sound (if recessive then idle + 1 else 0) := by
  obtain ⟨run, stretch, -, fits⟩ := (Collecting.sound_iff c idle).mp sound
  refine (Collecting.sound_iff _ _).mpr ⟨?_, ?_, fun ongoing =>
    Collector.held_ongoing (c := c.place.step c.recessive recessive) fun got is => ?_, (fits.step _ _).held _⟩
  · rw [Collecting.step_recessive, run]
  · rw [Collecting.step_recessive, Collecting.step_dominant]
    cases recessive <;> simp
  · have ended := (Collecting.ended_iff (c.step recessive) got).mpr is
    rw [ongoing] at ended
    cases ended

/-- The dominant microsecond that begins a frame (R159, R161). -/
theorem Collecting.begun_sound : Collecting.begun.Sound 0 :=
  (Collecting.sound_iff _ _).mpr ⟨rfl, .inr rfl, fun _ => by decide, show 1 < 4 by decide⟩

section
variable {s t : State}

/-! ## The line from one local microsecond to the next (R159, R161, R165) -/

/-- What is read back of a frame stays within it (R165). -/
theorem Attempt.hears_readBack {a : Attempt} (short : a.readBack.length ≤ (frameLevels a.bytes).length) (recessive : Bool) :
    (a.hears recessive).readBack.length ≤ (frameLevels (a.hears recessive).bytes).length := by
  unfold Attempt.hears Attempt.levels
  split
  next more => simpa using more
  · exact short

/-- A local microsecond keeps what is kept of the line (R159, R161, R165). -/
theorem State.Reporting.tickLine (sound : s.Reporting) (level : LineLevel) :
    ({ s with line := s.line.tick level } : State).Reporting := by
  have candidate : (s.line.tick level).tx.map Attempt.candidate = s.line.tx.map Attempt.candidate := by
    simp only [LinePort.tick, Option.map_map]
    congr 1
    funext a
    exact Attempt.hears_candidate a _
  have held := sound.line.holds
  rw [← candidate] at held
  refine ⟨sound.latches, sound.counters, sound.counts, sound.gathered, sound.queue, fun a is => ?_,
    ⟨sound.line.order, sound.line.entries, sound.line.counts, held.cab.trans (sends_iff _ _).symm, held.renew,
      fun sends => held.beacon ((sends_iff _ _).mp sends), fun i inside => (held.blocked i inside).trans (sends_iff _ _).symm,
      fun sends => held.marked ((sendsQueued_iff _).mp sends), fun silent => held.unmarked (mt (sendsQueued_iff _).mpr silent),
      sound.line.latches, fun stamp frame is => ?_, ?_⟩, fun stopped => ?_⟩
  · obtain ⟨b, sends, rfl⟩ := Option.map_eq_some_iff.mp is
    exact Attempt.hears_readBack (sound.readBack b sends) _
  · simp only [LinePort.tick] at is ⊢
    cases rx : s.line.rx with
    | watching => rw [rx] at is; cases is
    | waitRecessive =>
      rw [rx] at is
      by_cases free : Config.frameEnd ≤ (s.line.tick level).idle
      · exact absurd ((if_pos free).symm.trans is) (by simp)
      · exact absurd ((if_neg free).symm.trans is) (by simp)
    | collecting at_ old =>
      rw [rx] at is
      cases is
      have next := (sound.line.receiver _ _ rx).step (isRecessive level)
      cases level <;> exact next
  · simp only [LinePort.tick]
    cases level <;> simp
  · obtain ⟨tx, slot, beacon, queue⟩ := sound.silent stopped
    exact ⟨by simp [LinePort.tick, tx], slot, beacon, queue⟩

/-- A local microsecond keeps what is kept of the line, the latches and the counters. -/
theorem State.Reporting.tick (sound : s.Reporting) (pins : PinSamples) : (s.tick pins).Reporting := by
  by_cases listens : s.listening = true
  · refine (sound.tickLine pins.line).congr ?_ rfl rfl (Nat.le_succ _) rfl
    show (if s.listening then s.line.tick pins.line else s.line) = _
    rw [if_pos listens]
  · refine sound.congr ?_ rfl rfl (Nat.le_succ _) rfl
    show (if s.listening then s.line.tick pins.line else s.line) = _
    rw [if_neg listens]

/-! ## The shared operations in RUNNING -/

/-- What is kept of the line, the latches and the counters, in RUNNING. -/
structure State.Live (s : State) : Prop where
  reporting : s.Reporting
  runs : s.running = true

/-- What every operation of a list keeps, all of them keep. -/
theorem foldl_preserves {α β : Type} {P : α → Prop} {op : α → β → α} (one : ∀ u x, P u → P (op u x)) (xs : List β) {u : α}
    (holds : P u) : P (xs.foldl op u) := by
  induction xs generalizing u with
  | nil => exact holds
  | cons x xs ih => exact ih (one u x holds)

/-- What every operation at a head keeps, all of them keep. -/
theorem State.forHeads_preserves {P : State → Prop} {op : Nat → State → State} (one : ∀ h u, P u → P (op h u)) (holds : P s) :
    P (s.forHeads op) :=
  foldl_preserves (fun u h => one h u) _ holds

namespace State.Live

/-- What is live depends on the line, the latches, the counters, local time and the Loader alone. -/
theorem congr (live : s.Live) (line : t.line = s.line) (latches : t.latches = s.latches) (counters : t.counters = s.counters)
    (clock : t.clock = s.clock) (runs : t.running = s.running) : t.Live :=
  ⟨live.reporting.congr line latches counters (by rw [clock]) runs, runs.trans live.runs⟩

theorem occur (live : s.Live) (e : EventSource) (detail : Byte) : (s.occur e detail).Live :=
  ⟨live.reporting.occur e detail, live.runs⟩

theorem count (live : s.Live) (c : Counter) : (s.count c).Live := ⟨live.reporting.count c, live.runs⟩

theorem handOver (live : s.Live) (frame : OutFrame) {cls : Nat} (low : cls = 2 ∨ cls = 3) : (s.handOver frame cls).Live :=
  ⟨live.reporting.handOver live.runs frame low, (State.running_congr (by simp)).trans live.runs⟩

theorem reply (live : s.Live) (dest : Byte) (reply : Reply) : (s.reply dest reply).Live := live.handOver _ (.inl rfl)

theorem announce (live : s.Live) : s.announce.Live := ⟨live.reporting.announce, (State.running_congr (by simp)).trans live.runs⟩

theorem setHead (live : s.Live) (h : Nat) (f : Head → Head) : (s.setHead h f).Live := live.congr rfl rfl rfl rfl rfl

/-- The readiness test (R146). -/
theorem testReady (live : s.Live) (h : Nat) : (s.testReady h).Live := by
  unfold State.testReady
  split
  · exact live
  · split
    · refine State.Live.reply ?_ _ _
      exact live.congr rfl rfl rfl rfl rfl
    · exact live

/-- A result handed to its record (R94). -/
theorem deliverFill (live : s.Live) (h : Nat) (sequence : Word32) (fill : Fill) : (s.deliverFill h sequence fill).Live := by
  unfold State.deliverFill
  split
  · exact live.congr rfl rfl rfl rfl rfl
  · exact live.occur _ _

/-- The end of a dose (R94). -/
theorem endDose (live : s.Live) (h : Nat) (result : FillResult) (meter : Nat) : (s.endDose h result meter).Live := by
  unfold State.endDose
  split
  · exact live
  next d _ =>
    have ended := ((live.deliverFill h d.sequence ⟨result, meter⟩).count (if result = .ok then .dosesOk else .dosesNotOk)).setHead h
      fun x => x.endDose result
    simp only
    split
    · exact ended.testReady h
    · exact ended

/-- The end of a jog (R97). -/
theorem endJog (live : s.Live) (h : Nat) (cause : JogCause) : (s.endJog h cause).Live := by
  unfold State.endJog
  split
  · exact live
  · exact (live.setHead h _).reply _ _

/-- A fall of run permission at a head (R89, R97). -/
theorem permissionLost (live : s.Live) (h : Nat) : (s.permissionLost h).Live := by
  unfold State.permissionLost State.suspend
  split
  · split
    · exact live
    · simp only
      split
      · exact (live.setHead h _).endDose h _ _
      · exact live.setHead h _
  · exact live.endJog h _

/-- A rise of run permission at a head (R90). -/
theorem permissionGained (live : s.Live) (h : Nat) : (s.permissionGained h).Live := by
  unfold State.permissionGained
  split
  · exact live.setHead h _
  · exact live

/-- A rise of run permission (R44). -/
theorem permissionRises (live : s.Live) : s.permissionRises.Live :=
  State.forHeads_preserves (fun h _ => (·.permissionGained h)) (State.Live.announce (live.congr rfl rfl rfl rfl rfl))

/-- Run permission following its conditions (R44). -/
theorem followConditions (live : s.Live) : s.followConditions.Live := by
  unfold State.followConditions
  split
  · split
    · exact live
    · split
      · exact live.permissionRises
      · exact live.congr rfl rfl rfl rfl rfl
  · split
    · exact State.forHeads_preserves (fun h _ => (·.permissionLost h)) (State.Live.announce (live.congr rfl rfl rfl rfl rfl))
    · exact live.congr rfl rfl rfl rfl rfl

/-- The end of the jogs on some heads (R97). -/
theorem endJogsOn (live : s.Live) (heads : HeadSet) (cause : JogCause) : (s.endJogsOn heads cause).Live :=
  foldl_preserves (fun u h kept => by split; exact kept.endJog h _; exact kept) _ live

/-- A change at some heads (R77). -/
theorem atHeads (live : s.Live) (heads : HeadSet) (f : Head → Head) : (s.atHeads heads f).Live :=
  foldl_preserves (fun u h kept => by split; exact kept.setHead h _; exact kept) _ live

/-- The end of a grant (R149). -/
theorem endGrant (live : s.Live) (g : Grant) (reason : EndReason) : (s.endGrant g reason).Live := by
  have removed : ((s.endJogsOn g.heads .grantEnded).removeGrant g.number).Live :=
    (live.endJogsOn g.heads .grantEnded).congr rfl rfl rfl rfl rfl
  have ended := (removed.atHeads g.heads Head.grantEnds).reply (byte g.holder) (.ended g.number reason)
  unfold State.endGrant
  simp only
  split
  · exact ended.occur _ _
  · exact ended

/-- The end of every grant (R136, R153). -/
theorem endAllGrants (live : s.Live) (reason : EndReason) : (s.endAllGrants reason).Live :=
  foldl_preserves (fun _ g kept => kept.endGrant g reason) _ live

end State.Live

end

end Sys2Proof.Machine

/-! PROOFS of what every command keeps, fourth part: one filler head (R77, R80 to R99). -/

namespace Sys2Proof.Machine

/-! ## What a head keeps -/

/-- What every command keeps of one head, where grants cover it or not, with run permission, its fitting and RUNNING, and the
pulses of a dose: its states and outputs agree, it is DRAINING or OUT exactly while covered, it emits only with run permission and
where it is fitted, its counts stay below their targets, and nothing is in hand outside RUNNING (R43, R77, R80 to R99, R196). -/
structure Head.Fits (x : Head) (covered permission fitted runs : Bool) (pulses : Nat) : Prop where
  sound : x.Sound
  covering : x.production ≠ .faulted → (covered = true ↔ x.production = .draining ∨ x.production = .out)
  driven : x.emitting = true → permission = true ∧ fitted = true
  counts : x.CountsSound pulses
  still : runs = false → x.hand = none ∧ x.jog = none

section
variable {x : Head} {covered permission fitted runs : Bool} {pulses : Nat}

/-- The outputs of a head against what it emits (R80, R85 to R87, R96). -/
structure Head.Drives (x : Head) : Prop where
  enable : x.enableOut = x.emitting
  stopped : x.train = .stopped ↔ x.emitting = false
  paused : x.emitting = true → (x.train = .paused ↔ x.ready = false)
  pulse : x.pulseOut = true ↔ ∃ n, x.train = .high n

/-- The states of a head against what it has in hand (R77, R82, R96). -/
structure Head.Stands (x : Head) : Prop where
  hand : x.hand.isSome = true ↔ x.dose ≠ .idle
  jogs : x.jog.isSome = true → x.dose = .idle ∧ x.production = .out
  draining : x.production = .draining → x.dose ≠ .idle
  out : x.production = .out → x.dose = .idle
  faulted : x.production = .faulted ↔ x.fault.state = true
  faultIdle : x.production = .faulted → x.dose = .idle

/-- A head is sound where its outputs and its states agree. -/
theorem Head.sound_iff (x : Head) : x.Sound ↔ x.Drives ∧ x.Stands :=
  ⟨fun s => ⟨⟨s.enable, s.stopped, s.paused, s.pulse⟩, ⟨s.hand, s.jogs, s.draining, s.out, s.faulted, s.faultIdle⟩⟩,
    fun ⟨d, s⟩ => ⟨d.enable, d.stopped, d.paused, d.pulse, s.hand, s.jogs, s.draining, s.out, s.faulted, s.faultIdle⟩⟩

/-- A head that emits nothing drives nothing. -/
theorem Head.Drives.ofQuiet (silent : x.emitting = false) (enable : x.enableOut = false) (train : x.train = .stopped)
    (pulse : x.pulseOut = false) : x.Drives :=
  ⟨enable.trans silent.symm, iff_of_true train silent, fun emits => absurd (silent.symm.trans emits) (by simp),
    iff_of_false (by simp [pulse]) (by simp [train])⟩

/-- A head begins to emit with its train on a low phase, or paused (R85, R86, R96). -/
theorem Head.Drives.ofStart (emits : x.emitting = true) (enable : x.enableOut = true) (train : x.train = x.startTrain)
    (pulse : x.pulseOut = false) : x.Drives := by
  unfold Head.startTrain at train
  refine ⟨enable.trans emits.symm, iff_of_false ?_ (by simp [emits]), fun _ => ?_, iff_of_false (by simp [pulse]) ?_⟩
  all_goals rw [train]; split <;> simp_all

/-- A head with a dose in hand runs no jog (R82). -/
theorem Head.Stands.noJog (stands : x.Stands) (busy : x.dose ≠ .idle) : x.jog = none := by
  by_contra some_
  exact busy (stands.jogs (Option.isSome_iff_ne_none.mpr some_)).1

/-- A head with a jog has no dose in hand (R82). -/
theorem Head.Stands.noHand (stands : x.Stands) (idle : x.dose = .idle) : x.hand = none := by
  by_contra some_
  exact stands.hand.mp (Option.isSome_iff_ne_none.mpr some_) idle

/-- A head with nothing in hand has no counts. -/
theorem Head.CountsSound.ofNone (hand : x.hand = none) (jog : x.jog = none) : x.CountsSound pulses := by
  constructor <;> simp [hand, jog]

/-- A head fits where its outputs and states agree and it emits nothing. -/
theorem Head.Fits.ofQuiet (silent : x.emitting = false) (enable : x.enableOut = false) (train : x.train = .stopped)
    (pulse : x.pulseOut = false) (stands : x.Stands)
    (covering : x.production ≠ .faulted → (covered = true ↔ x.production = .draining ∨ x.production = .out))
    (counts : x.CountsSound pulses) (still : runs = false → x.hand = none ∧ x.jog = none) :
    x.Fits covered permission fitted runs pulses :=
  ⟨(Head.sound_iff x).mpr ⟨.ofQuiet silent enable train pulse, stands⟩, covering,
    fun emits => absurd (silent.symm.trans emits) (by simp), counts, still⟩

/-- A head stands by what it has in hand as it did, where it has a dose or a jog as it had. -/
theorem Head.Stands.keep {y : Head} (stands : x.Stands) (hand : y.hand.isSome = x.hand.isSome)
    (idle : y.dose = .idle ↔ x.dose = .idle) (jog : y.jog.isSome = x.jog.isSome) (production : y.production = x.production)
    (fault : y.fault.state = x.fault.state) : y.Stands := by
  refine ⟨?_, ?_, ?_, ?_, ?_, ?_⟩ <;> simp only [hand, idle, jog, production, fault, ne_eq]
  · exact stands.hand
  · exact stands.jogs
  · exact stands.draining
  · exact stands.out
  · exact stands.faulted
  · exact stands.faultIdle

/-- The counts of a dose in hand, no jog running. -/
theorem Head.CountsSound.ofDose {d : DoseInHand} (hand : x.hand = some d) (jog : x.jog = none)
    (waiting : x.dose = .waitStart → d.emitted = 0 ∧ d.meter = 0) (running : x.dose = .run ∨ x.dose = .suspended → d.emitted < pulses)
    (settling : x.dose = .settle → d.emitted = pulses) (meter : d.meter ≤ 65535) : x.CountsSound pulses := by
  have is {e : DoseInHand} (held : x.hand = some e) : d = e := Option.some.inj (hand.symm.trans held)
  refine ⟨fun e held => is held ▸ waiting, fun e held => is held ▸ running, fun e held => is held ▸ settling, ?_,
    fun e held => is held ▸ meter⟩
  simp [jog]

/-- The counts of a running jog, no dose being in hand. -/
theorem Head.CountsSound.ofJog {j : JogInHand} (hand : x.hand = none) (jog : x.jog = some j) (emitted : j.emitted < j.target)
    (target : j.target ≤ 65535) (meter : j.meter ≤ 65535) : x.CountsSound pulses := by
  refine ⟨?_, ?_, ?_, ?_, ?_⟩ <;> simp only [hand, jog, reduceCtorEq, false_implies, implies_true, Option.some.injEq]
  rintro _ rfl
  exact ⟨emitted, target, meter⟩

namespace Head.Fits

/-- A head that fits drives what it emits. -/
theorem drives (fits : x.Fits covered permission fitted runs pulses) : x.Drives := ((Head.sound_iff x).mp fits.sound).1

/-- A head that fits stands by what it has in hand. -/
theorem stands (fits : x.Fits covered permission fitted runs pulses) : x.Stands := ((Head.sound_iff x).mp fits.sound).2

/-- A head that emits nothing fits with or without run permission. -/
theorem silent (fits : x.Fits covered permission fitted runs pulses) (silent : x.emitting = false) (other : Bool) :
    x.Fits covered other fitted runs pulses :=
  ⟨fits.sound, fits.covering, fun emits => absurd (silent.symm.trans emits) (by simp), fits.counts, fits.still⟩

/-- The end of a jog (R97). -/
theorem jogEnded (fits : x.Fits covered permission fitted runs pulses) : x.jogEnded.Fits covered permission fitted runs pulses := by
  unfold Head.jogEnded
  split
  next jogs =>
    obtain ⟨idle, out⟩ := fits.stands.jogs jogs
    have hand := fits.stands.noHand idle
    exact .ofQuiet (by simp [Head.quiet, Head.emitting, idle]) rfl rfl rfl
      ⟨fits.stands.hand, nofun, fits.stands.draining, fits.stands.out, fits.stands.faulted, fits.stands.faultIdle⟩ fits.covering
      (.ofNone hand rfl) fun stopped => ⟨hand, rfl⟩
  · exact fits

/-- No jog runs after the end of one (R97). -/
theorem jogEnded_jog (x : Head) : x.jogEnded.jog = none := by
  unfold Head.jogEnded
  split
  · rfl
  next not => simpa using not

/-- The end of a dose other than by a drive fault (R94). -/
theorem doseEnded (fits : x.Fits covered permission fitted runs pulses) {result : FillResult} (ordinary : result ≠ .driveFault) :
    (x.doseEnded result).Fits covered permission fitted runs pulses := by
  unfold Head.doseEnded
  split
  next held =>
    have busy := fits.stands.hand.mp held
    have jog := fits.stands.noJog busy
    have frees : (x.endDose result).production = if x.production = .draining then .out else x.production := by
      simp [Head.endDose, ordinary]
    have same : (x.endDose result).production = .faulted ↔ x.production = .faulted := by
      rw [frees]
      split <;> simp_all
    refine .ofQuiet (by simp [Head.endDose, Head.quiet, Head.emitting, jog]) rfl rfl rfl ⟨by simp [Head.endDose], ?_, ?_, fun _ => rfl, ?_,
      fun _ => rfl⟩ ?_ (.ofNone rfl jog) fun _ => ⟨rfl, jog⟩
    · intro jogs
      exact absurd jogs (by simp [Head.endDose, Head.quiet, jog])
    · rw [frees]
      split <;> simp_all
    · rw [same]
      exact fits.stands.faulted
    · rw [Ne, same, frees]
      intro sound
      rw [fits.covering sound]
      split <;> simp_all
  · exact fits

/-- The dose in hand of a head that fits, no jog running beside it (R82). -/
theorem busy (fits : x.Fits covered permission fitted runs pulses) (busy : x.dose ≠ .idle) :
    x.jog = none ∧ ∃ d, x.hand = some d :=
  ⟨fits.stands.noJog busy, Option.isSome_iff_exists.mp (fits.stands.hand.mpr busy)⟩

/-- The suspension of the dose in RUN (R89). -/
theorem suspended (fits : x.Fits covered permission fitted runs pulses) (running : x.dose = .run) (other : Bool) :
    x.suspended.Fits covered other fitted runs pulses := by
  obtain ⟨jog, d, held⟩ := fits.busy (by simp [running])
  refine .ofQuiet (by simp [Head.suspended, Head.quiet, Head.emitting, jog]) rfl rfl rfl
    (fits.stands.keep (by simp [Head.suspended, Head.quiet]) (by simp [Head.suspended, running]) rfl rfl rfl) fits.covering ?_
    fun stopped => absurd (fits.still stopped).1 (by simp [held])
  exact .ofDose (d := { d with resumeTimer := some 0 }) (by simp [Head.suspended, held]) jog nofun
    (fun _ => fits.counts.running d held (.inl running)) nofun (fits.counts.meter d held)

/-- A fall of run permission (R89, R97). -/
theorem loses (fits : x.Fits covered permission fitted runs pulses) (resumeMs : Nat) (other : Bool) :
    (x.loses resumeMs).Fits covered other fitted runs pulses := by
  by_cases running : x.dose = .run
  · obtain ⟨jog, d, held⟩ := fits.busy (by simp [running])
    have suspended := fits.suspended running other
    have ended := suspended.doseEnded (result := .held) (by simp)
    have is : x.suspended.doseEnded .held = x.suspended.endDose .held := if_pos (by simp [Head.suspended, held])
    rw [Head.loses, if_pos running, if_pos (by simp [held])]
    split
    · exact is ▸ ended
    · exact suspended
  · rw [Head.loses, if_neg running]
    refine fits.jogEnded.silent ?_ other
    have dose : x.jogEnded.dose = x.dose := by
      unfold Head.jogEnded
      split <;> rfl
    simp [Head.emitting, dose, running, jogEnded_jog x]

/-- A head that emits nothing has its pulse output low. -/
theorem pulse_low (fits : x.Fits covered permission fitted runs pulses) (silent : x.emitting = false) : x.pulseOut = false := by
  rw [Bool.eq_false_iff, Ne, fits.drives.pulse, fits.drives.stopped.mpr silent]
  simp

/-- A rise of run permission at a fitted head (R90). -/
theorem gains (fits : x.Fits covered permission true runs pulses) : x.gains.Fits covered true true runs pulses := by
  unfold Head.gains
  split
  next waits =>
    obtain ⟨jog, d, held⟩ := fits.busy (by simp [waits])
    have silent : x.emitting = false := by simp [Head.emitting, waits, jog]
    refine ⟨(Head.sound_iff _).mpr ⟨.ofStart rfl rfl rfl (fits.pulse_low silent),
      fits.stands.keep (by simp) (by simp [waits]) rfl rfl rfl⟩, fits.covering, fun _ => ⟨rfl, rfl⟩, ?_,
      fun stopped => absurd (fits.still stopped).1 (by simp [held])⟩
    exact .ofDose (d := { d with resumeTimer := none }) (by simp [held]) jog nofun
      (fun _ => fits.counts.running d held (.inr waits)) nofun (fits.counts.meter d held)
  · exact ⟨fits.sound, fits.covering, fun _ => ⟨rfl, rfl⟩, fits.counts, fits.still⟩

/-- The start of a dose in RUN (R84, R85). -/
theorem enterRun (fits : x.Fits covered true true runs pulses) (waits : x.dose = .waitStart) (one : 1 ≤ pulses) :
    x.enterRun.Fits covered true true runs pulses := by
  obtain ⟨jog, d, held⟩ := fits.busy (by simp [waits])
  have silent : x.emitting = false := by simp [Head.emitting, waits, jog]
  refine ⟨(Head.sound_iff _).mpr ⟨.ofStart rfl rfl rfl (fits.pulse_low silent),
      fits.stands.keep (by simp [Head.enterRun]) (by simp [Head.enterRun, waits]) rfl rfl rfl⟩, fits.covering, fun _ => ⟨rfl, rfl⟩, ?_,
    fun stopped => absurd (fits.still stopped).1 (by simp [held])⟩
  exact .ofDose (d := { d with emitted := 0, meter := 0, doseTimer := some 0 }) (by simp [Head.enterRun, held]) jog nofun
    (fun _ => one) nofun (Nat.zero_le _)

/-- The last pulse of a dose enters SETTLE (R91). -/
theorem enterSettle (fits : x.Fits covered permission fitted runs pulses) (running : x.dose = .run) {d : DoseInHand}
    (held : x.hand = some d) (last : pulses ≤ d.emitted + 1) : (x.enterSettle d).Fits covered permission fitted runs pulses := by
  obtain ⟨jog, -⟩ := fits.busy (by simp [running])
  refine .ofQuiet (by simp [Head.enterSettle, Head.quiet, Head.emitting, jog]) rfl rfl rfl
    (fits.stands.keep (by simp [Head.enterSettle, held]) (by simp [Head.enterSettle, running]) rfl rfl rfl) fits.covering ?_
    fun stopped => absurd (fits.still stopped).1 (by simp [held])
  have more := fits.counts.running d held (.inl running)
  exact .ofDose (d := { d with emitted := d.emitted + 1, doseTimer := none, settleTimer := some 0 }) rfl jog nofun
    (fun is => by simp [Head.enterSettle] at is) (fun _ => by simp only; omega) (fits.counts.meter d held)

/-- The train of a head that emits, on another phase than it was, and not paused (R86, R96). -/
theorem drives_phase (fits : x.Fits covered permission fitted runs pulses) (emits : x.emitting = true) (ready : x.train ≠ .paused)
    {y : Head} (same : y.enableOut = x.enableOut ∧ y.emitting = x.emitting ∧ y.ready = x.ready)
    (phase : (y.pulseOut = false ∧ ∃ n, y.train = .low n) ∨ (y.pulseOut = true ∧ ∃ n, y.train = .high n)) : y.Drives := by
  obtain ⟨enable, emitting, readies⟩ := same
  have high : x.ready = true := by
    by_contra low
    exact ready ((fits.drives.paused emits).mpr (by simpa using low))
  refine ⟨by rw [enable, emitting, fits.drives.enable], ?_, fun _ => ?_, ?_⟩
  · rw [emitting, emits]
    rcases phase with ⟨-, n, train⟩ | ⟨-, n, train⟩ <;> simp [train]
  · rw [readies, high]
    rcases phase with ⟨-, n, train⟩ | ⟨-, n, train⟩ <;> simp [train]
  · rcases phase with ⟨out, n, train⟩ | ⟨out, n, train⟩ <;> simp [out, train]

/-- A pulse of a dose that is not the last (R86). -/
theorem pulseCounted (fits : x.Fits covered permission fitted runs pulses) (running : x.dose = .run) {d : DoseInHand}
    (held : x.hand = some d) (more : d.emitted + 1 < pulses) (ready : x.train ≠ .paused) :
    ({ x with hand := some { d with emitted := d.emitted + 1 }, train := .low 0, pulseOut := false } : Head).Fits
      covered permission fitted runs pulses := by
  obtain ⟨jog, -⟩ := fits.busy (by simp [running])
  have emits : x.emitting = true := by simp [Head.emitting, running]
  refine ⟨(Head.sound_iff _).mpr ⟨fits.drives_phase emits ready ⟨rfl, rfl, rfl⟩ (.inl ⟨rfl, 0, rfl⟩),
      fits.stands.keep (by simp [held]) Iff.rfl rfl rfl rfl⟩, fits.covering, fun _ => fits.driven emits, ?_,
    fun stopped => absurd (fits.still stopped).1 (by simp [held])⟩
  exact .ofDose (d := { d with emitted := d.emitted + 1 }) rfl jog (fun is => by simp [running] at is) (fun _ => more)
    (fun is => by simp [running] at is) (fits.counts.meter d held)

/-- A pulse of a jog that is not the last (R96). -/
theorem jogEmits (fits : x.Fits covered permission fitted runs pulses) {j : JogInHand} (jog : x.jog = some j)
    (more : j.emitted + 1 < j.target) (ready : x.train ≠ .paused) : (x.jogEmits j).Fits covered permission fitted runs pulses := by
  have emits : x.emitting = true := by simp [Head.emitting, jog]
  have hand := fits.stands.noHand (fits.stands.jogs (by simp [jog])).1
  obtain ⟨-, target, meter⟩ := fits.counts.jog j jog
  exact ⟨(Head.sound_iff _).mpr ⟨fits.drives_phase emits ready ⟨rfl, by simp [Head.jogEmits, Head.emitting, jog], rfl⟩
        (.inl ⟨rfl, 0, rfl⟩), fits.stands.keep rfl Iff.rfl (by simp [Head.jogEmits, jog]) rfl rfl⟩, fits.covering,
    fun _ => fits.driven emits, .ofJog hand rfl more target meter, fun stopped => absurd (fits.still stopped).2 (by simp [jog])⟩

/-- The low phase ends (R86). -/
theorem pulseRaised (fits : x.Fits covered permission fitted runs pulses) (emits : x.emitting = true) (ready : x.train ≠ .paused) :
    ({ x with train := .high 0, pulseOut := true } : Head).Fits covered permission fitted runs pulses :=
  ⟨(Head.sound_iff _).mpr ⟨fits.drives_phase emits ready ⟨rfl, rfl, rfl⟩ (.inr ⟨rfl, 0, rfl⟩), fits.stands.keep rfl Iff.rfl rfl rfl rfl⟩,
    fits.covering, fun _ => fits.driven emits, ⟨fits.counts.waiting, fits.counts.running, fits.counts.settling, fits.counts.jog,
      fits.counts.meter⟩, fits.still⟩

/-- Drive ready turns while the train runs (R86). -/
theorem readyChanges (fits : x.Fits covered permission fitted runs pulses) (emits : x.emitting = true) {high : Bool}
    (turns : x.ready ≠ high) : (x.readyChanges high).Fits covered permission fitted runs pulses := by
  have counts {y : Head} (same : y.hand = x.hand ∧ y.jog = x.jog ∧ y.dose = x.dose) : y.CountsSound pulses := by
    obtain ⟨hand, jog, dose⟩ := same
    constructor <;> simp only [hand, jog, dose]
    · exact fits.counts.waiting
    · exact fits.counts.running
    · exact fits.counts.settling
    · exact fits.counts.jog
    · exact fits.counts.meter
  cases high with
  | true =>
    have paused : x.train = .paused := (fits.drives.paused emits).mpr (by simpa using turns)
    have pulse : x.pulseOut = false := by
      rw [Bool.eq_false_iff, Ne, fits.drives.pulse, paused]
      simp
    exact ⟨(Head.sound_iff _).mpr ⟨⟨fits.drives.enable, iff_of_false nofun (by
            rw [show (x.readyChanges true).emitting = x.emitting from rfl, emits]; simp),
          fun _ => iff_of_false nofun nofun, iff_of_false (by simp [Head.readyChanges, pulse]) (by simp [Head.readyChanges])⟩,
        fits.stands.keep rfl Iff.rfl rfl rfl rfl⟩, fits.covering, fun _ => fits.driven emits, counts ⟨rfl, rfl, rfl⟩, fits.still⟩
  | false =>
    exact ⟨(Head.sound_iff _).mpr ⟨⟨fits.drives.enable, iff_of_false nofun (by
            rw [show (x.readyChanges false).emitting = x.emitting from rfl, emits]; simp),
          fun _ => iff_of_true rfl rfl, iff_of_false (by simp [Head.readyChanges]) (by simp [Head.readyChanges])⟩,
        fits.stands.keep rfl Iff.rfl rfl rfl rfl⟩, fits.covering, fun _ => fits.driven emits, counts ⟨rfl, rfl, rfl⟩, fits.still⟩

/-- Drive ready turns while the train stands (R86). -/
theorem readySet (fits : x.Fits covered permission fitted runs pulses) (silent : x.emitting = false) (high : Bool) :
    ({ x with ready := high } : Head).Fits covered permission fitted runs pulses :=
  .ofQuiet silent (fits.drives.enable.trans silent) (fits.drives.stopped.mpr silent) (fits.pulse_low silent)
    (fits.stands.keep rfl Iff.rfl rfl rfl rfl) fits.covering
    ⟨fits.counts.waiting, fits.counts.running, fits.counts.settling, fits.counts.jog, fits.counts.meter⟩ fits.still

/-- A meter pulse is counted (R92, R96). -/
theorem meterPulse (fits : x.Fits covered permission fitted runs pulses) : x.meterPulse.Fits covered permission fitted runs pulses := by
  have jog : x.meterPulse.jog.isSome = x.jog.isSome := by simp [Head.meterPulse]
  have emitting : x.meterPulse.emitting = x.emitting := by rw [Head.emitting, Head.emitting, jog]; rfl
  have hand (d : DoseInHand) (held : x.meterPulse.hand = some d) : ∃ e, x.hand = some e ∧ d.emitted = e.emitted ∧
      ((x.dose = .waitStart → d.meter = e.meter) ∧ d.meter ≤ 65535) := by
    unfold Head.meterPulse at held
    simp only at held
    split at held
    next counts =>
      obtain ⟨e, is, rfl⟩ := Option.map_eq_some_iff.mp held
      refine ⟨e, is, rfl, fun waits => ?_, Nat.min_le_left _ _⟩
      simp [Head.countsMeter, waits] at counts
    · exact ⟨d, held, rfl, fun _ => rfl, fits.counts.meter d held⟩
  refine ⟨(Head.sound_iff _).mpr ⟨⟨fits.drives.enable.trans emitting.symm, emitting ▸ fits.drives.stopped,
      emitting ▸ fits.drives.paused, fits.drives.pulse⟩, fits.stands.keep ?_ Iff.rfl jog rfl rfl⟩, fits.covering,
    emitting ▸ fits.driven, ⟨fun d held waits => ?_, fun d held running => ?_, fun d held settles => ?_, fun k is => ?_,
      fun d held => ?_⟩, fun stopped => ?_⟩
  · unfold Head.meterPulse
    simp only
    split <;> simp
  · obtain ⟨e, is, emitted, meter, -⟩ := hand d held
    obtain ⟨none, zero⟩ := fits.counts.waiting e is waits
    exact ⟨emitted.trans none, (meter waits).trans zero⟩
  · obtain ⟨e, is, emitted, -⟩ := hand d held
    exact emitted ▸ fits.counts.running e is running
  · obtain ⟨e, is, emitted, -⟩ := hand d held
    exact emitted ▸ fits.counts.settling e is settles
  · obtain ⟨j, runs_, rfl⟩ := Option.map_eq_some_iff.mp is
    obtain ⟨emitted, target, -⟩ := fits.counts.jog j runs_
    exact ⟨emitted, target, Nat.min_le_left _ _⟩
  · obtain ⟨e, -, -, -, short⟩ := hand d held
    exact short
  · obtain ⟨none, noJog⟩ := fits.still stopped
    simp [Head.meterPulse, none, noJog]

/-- A jog begins on an OUT head with run permission (R96, R151). -/
theorem startJog (fits : x.Fits covered permission fitted true pulses) (out : x.production = .out) (free : x.jog = none)
    {target holder : Nat} (some_ : 1 ≤ target) (top : target ≤ 65535) :
    (x.startJog target holder).Fits covered true true true pulses := by
  have idle := fits.stands.out out
  have silent : x.emitting = false := by simp [Head.emitting, idle, free]
  have hand := fits.stands.noHand idle
  have stands : (x.startJog target holder).Stands :=
    ⟨fits.stands.hand, fun _ => ⟨idle, out⟩, fits.stands.draining, fits.stands.out, fits.stands.faulted, fits.stands.faultIdle⟩
  exact ⟨(Head.sound_iff _).mpr ⟨.ofStart (by simp [Head.startJog, Head.emitting]) rfl rfl (fits.pulse_low silent), stands⟩,
    fits.covering, fun _ => ⟨rfl, rfl⟩, .ofJog hand rfl some_ top (Nat.zero_le _), nofun⟩

/-- A head in production takes a dose (R82, R83). -/
theorem takeDose (fits : x.Fits covered permission fitted true pulses) (inProduction : x.production = .inProduction)
    (idle : x.dose = .idle) (sequence : Word32) (start : Time) :
    (x.takeDose sequence start).Fits covered permission fitted true pulses := by
  have jog : x.jog = none := by
    by_contra jogs
    have out := (fits.stands.jogs (Option.isSome_iff_ne_none.mpr jogs)).2
    simp [inProduction] at out
  have silent : x.emitting = false := by simp [Head.emitting, idle, jog]
  have stands : (x.takeDose sequence start).Stands := by
    refine ⟨by simp [Head.takeDose], fun jogs => ?_, fun _ => by simp [Head.takeDose], fun out => ?_, fits.stands.faulted, fun faulted => ?_⟩
    · exact absurd jogs (by simp [Head.takeDose, jog])
    · exact absurd (inProduction.symm.trans out) (by simp)
    · exact absurd (inProduction.symm.trans faulted) (by simp)
  refine .ofQuiet (by simp [Head.takeDose, Head.emitting, jog]) (fits.drives.enable.trans silent) (fits.drives.stopped.mpr silent)
    (fits.pulse_low silent) stands fits.covering ?_ nofun
  exact .ofDose (d := ⟨sequence, start, 0, 0, none, none, none⟩) rfl jog (fun _ => ⟨rfl, rfl⟩) (fun is => by simp [Head.takeDose] at is)
    nofun (Nat.zero_le _)

/-- What a head drives and counts does not depend on its production state. -/
theorem produces (fits : x.Fits covered permission fitted runs pulses) {other : Bool} (production : Production)
    (stands : ({ x with production := production } : Head).Stands)
    (covering : production ≠ .faulted → (other = true ↔ production = .draining ∨ production = .out)) :
    ({ x with production := production } : Head).Fits other permission fitted runs pulses :=
  ⟨(Head.sound_iff _).mpr ⟨⟨fits.drives.enable, fits.drives.stopped, fits.drives.paused, fits.drives.pulse⟩, stands⟩, covering,
    fits.driven, ⟨fits.counts.waiting, fits.counts.running, fits.counts.settling, fits.counts.jog, fits.counts.meter⟩, fits.still⟩

/-- A head that is not FAULTED has no active drive fault (R77). -/
theorem sound_fault (fits : x.Fits covered permission fitted runs pulses) {production : Production}
    (sound : x.production ≠ .faulted) (other : production ≠ .faulted) : production = .faulted ↔ x.fault.state = true :=
  iff_of_false other fun fault => sound (fits.stands.faulted.mpr fault)

/-- A grant takes a head that no grant covered (R77, R144). -/
theorem grantStarts (fits : x.Fits false permission fitted runs pulses) : x.grantStarts.Fits true permission fitted runs pulses := by
  cases production : x.production with
  | inProduction =>
    have sound : x.production ≠ .faulted := by simp [production]
    have jog : x.jog = none := by
      by_contra jogs
      have out := (fits.stands.jogs (Option.isSome_iff_ne_none.mpr jogs)).2
      simp [production] at out
    have busy : x.inFlight = true ↔ x.dose ≠ .idle := by
      unfold Head.inFlight
      cases x.dose <;> simp
    simp only [Head.grantStarts, production]
    cases flight : x.inFlight with
    | true =>
      have dose := busy.mp flight
      exact fits.produces .draining ⟨fits.stands.hand, by simp [jog], fun _ => dose, nofun, fits.sound_fault sound nofun, nofun⟩ (by simp)
    | false =>
      have idle : x.dose = .idle := by
        by_contra other
        simp [busy.mpr other] at flight
      exact fits.produces .out ⟨fits.stands.hand, by simp [jog], nofun, fun _ => idle, fits.sound_fault sound nofun, nofun⟩ (by simp)
  | draining => exact absurd ((fits.covering (by simp [production])).mpr (.inl production)) (by simp)
  | out => exact absurd ((fits.covering (by simp [production])).mpr (.inr production)) (by simp)
  | faulted =>
    simp only [Head.grantStarts, production]
    exact ⟨fits.sound, fun sound => absurd production sound, fits.driven, fits.counts, fits.still⟩

/-- A grant leaves a head on which no jog runs (R77, R149). -/
theorem grantEnds (fits : x.Fits covered permission fitted runs pulses) (jog : x.jog = none) :
    x.grantEnds.Fits false permission fitted runs pulses := by
  have back (sound : x.production ≠ .faulted) :
      ({ x with production := .inProduction } : Head).Fits false permission fitted runs pulses :=
    fits.produces .inProduction ⟨fits.stands.hand, by simp [jog], nofun, nofun, fits.sound_fault sound nofun, nofun⟩ (by simp)
  cases production : x.production with
  | inProduction =>
    simp only [Head.grantEnds, production]
    exact ⟨fits.sound, fun _ => by simp [production], fits.driven, fits.counts, fits.still⟩
  | draining => simpa only [Head.grantEnds, production] using back (by simp [production])
  | out => simpa only [Head.grantEnds, production] using back (by simp [production])
  | faulted =>
    simp only [Head.grantEnds, production]
    exact ⟨fits.sound, fun sound => absurd production sound, fits.driven, fits.counts, fits.still⟩

/-- A head that loses its dose and its jog to a drive fault is FAULTED (R77, R98). -/
theorem becomeFaulted (fits : x.Fits covered permission fitted runs pulses) (active : x.fault.raw = true) :
    ((x.doseEnded .driveFault).jogEnded.becomeFaulted).Fits covered permission fitted runs pulses := by
  have ended : (x.doseEnded .driveFault).jogEnded.dose = .idle ∧ (x.doseEnded .driveFault).jogEnded.hand = none ∧
      (x.doseEnded .driveFault).jogEnded.fault = x.fault := by
    have dose : (x.doseEnded .driveFault).dose = .idle ∧ (x.doseEnded .driveFault).hand = none ∧
        (x.doseEnded .driveFault).fault = x.fault := by
      unfold Head.doseEnded
      split
      · exact ⟨rfl, rfl, rfl⟩
      next none =>
        have hand : x.hand = Option.none := by simpa using none
        refine ⟨?_, hand, rfl⟩
        by_contra busy
        obtain ⟨-, d, held⟩ := fits.busy busy
        simp [held] at hand
    unfold Head.jogEnded
    split <;> exact dose
  obtain ⟨idle, hand, fault⟩ := ended
  have jog := jogEnded_jog (x.doseEnded .driveFault)
  generalize (x.doseEnded .driveFault).jogEnded = y at *
  exact .ofQuiet (by simp [Head.becomeFaulted, Head.quiet, Head.emitting, idle, jog]) rfl rfl rfl
    ⟨by simp [Head.becomeFaulted, Head.quiet, hand, idle], by simp [Head.becomeFaulted, Head.quiet, jog], nofun, nofun,
      by simp [Head.becomeFaulted, Head.quiet, Debouncer.settle, fault, active], fun _ => idle⟩ (by simp [Head.becomeFaulted])
    (.ofNone hand jog) fun _ => ⟨hand, jog⟩

/-- A drive fault clears on a head that is FAULTED (R77). -/
theorem faultClears (fits : x.Fits covered permission fitted runs pulses) (active : x.fault.state = true)
    (clear : x.fault.raw = false) : ({ x with
      fault := x.fault.settle
      production := if x.production = .faulted then (if covered then .out else .inProduction) else x.production } : Head).Fits
      covered permission fitted runs pulses := by
  have faulted := fits.stands.faulted.mpr active
  have idle := fits.stands.faultIdle faulted
  have jog : x.jog = none := by
    by_contra jogs
    have out := (fits.stands.jogs (Option.isSome_iff_ne_none.mpr jogs)).2
    simp [faulted] at out
  have silent : x.emitting = false := by simp [Head.emitting, idle, jog]
  rw [if_pos faulted]
  refine .ofQuiet (by simpa [Head.emitting] using silent) (fits.drives.enable.trans silent) (fits.drives.stopped.mpr silent)
    (fits.pulse_low silent) ⟨fits.stands.hand, by simp [jog], ?_, fun _ => idle, ?_, fun _ => idle⟩ ?_
    (.ofNone (fits.stands.noHand idle) jog) fits.still
  · simp only
    split <;> simp
  · simp only [Debouncer.settle, clear]
    split <;> simp
  · simp only
    cases covered <;> simp

/-- A drive fault input moves, its debounced state staying (R32, R98). -/
theorem faultMoves (fits : x.Fits covered permission fitted runs pulses) {d : Debouncer} (same : d.state = x.fault.state) :
    ({ x with fault := d } : Head).Fits covered permission fitted runs pulses :=
  ⟨(Head.sound_iff _).mpr ⟨⟨fits.drives.enable, fits.drives.stopped, fits.drives.paused, fits.drives.pulse⟩,
      fits.stands.keep rfl Iff.rfl rfl rfl same⟩, fits.covering, fits.driven,
    ⟨fits.counts.waiting, fits.counts.running, fits.counts.settling, fits.counts.jog, fits.counts.meter⟩, fits.still⟩

/-- A local microsecond passes (R5, R76). -/
theorem tick (fits : x.Fits covered permission fitted runs pulses) (ready meter : Bool) :
    (x.tick ready meter).Fits covered permission fitted runs pulses := by
  have hand : (x.tick ready meter).hand.isSome = x.hand.isSome := by simp [Head.tick]
  have before (d : DoseInHand) (held : (x.tick ready meter).hand = some d) :
      ∃ e, x.hand = some e ∧ d.emitted = e.emitted ∧ d.meter = e.meter := by
    obtain ⟨e, is, rfl⟩ := Option.map_eq_some_iff.mp held
    exact ⟨e, is, rfl, rfl⟩
  have train : ((x.tick ready meter).train = .stopped ↔ x.train = .stopped) ∧
      ((x.tick ready meter).train = .paused ↔ x.train = .paused) ∧
      ((∃ n, (x.tick ready meter).train = .high n) ↔ ∃ n, x.train = .high n) := by
    simp only [Head.tick]
    cases x.train <;> simp [Train.tick]
  obtain ⟨stopped, paused, high⟩ := train
  refine ⟨(Head.sound_iff _).mpr ⟨⟨fits.drives.enable, stopped.trans fits.drives.stopped, fun emits =>
      paused.trans (fits.drives.paused emits), fits.drives.pulse.trans high.symm⟩, fits.stands.keep hand Iff.rfl rfl rfl rfl⟩,
    fits.covering, fits.driven, ⟨fun d held waits => ?_, fun d held running => ?_, fun d held settles => ?_, fits.counts.jog,
      fun d held => ?_⟩, fun stop => ?_⟩
  · obtain ⟨e, is, emitted, meters⟩ := before d held
    rw [emitted, meters]
    exact fits.counts.waiting e is waits
  · obtain ⟨e, is, emitted, -⟩ := before d held
    exact emitted ▸ fits.counts.running e is running
  · obtain ⟨e, is, emitted, -⟩ := before d held
    exact emitted ▸ fits.counts.settling e is settles
  · obtain ⟨e, is, -, meters⟩ := before d held
    exact meters ▸ fits.counts.meter e is
  · obtain ⟨none, noJog⟩ := fits.still stop
    exact ⟨by simp [Head.tick, none], noJog⟩

/-- A head with nothing in hand fits whatever its dose is made of and whether it is fitted or not. -/
theorem ofStill (fits : x.Fits covered permission fitted false pulses) (permission' fitted' runs' : Bool) (pulses' : Nat) :
    x.Fits covered permission' fitted' runs' pulses' := by
  obtain ⟨hand, jog⟩ := fits.still rfl
  have idle : x.dose = .idle := by
    by_contra busy
    obtain ⟨-, d, held⟩ := fits.busy busy
    simp [held] at hand
  exact ⟨fits.sound, fits.covering, fun emits => by simp [Head.emitting, idle, jog] at emits, .ofNone hand jog,
    fun _ => ⟨hand, jog⟩⟩

/-- A head at its reset values (R79). -/
theorem atReset (raw ready meter permission fitted runs : Bool) (pulses : Nat) :
    (Head.atReset raw ready meter).Fits false permission fitted runs pulses :=
  .ofQuiet (by rfl) rfl rfl rfl ⟨by simp [Head.atReset], nofun, nofun, nofun, by simp [Head.atReset, Debouncer.start], nofun⟩
    (by simp [Head.atReset]) (.ofNone rfl rfl) fun _ => ⟨rfl, rfl⟩

end Head.Fits

end

end Sys2Proof.Machine

/-! PROOFS of what every command keeps, fifth part: the Grant Table and the heads together (R77, R136 to R149). -/

namespace Sys2Proof.Machine

/-! ## The Grant Table (R141, R142, R144) -/

/-- A grant but for its holder, its times and what it has sent. -/
def Grant.key (g : Grant) : Nat × Level × HeadSet := (g.number, g.level, g.heads)

/-- The Access Unit but for the holders, the times and what the grants have sent. -/
def Access.kept (a : Access) : List (Nat × Level × HeadSet) × Option LockMode × Bool × Nat :=
  (a.grants.map Grant.key, a.lockMode, a.heldLock, a.nextGrant)

/-- What is kept of the Access Unit does not depend on what the grants have sent. -/
theorem Access.kept_of_unsent {a b : Access} (same : a.unsent = b.unsent) : a.kept = b.kept := by
  have reads (c : Access) : c.kept = c.unsent.kept := by
    simp only [Access.kept, Access.unsent, List.map_map]
    rfl
  rw [reads, reads b, same]

/-- What is sound about the Grant Table is a matter of numbers, levels, heads and modes. -/
theorem State.grantsSound_iff (s : State) : s.GrantsSound ↔
    s.access.kept.1.length ≤ 4 ∧
    (s.access.kept.1.Pairwise fun g k => g.2.2 &&& k.2.2 = 0 ∧ ¬(g.2.1 = .door ∧ k.2.1 = .door) ∧ g.1 ≠ k.1) ∧
    (s.access.kept.1.Pairwise fun g k => g.1 < k.1) ∧ (∀ g ∈ s.access.kept.1, 1 ≤ g.1 ∧ g.1 ≤ 255) ∧
    (1 ≤ s.access.kept.2.2.2 ∧ s.access.kept.2.2.2 ≤ 255) ∧
    (s.access.kept.2.1 = some .held ∨ s.access.kept.2.1 = some .fixed → s.access.kept.1 = []) ∧
    (s.running = false → s.access.kept.1 = []) ∧ (s.access.kept.2.1 = some .held → s.access.kept.2.2.1 = true) := by
  simp only [Access.kept, List.length_map, List.pairwise_map, List.forall_mem_map, List.map_eq_nil_iff]
  exact ⟨fun g => ⟨g.capacity, g.apart, g.ascending, g.numbers, g.next, g.locked, g.outside, g.held⟩,
    fun ⟨capacity, apart, ascending, numbers, next, locked, outside, held⟩ =>
      ⟨capacity, apart, ascending, numbers, next, locked, outside, held⟩⟩

section
variable {s t : State}

/-- The Grant Table stays sound while numbers, levels, heads and modes stay. -/
theorem State.GrantsSound.congr (sound : s.GrantsSound) (kept : t.access.kept = s.access.kept) (runs : t.running = s.running) :
    t.GrantsSound := by
  rw [State.grantsSound_iff, kept, runs, ← State.grantsSound_iff]
  exact sound

/-- The Grant Table stays sound where some grants leave it. -/
theorem State.GrantsSound.filter (sound : s.GrantsSound) {p : Grant → Bool}
    (access : t.access = { s.access with grants := s.access.grants.filter p }) (runs : t.running = s.running) : t.GrantsSound := by
  have grants : t.access.grants = s.access.grants.filter p := by rw [access]
  have within : (s.access.grants.filter p).Sublist s.access.grants := List.filter_sublist
  refine ⟨grants ▸ within.length_le.trans sound.capacity, grants ▸ sound.apart.sublist within, grants ▸ sound.ascending.sublist within,
    fun g listed => sound.numbers g (within.subset (grants ▸ listed)), ?_, fun locked => ?_, fun stopped => ?_, ?_⟩
  · rw [access]
    exact sound.next
  · rw [access] at locked
    rw [grants, sound.locked locked, List.filter_nil]
  · rw [grants, sound.outside (runs ▸ stopped), List.filter_nil]
  · rw [access]
    exact sound.held

/-- Where no grant stands the Grant Table is sound, its next number being in range and the held-lock flag set in HELD. -/
theorem State.GrantsSound.ofNone (none : s.access.grants = []) (next : 1 ≤ s.access.nextGrant ∧ s.access.nextGrant ≤ 255)
    (held : s.access.lockMode = some .held → s.access.heldLock = true) : s.GrantsSound := by
  refine ⟨?_, ?_, ?_, ?_, next, fun _ => none, fun _ => none, held⟩ <;> simp [none]

/-- The heads that grants cover are a matter of their keys. -/
theorem State.covered_congr (kept : t.access.kept = s.access.kept) (h : Nat) : t.covered h = s.covered h := by
  have reads (u : State) : u.covered h = u.access.kept.1.any fun g => inSet g.2.2 h := by
    simp only [State.covered, Access.kept, List.any_map]
    rfl
  rw [reads, reads s, kept]

/-- The heads that a grant names are a matter of its key. -/
theorem State.granted_congr (kept : t.access.kept = s.access.kept) {P : HeadSet → Prop} (each : ∀ g ∈ s.access.grants, P g.heads) :
    ∀ g ∈ t.access.grants, P g.heads := by
  have reads (u : State) : (∀ g ∈ u.access.grants, P g.heads) ↔ ∀ g ∈ u.access.kept.1, P g.2.2 := by
    simp only [Access.kept, List.forall_mem_map]
    rfl
  rw [reads, kept, ← reads]
  exact each

/-! ## The heads under the Grant Table -/

/-- A head fits the grants, run permission and the configuration. -/
def State.FitsAt (s : State) (h : Nat) : Prop :=
  (s.head h).Fits (s.covered h) s.cabinet.permission (s.fitted h) s.running s.cfg.dosing.pulses

/-- What every command keeps of the Access Unit and the heads. -/
structure State.Driving (s : State) : Prop where
  heads : s.heads.length = 8
  grants : s.GrantsSound
  granted : ∀ g ∈ s.access.grants, ∀ h, inSet g.heads h = true → s.fitted h = true
  pulses : ∀ r, s.loader.record = some r → 1 ≤ r.dosing.pulses
  each : ∀ h, h < 8 → s.FitsAt h

/-- A head of the table. -/
theorem State.head_mem (eight : s.heads.length = 8) {x : Head} (listed : x ∈ s.heads) : ∃ h, h < 8 ∧ s.head h = x := by
  obtain ⟨h, inside, rfl⟩ := List.mem_iff_getElem.mp listed
  exact ⟨h, by omega, List.getD_eq_getElem _ _ inside⟩

/-- A sound state keeps its Access Unit and its heads. -/
theorem State.Sound.driving (sound : s.Sound) : s.Driving := by
  refine ⟨sound.bounded.heads, sound.grants, sound.drive.granted, sound.targets.pulses, fun h inside => ?_⟩
  refine ⟨sound.heads.each h inside, sound.heads.covering h inside, sound.drive.driven h inside, sound.targets.each h inside,
    fun stopped => sound.quiet.heads stopped _ ?_⟩
  rw [State.head, List.getD_eq_getElem _ _ (by rw [sound.bounded.heads]; exact inside)]
  exact List.getElem_mem _

namespace State.Driving

/-- The sound heads of a state that keeps them. -/
theorem headsSound (driving : s.Driving) : s.HeadsSound :=
  ⟨fun h inside => (driving.each h inside).sound, fun h inside => (driving.each h inside).covering⟩

/-- The safety of the drives of a state that keeps them. -/
theorem driveSafe (driving : s.Driving) : s.DriveSafe := ⟨fun h inside => (driving.each h inside).driven, driving.granted⟩

/-- The targets of a state that keeps them. -/
theorem targetsSound (driving : s.Driving) : s.TargetsSound := ⟨driving.pulses, fun h inside => (driving.each h inside).counts⟩

/-- Outside RUNNING nothing is in hand. -/
theorem still (driving : s.Driving) (stopped : s.running = false) : ∀ x ∈ s.heads, x.hand = none ∧ x.jog = none := by
  intro x listed
  obtain ⟨h, inside, rfl⟩ := State.head_mem driving.heads listed
  exact (driving.each h inside).still stopped

/-- The configuration that a head fits, in a state of the same configuration and station. -/
theorem fits_congr {h : Nat} (station : t.loader.station = s.loader.station) (record : t.loader.record = s.loader.record) :
    t.fitted h = s.fitted h ∧ t.running = s.running ∧ t.cfg.dosing.pulses = s.cfg.dosing.pulses := by
  have cfg := State.cfg_congr record
  refine ⟨by rw [State.fitted, cfg]; rfl, by rw [State.running, station]; rfl, by rw [cfg]⟩

/-- What is kept stays while the heads change one by one, each fitting what it fitted. -/
theorem atEach (driving : s.Driving) {f : Nat → Head → Head} (heads : t.heads = s.heads.mapIdx f)
    (kept : t.access.kept = s.access.kept) (station : t.loader.station = s.loader.station)
    (record : t.loader.record = s.loader.record)
    (each : ∀ h, h < 8 → s.FitsAt h → (f h (s.head h)).Fits (s.covered h) t.cabinet.permission (s.fitted h) s.running
      s.cfg.dosing.pulses) : t.Driving := by
  obtain ⟨-, runs, pulses⟩ := fits_congr (h := 0) station record
  have fitted (h : Nat) : t.fitted h = s.fitted h := (fits_congr station record).1
  refine ⟨by rw [heads, List.length_mapIdx, driving.heads], driving.grants.congr kept runs, ?_, record ▸ driving.pulses,
    fun h inside => ?_⟩
  · exact State.granted_congr (P := fun set => ∀ h, inSet set h = true → t.fitted h = true) kept fun g listed h held => (fitted h).trans (driving.granted g listed h held)
  · rw [State.FitsAt, State.head_mapIdx heads (by rw [driving.heads]; exact inside), State.covered_congr kept, fitted, runs, pulses]
    exact each h inside (driving.each h inside)

/-- What is kept stays while one head changes and fits what it fitted. -/
theorem atHead (driving : s.Driving) {h : Nat} {f : Head → Head} (heads : t.heads = s.heads.modify h f)
    (kept : t.access.kept = s.access.kept) (permission : t.cabinet.permission = s.cabinet.permission)
    (station : t.loader.station = s.loader.station) (record : t.loader.record = s.loader.record)
    (fits : h < 8 → s.FitsAt h → (f (s.head h)).Fits (s.covered h) s.cabinet.permission (s.fitted h) s.running s.cfg.dosing.pulses) :
    t.Driving := by
  have mapped : t.heads = s.heads.mapIdx fun i x => if h = i then f x else x := by
    rw [heads]
    exact List.ext_getElem (by simp) fun i _ _ => by simp [List.getElem_modify]
  refine driving.atEach mapped kept station record fun i inside old => ?_
  rw [permission]
  split
  next here =>
    subst here
    exact fits inside old
  · exact old

/-- What is kept of the Access Unit and the heads depends on these, run permission, the station and the configuration alone. -/
theorem congr (driving : s.Driving) (heads : t.heads = s.heads) (kept : t.access.kept = s.access.kept)
    (permission : t.cabinet.permission = s.cabinet.permission) (station : t.loader.station = s.loader.station)
    (record : t.loader.record = s.loader.record) : t.Driving :=
  driving.atHead (h := 0) (f := fun x => x) (by rw [heads, modify_same]) kept permission station record fun _ fits => fits

end State.Driving

/-! ## Run permission and the heads (R44, R89, R90, R97) -/

/-- A head that is not fitted emits nothing. -/
theorem State.FitsAt.unfitted {h : Nat} (fits : s.FitsAt h) (loose : s.fitted h = false) : (s.head h).emitting = false := by
  by_contra emits
  have fitted := (fits.driven (by simpa using emits)).2
  simp [loose] at fitted

namespace State.Driving

/-- A rise of run permission (R44, R90). -/
theorem permissionRises (driving : s.Driving) : s.permissionRises.Driving := by
  have cabinet : s.permissionRises.cabinet.permission = true := by simp [State.permissionRises_eq, State.announce_eq]
  have loader : s.permissionRises.loader.station = s.loader.station ∧ s.permissionRises.loader.record = s.loader.record := by
    simp [State.permissionRises_eq, State.announce_eq]
  refine driving.atEach (State.permissionRises_heads s) (by simp) loader.1 loader.2 fun h inside fits => ?_
  rw [cabinet]
  split
  next fitted =>
    have is : s.fitted h = true := by simpa [State.fitted] using fitted
    have old : (s.head h).Fits (s.covered h) s.cabinet.permission true s.running s.cfg.dosing.pulses := is ▸ fits
    rw [is]
    exact old.gains
  next loose => exact fits.silent (fits.unfitted (by simpa [State.fitted] using loose)) true

/-- A fall of run permission (R44, R89, R97). -/
theorem permissionFalls (driving : s.Driving) : s.permissionFalls.Driving := by
  have unsent : s.permissionFalls.access.unsent = s.access.unsent := by
    rw [State.permissionFalls, State.forHeads_keeps (·.access.unsent) _ fun h u => State.permissionLost_unsent u h]
    simp
  obtain ⟨cabinet, loader⟩ := State.permissionFalls_rest s
  refine driving.atEach (State.permissionFalls_heads s) (Access.kept_of_unsent unsent) (by rw [loader]) (by rw [loader])
    fun h inside fits => ?_
  rw [cabinet]
  split
  · exact fits.loses _ false
  next loose => exact fits.silent (fits.unfitted (by simpa [State.fitted] using loose)) false

/-- Run permission following its conditions (R44). -/
theorem followConditions (driving : s.Driving) : s.followConditions.Driving := by
  unfold State.followConditions
  split
  · split
    · exact driving
    · split
      · exact driving.permissionRises
      · exact driving.congr rfl rfl rfl rfl rfl
  · split
    · exact driving.permissionFalls
    · exact driving.congr rfl rfl rfl rfl rfl

/-! ## Doses and jogs (R82 to R99) -/

/-- The end of a dose other than by a drive fault (R94). -/
theorem endDose (driving : s.Driving) (h : Nat) {result : FillResult} (ordinary : result ≠ .driveFault) (meter : Nat) :
    (s.endDose h result meter).Driving := by
  have frame := State.endDose_frame s h result meter
  obtain ⟨loader, -, -, cabinet, -⟩ := frame
  exact driving.atHead (State.endDose_heads s h result meter) (Access.kept_of_unsent (State.endDose_unsent s h result meter))
    (by rw [cabinet]) (by rw [loader]) (by rw [loader]) fun _ fits => fits.doseEnded ordinary

/-- The end of a jog (R97). -/
theorem endJog (driving : s.Driving) (h : Nat) (cause : JogCause) : (s.endJog h cause).Driving := by
  have frame := State.endJog_frame s h cause
  obtain ⟨loader, -, -, cabinet, -, -, -, -, access, -⟩ := frame
  exact driving.atHead (State.endJog_heads s h cause) (by rw [access]) (by rw [cabinet]) (by rw [loader]) (by rw [loader])
    fun _ fits => fits.jogEnded

/-- A change of one head that leaves it fitting. -/
theorem setHead (driving : s.Driving) (h : Nat) {f : Head → Head}
    (fits : h < 8 → s.FitsAt h → (f (s.head h)).Fits (s.covered h) s.cabinet.permission (s.fitted h) s.running s.cfg.dosing.pulses) :
    (s.setHead h f).Driving :=
  driving.atHead rfl rfl rfl rfl rfl fits

/-- The pulses of a dose are at least one where a head is fitted (R192). -/
theorem one_le_pulses (driving : s.Driving) {h : Nat} (fitted : s.fitted h = true) : 1 ≤ s.cfg.dosing.pulses := by
  cases record : s.loader.record with
  | some r =>
    have cfg : s.cfg = r := by rw [State.cfg, record]; rfl
    exact cfg ▸ driving.pulses r record
  | none =>
    have cfg : s.cfg = ConfigRecord.empty := by rw [State.cfg, record]; rfl
    rw [State.fitted, cfg] at fitted
    exact absurd fitted (by simp [ConfigRecord.empty])

/-- A dose starts (R84, R85). -/
theorem startDose (driving : s.Driving) {h : Nat} (due : s.doseStartDue h = true) : (s.startDose h).Driving := by
  obtain ⟨⟨runs, inFitted⟩, waits, -⟩ := (State.doseStartDue_iff s h).mp due
  have fitted : s.fitted h = true := decide_eq_true inFitted
  unfold State.startDose
  split
  next up =>
    refine driving.setHead h fun inside fits => ?_
    have old : (s.head h).Fits (s.covered h) true true s.running s.cfg.dosing.pulses := by
      rw [State.FitsAt, up, fitted] at fits
      exact fits
    rw [up, fitted]
    exact old.enterRun waits (driving.one_le_pulses fitted)
  · exact driving.endDose h (by simp) 0

/-- A pulse of a dose (R86, R91). -/
theorem dosePulse (driving : s.Driving) {h n : Nat} (running : (s.head h).dose = .run) (high : (s.head h).train = .high n)
    {d : DoseInHand} (held : (s.head h).hand = some d) : (s.dosePulse h d).Driving := by
  unfold State.dosePulse
  split
  next last => exact driving.setHead h fun _ fits => fits.enterSettle running held last
  next more => exact driving.setHead h fun _ fits => fits.pulseCounted running held (by omega) (by simp [high])

/-- What a jog's pulse changes is gone with the jog (R97). -/
theorem jogEmits_jogEnded {x : Head} {j : JogInHand} (jog : x.jog = some j) : (x.jogEmits j).jogEnded = x.jogEnded := by
  simp [Head.jogEnded, Head.jogEmits, Head.quiet, jog]

/-- A pulse of a jog, and its end (R96, R97). -/
theorem endJog_jogEmits (driving : s.Driving) (h : Nat) {j : JogInHand} (jog : (s.head h).jog = some j) (cause : JogCause) :
    ((s.setHead h fun x => x.jogEmits j).endJog h cause).Driving := by
  obtain ⟨loader, -, -, cabinet, -, -, -, -, access, -⟩ := State.endJog_frame (s.setHead h fun x => x.jogEmits j) h cause
  refine driving.atHead (h := h) (f := Head.jogEnded) ?_ (by rw [access]; rfl) (by rw [cabinet]; rfl) (by rw [loader]; rfl)
    (by rw [loader]; rfl) fun _ fits => fits.jogEnded
  rw [State.endJog_heads]
  refine (congrArg State.heads (State.setHead_setHead s h _ Head.jogEnded)).trans (State.modify_head_congr ?_)
  exact jogEmits_jogEnded jog

/-- A pulse of a jog (R96, R97). -/
theorem jogPulse (driving : s.Driving) {h n : Nat} {j : JogInHand} (jog : (s.head h).jog = some j) (high : (s.head h).train = .high n) :
    (s.jogPulse h j).Driving := by
  unfold State.jogPulse
  simp only
  split
  · exact driving.endJog_jogEmits h jog _
  next more => exact driving.setHead h fun _ fits => fits.jogEmits jog (by omega) (by simp [high])

/-- A pulse is emitted (R86, R91, R96, R97). -/
theorem emitPulse (driving : s.Driving) {h : Nat} (done : s.highPhaseOver h = true) : (s.emitPulse h).Driving := by
  obtain ⟨-, emits, n, high, -⟩ := (State.highPhaseOver_iff s h).mp done
  unfold State.emitPulse
  cases jog : (s.head h).jog with
  | some j => exact driving.jogPulse jog high
  | none =>
    cases held : (s.head h).hand with
    | some d => exact driving.dosePulse (emits.resolve_right (by simp [jog])) high held
    | none => exact driving

end State.Driving

/-! ## The end of a grant (R77, R149) -/

/-- Two sets of heads with none in common hold no head together. -/
theorem inSet_disjoint {a b : HeadSet} (none : a &&& b = 0) {h : Nat} (held : inSet a h = true) : inSet b h = false := by
  have both : (a &&& b).getLsbD h = false := by rw [none]; simp
  rw [BitVec.getLsbD_and] at both
  unfold inSet at *
  simpa [held] using both

/-- The heads covered once a grant has left the table: those of the others, which share none with it (R144). -/
theorem State.covered_without (sound : s.GrantsSound) {g : Grant} (listed : g ∈ s.access.grants)
    (grants : t.access.grants = s.access.grants.filter fun x => x.number != g.number) (h : Nat) :
    t.covered h = (s.covered h && !inSet g.heads h) := by
  have disjoint : s.access.grants.Pairwise fun x y => x.heads &&& y.heads = 0 := sound.apart.imp fun apart => apart.1
  have apart : ∀ k ∈ s.access.grants, k.number ≠ g.number → g.heads &&& k.heads = 0 := by
    intro k held other
    by_contra shared
    exact other (congrArg Grant.number (pairwise_eq disjoint held listed (by rwa [BitVec.and_comm]) shared))
  rw [Bool.eq_iff_iff]
  simp only [State.covered, grants, List.any_eq_true, List.mem_filter, bne_iff_ne, Bool.and_eq_true, Bool.not_eq_true']
  constructor
  · rintro ⟨k, ⟨held, other⟩, has⟩
    refine ⟨⟨k, held, has⟩, ?_⟩
    by_contra both
    have := inSet_disjoint (apart k held other) (by simpa using both)
    simp [has] at this
  · rintro ⟨⟨k, held, has⟩, loose⟩
    refine ⟨k, ⟨held, fun same => ?_⟩, has⟩
    rw [grant_unique sound.ascending held listed same, loose] at has
    cases has

/-- The heads after the end of a grant (R77, R97, R149). -/
theorem State.endGrant_heads (g : Grant) (reason : EndReason) : (s.endGrant g reason).heads =
    s.heads.mapIdx fun i x => if i < 8 then (if inSet g.heads i then x.jogEnded.grantEnds else x) else x := by
  have plain : (s.endGrant g reason).heads =
      (((s.endJogsOn g.heads .grantEnded).removeGrant g.number).atHeads g.heads Head.grantEnds).heads := by
    unfold State.endGrant
    simp only
    split <;> simp
  rw [plain, State.atHeads_heads, State.removeGrant]
  simp only [State.endJogsOn_heads, List.mapIdx_mapIdx]
  congr 1
  funext i x
  simp only [Function.comp]
  split
  · split <;> rfl
  · rfl

namespace State.Driving

/-- The end of a grant (R77, R149). -/
theorem endGrant (driving : s.Driving) {g : Grant} (listed : g ∈ s.access.grants) (reason : EndReason) :
    (s.endGrant g reason).Driving := by
  have frame := State.endGrant_frame s g reason
  obtain ⟨loader, -, -, cabinet, -⟩ := frame
  have access := State.endGrant_access s g reason
  have grants : (s.endGrant g reason).access.grants = s.access.grants.filter fun x => x.number != g.number := by rw [access]
  obtain ⟨-, runs, pulses⟩ := fits_congr (h := 0) (congrArg Loader.station loader) (congrArg Loader.record loader)
  have fitted (h : Nat) : (s.endGrant g reason).fitted h = s.fitted h :=
    (fits_congr (congrArg Loader.station loader) (congrArg Loader.record loader)).1
  have heads := State.endGrant_heads (s := s) g reason
  refine ⟨by rw [heads, List.length_mapIdx, driving.heads], driving.grants.filter access runs, ?_, loader ▸ driving.pulses,
    fun h inside => ?_⟩
  · intro k held h has
    exact (fitted h).trans (driving.granted k (List.mem_filter.mp (grants ▸ held)).1 h has)
  · have fits := driving.each h inside
    rw [State.FitsAt, State.head_mapIdx heads (by rw [driving.heads]; exact inside), if_pos inside,
      State.covered_without driving.grants listed grants, fitted, runs, pulses, cabinet]
    cases has : inSet g.heads h with
    | true =>
      have jogless := fits.jogEnded
      simpa using jogless.grantEnds (Head.Fits.jogEnded_jog _)
    | false => simpa [State.FitsAt] using fits

/-- The end of every grant (R136, R138). -/
theorem endAllGrants (driving : s.Driving) (reason : EndReason) : (s.endAllGrants reason).Driving := by
  have each (gs : List Grant) : ∀ u : State, u.Driving → u.access.grants = gs →
      (gs.foldl (fun u g => u.endGrant g reason) u).Driving := by
    induction gs with
    | nil => exact fun u kept _ => kept
    | cons g gs ih =>
      intro u kept is
      have listed : g ∈ u.access.grants := is ▸ List.mem_cons_self
      refine ih _ (kept.endGrant listed reason) ?_
      have ascending := kept.grants.ascending
      rw [State.endGrant_access, is]
      rw [is, List.pairwise_cons] at ascending
      have others : gs.filter (fun x => x.number != g.number) = gs :=
        List.filter_eq_self.mpr fun x held => by simpa using Nat.ne_of_gt (ascending.1 x held)
      simp [others]
  exact each _ s driving rfl

/-- Entry to HELD (R136, R137). -/
theorem enterHeld (driving : s.Driving) (detail : Byte) : (s.enterHeld detail).Driving := by
  unfold State.enterHeld
  split
  · exact driving
  · have ended := driving.endAllGrants .locked
    have none : (s.endAllGrants .locked).access.grants = [] := by rw [State.endAllGrants_access]
    exact ⟨ended.heads, .ofNone none ended.grants.next fun _ => rfl, ended.granted, ended.pulses, ended.each⟩

/-- A door opening judged (R153). -/
theorem judgeDoorOpen (driving : s.Driving) : s.judgeDoorOpen.Driving := by
  have plain {u : State} (kept : u.Driving) (e : EventSource) (detail : Byte) : (u.occur e detail).Driving :=
    kept.congr rfl rfl rfl rfl rfl
  unfold State.judgeDoorOpen
  split
  · exact driving
  · simp only
    split
    · exact plain (driving.enterHeld 0) _ _
    · exact plain driving _ _

/-- A reply is handed over (R155). -/
theorem reply (driving : s.Driving) (dest : Byte) (reply : Reply) : (s.reply dest reply).Driving :=
  driving.congr (by simp) (by simp) (by simp) (by simp) (by simp)

/-- The release of a grant (R148). -/
theorem releaseGrant (driving : s.Driving) (src number : Byte) : (s.releaseGrant src number).Driving := by
  unfold State.releaseGrant
  cases found : s.grantNumbered number.toNat with
  | none => exact driving.reply _ _
  | some g =>
    simp only
    split
    · exact driving.endGrant (List.mem_of_find?_eq_some found) _
    · exact driving.reply _ _

/-- The expiry of a grant (R150). -/
theorem expireGrant (driving : s.Driving) (number : Nat) : (s.expireGrant number).Driving := by
  unfold State.expireGrant
  cases found : s.expiringGrant with
  | none => exact driving
  | some g =>
    simp only
    split
    · exact driving.endGrant (List.mem_of_find?_eq_some found) _
    · exact driving

/-- LCK (R139). -/
theorem lockOut (driving : s.Driving) (src : Byte) : (s.lockOut src).Driving := by
  unfold State.lockOut
  split
  · exact (driving.enterHeld src).reply _ _
  · exact driving.congr rfl rfl rfl rfl rfl

end State.Driving

end

end Sys2Proof.Machine

/-! PROOFS of what every command keeps, sixth part: ARQ, JOG, the drive faults, new doses and local microseconds at the heads
(R77, R82, R83, R98, R142 to R151). -/

namespace Sys2Proof.Machine

section
variable {s t : State}

/-! ## ARQ (R142, R144, R147) -/

/-- A new grant makes the table one longer. -/
theorem insertByNumber_length (g : Grant) (grants : List Grant) : (insertByNumber g grants).length = grants.length + 1 := by
  induction grants with
  | nil => rfl
  | cons x rest ih =>
    unfold insertByNumber
    split <;> simp [ih]

/-- The grants after a new one: those of before and the new one. -/
theorem mem_insertByNumber (g k : Grant) (grants : List Grant) : k ∈ insertByNumber g grants ↔ k = g ∨ k ∈ grants := by
  induction grants with
  | nil => simp [insertByNumber]
  | cons x rest ih =>
    unfold insertByNumber
    split
    · simp
    · simp only [List.mem_cons, ih]
      tauto

/-- A grant that no other one overlaps, under a number of its own, takes its place in a sound table (R144). -/
theorem State.GrantsSound.insert (sound : s.GrantsSound) (runs : s.running = true) {g : Grant} {next : Nat}
    (room : s.access.grants.length < 4) (open_ : s.access.lockMode ≠ some .held ∧ s.access.lockMode ≠ some .fixed)
    (apart : ∀ k ∈ s.access.grants, Grant.Apart g k ∧ Grant.Apart k g) (number : 1 ≤ g.number ∧ g.number ≤ 255)
    (range : 1 ≤ next ∧ next ≤ 255) :
    ({ s with access := { s.access with grants := insertByNumber g s.access.grants, nextGrant := next } } : State).GrantsSound := by
  have split := insertByNumber_eq_filter g sound.ascending fun k held => (apart k held).2.2.2
  refine ⟨?_, ?_, ?_, fun k held => ?_, range, fun locked => ?_, fun stopped => absurd (runs.symm.trans stopped) (by simp), sound.held⟩
  · show (insertByNumber g s.access.grants).length ≤ 4
    rw [insertByNumber_length]
    omega
  · show (insertByNumber g s.access.grants).Pairwise Grant.Apart
    rw [split]
    refine List.pairwise_append.mpr ⟨sound.apart.filter _, List.pairwise_cons.mpr ⟨fun k high => (apart k (List.mem_filter.mp high).1).1,
      sound.apart.filter _⟩, fun x low y here => ?_⟩
    rcases List.mem_cons.mp here with rfl | high
    · exact (apart x (List.mem_filter.mp low).1).2
    · obtain ⟨heldX, less⟩ := List.mem_filter.mp low
      obtain ⟨heldY, more⟩ := List.mem_filter.mp high
      have symmetric : ∀ {a b : Grant}, Grant.Apart a b → Grant.Apart b a := fun {a b} ab =>
        ⟨by rw [BitVec.and_comm]; exact ab.1, fun both => ab.2.1 both.symm, ab.2.2.symm⟩
      simp only [decide_eq_true_eq] at less more
      by_contra near
      have same := pairwise_eq sound.apart heldX heldY near (fun yx => near (symmetric yx))
      rw [same] at less
      omega
  · show (insertByNumber g s.access.grants).Pairwise fun g k => g.number < k.number
    rw [split]
    refine List.pairwise_append.mpr ⟨sound.ascending.filter _, List.pairwise_cons.mpr ⟨fun k high => ?_, sound.ascending.filter _⟩,
      fun x low y here => ?_⟩
    · simpa using (List.mem_filter.mp high).2
    · have less : x.number < g.number := by simpa using (List.mem_filter.mp low).2
      rcases List.mem_cons.mp here with rfl | high
      · exact less
      · have more : g.number < y.number := by simpa using (List.mem_filter.mp high).2
        omega
  · rcases (mem_insertByNumber g k _).mp held with rfl | old
    · exact number
    · exact sound.numbers k old
  · exact absurd locked (not_or.mpr open_)

namespace State.Driving

/-- A change of what grants have sent or of their times keeps what is kept. -/
theorem setGrant (driving : s.Driving) (number : Nat) {f : Grant → Grant} (same : ∀ g, (f g).key = g.key) :
    (s.setGrant number f).Driving := by
  refine driving.congr rfl ?_ rfl rfl rfl
  simp only [Access.kept, State.setGrant, List.map_map]
  congr 1
  refine List.map_congr_left fun g _ => ?_
  simp only [Function.comp]
  split
  · exact same g
  · rfl

/-- The steps of R142 before a grant is given. -/
theorem decideAccess_granted {src levelByte span : Byte} {level : Level} {heads : HeadSet}
    (granted : s.decideAccess src levelByte span = .granted level heads) :
    s.lock ≠ .fixed ∧ s.lock ≠ .held ∧ heads = s.requestedHeads level span ∧ s.overlaps level heads = false ∧
      s.access.grants.length < 4 := by
  unfold State.decideAccess at granted
  split at granted
  · cases granted
  next unlocked =>
    split at granted
    · cases granted
    · cases code : readLevel levelByte with
      | none => rw [code] at granted; cases granted
      | some read =>
        rw [code] at granted
        simp only at granted
        split at granted
        · cases granted
        · unfold State.decideSet at granted
          split at granted
          · cases granted
          · cases same : s.grantToExtend src read (s.requestedHeads read span) with
            | some g => rw [same] at granted; cases granted
            | none =>
              rw [same] at granted
              simp only at granted
              split at granted
              · cases granted
              next free =>
                split at granted
                · cases granted
                next room =>
                  cases granted
                  simp only [Bool.or_eq_true, decide_eq_true_eq, not_or] at unlocked
                  exact ⟨unlocked.1, unlocked.2, rfl, by simpa using free, Nat.lt_of_not_le room⟩

/-- The heads of a request are fitted (R140). -/
theorem requestedHeads_fitted {level : Level} {span : Byte} {h : Nat} (held : inSet (s.requestedHeads level span) h = true) :
    s.fitted h = true := by
  unfold State.requestedHeads at held
  split at held
  · simp [inSet] at held
  · rw [inSet, resolveSpan, headSetOf_getLsbD] at held
    simp only [Bool.and_eq_true, decide_eq_true_eq] at held
    exact decide_eq_true held.2.1

/-- A new grant covers its heads, which no grant covered (R77, R144). -/
theorem insertGrant (driving : s.Driving) (runs : s.running = true) {g : Grant} {next : Nat} (room : s.access.grants.length < 4)
    (open_ : s.access.lockMode ≠ some .held ∧ s.access.lockMode ≠ some .fixed) (number : 1 ≤ g.number ∧ g.number ≤ 255)
    (new : ∀ k ∈ s.access.grants, k.number ≠ g.number)
    (clear : ∀ k ∈ s.access.grants, k.heads &&& g.heads = 0 ∧ ¬(g.level = .door ∧ k.level = .door))
    (fits : ∀ h, inSet g.heads h = true → s.fitted h = true) (range : 1 ≤ next ∧ next ≤ 255) :
    (({ s with access := { s.access with grants := insertByNumber g s.access.grants, nextGrant := next } } : State).atHeads g.heads
      Head.grantStarts).Driving := by
  have grants := driving.grants.insert runs room open_ (g := g) (fun k held => by
    obtain ⟨shared, doors⟩ := clear k held
    have other := new k held
    exact ⟨⟨by rw [BitVec.and_comm]; exact shared, doors, Ne.symm other⟩, shared, fun both => doors both.symm, other⟩) number range
  have covers (h : Nat) : ({ s with access := { s.access with
      grants := insertByNumber g s.access.grants, nextGrant := next } } : State).covered h = (s.covered h || inSet g.heads h) := by
    rw [Bool.eq_iff_iff]
    simp only [State.covered, List.any_eq_true, mem_insertByNumber, Bool.or_eq_true]
    constructor
    · rintro ⟨k, rfl | held, has⟩
      · exact .inr has
      · exact .inl ⟨k, held, has⟩
    · rintro (⟨k, held, has⟩ | has)
      · exact ⟨k, .inr held, has⟩
      · exact ⟨g, .inl rfl, has⟩
  generalize entering : ({ s with access := { s.access with grants := insertByNumber g s.access.grants, nextGrant := next } } : State) = u
    at grants covers
  have same : u.heads = s.heads ∧ u.loader = s.loader ∧ u.cabinet = s.cabinet ∧
      u.access.grants = insertByNumber g s.access.grants := by rw [← entering]; exact ⟨rfl, rfl, rfl, rfl⟩
  obtain ⟨sameHeads, sameLoader, sameCabinet, sameGrants⟩ := same
  have changed := State.atHeads_heads u g.heads Head.grantStarts
  obtain ⟨loader, -, -, cabinet, -, -, -, -, access, -⟩ := State.atHeads_frame u g.heads Head.grantStarts
  generalize u.atHeads g.heads Head.grantStarts = v at *
  obtain ⟨-, running, pulses⟩ := fits_congr (h := 0) (congrArg Loader.station (loader.trans sameLoader))
    (congrArg Loader.record (loader.trans sameLoader))
  have fitted (h : Nat) : v.fitted h = s.fitted h :=
    (fits_congr (congrArg Loader.station (loader.trans sameLoader)) (congrArg Loader.record (loader.trans sameLoader))).1
  have head (h : Nat) : u.head h = s.head h := State.head_congr sameHeads h
  refine ⟨by rw [changed, List.length_mapIdx, sameHeads, driving.heads],
    grants.congr (congrArg Access.kept access) (State.running_congr loader), fun k held h has => ?_, fun r is => driving.pulses r ?_,
    fun h inside => ?_⟩
  · rw [fitted]
    rw [access, sameGrants] at held
    rcases (mem_insertByNumber g k _).mp held with rfl | old
    · exact fits h has
    · exact driving.granted k old h has
  · rw [← is, loader, sameLoader]
  · have old := driving.each h inside
    rw [State.FitsAt, State.head_mapIdx changed (by rw [sameHeads, driving.heads]; exact inside), if_pos inside, head,
      State.covered_congr (congrArg Access.kept access), covers, fitted, running, pulses, cabinet, sameCabinet]
    cases has : inSet g.heads h with
    | true =>
      have loose : s.covered h = false := List.any_eq_false.mpr fun k listed => by
        have shared := (clear k listed).1
        rw [BitVec.and_comm] at shared
        simp [inSet_disjoint shared has]
      rw [State.FitsAt, loose] at old
      simpa using old.grantStarts
    | false => simpa [State.FitsAt] using old

/-- A grant is given (R142, R144). -/
theorem giveGrant (driving : s.Driving) (runs : s.running = true) {src levelByte span : Byte} {level : Level} {heads : HeadSet}
    (granted : s.decideAccess src levelByte span = .granted level heads) (seconds : Nat) :
    (s.giveGrant src level heads seconds).Driving := by
  obtain ⟨notFixed, notHeld, requested, free, room⟩ := decideAccess_granted granted
  obtain ⟨tries, first, new, -⟩ := State.newNumber_spec room driving.grants.next
  have range : 1 ≤ s.newNumber ∧ s.newNumber ≤ 255 := by
    rw [first]
    unfold numberFrom
    omega
  have next : 1 ≤ numberAfter s.newNumber ∧ numberAfter s.newNumber ≤ 255 := by
    unfold numberAfter
    split <;> omega
  have clear : ∀ k ∈ s.access.grants, k.heads &&& heads = 0 ∧ ¬(level = .door ∧ k.level = .door) := by
    intro k held
    have none := List.any_eq_false.mp free k held
    simp only [Bool.or_eq_true, bne_iff_ne, Bool.and_eq_true, decide_eq_true_eq, not_or, not_not] at none
    exact none
  have entered := driving.insertGrant (g := ⟨s.newNumber, src.toNat, level, heads, s.now, s.grantEnd seconds, false⟩) runs room
    ⟨fun held => notHeld (State.lock_of held), fun fixed => notFixed (State.lock_of fixed)⟩ range new clear
    (fun h held => requestedHeads_fitted (requested ▸ held)) next
  unfold State.giveGrant
  refine State.Driving.reply ?_ _ _
  exact entered.setGrant _ fun _ => rfl

/-- A grant is extended (R147). -/
theorem extendGrant (driving : s.Driving) (src : Byte) (g : Grant) (seconds : Nat) : (s.extendGrant src g seconds).Driving := by
  unfold State.extendGrant
  refine State.Driving.reply ?_ _ _
  exact driving.setGrant _ fun _ => by simp only [Grant.key]

/-- ARQ (R142). -/
theorem requestAccess (driving : s.Driving) (runs : s.running = true) (src levelByte span : Byte) (seconds : Nat) :
    (s.requestAccess src levelByte span seconds).Driving := by
  unfold State.requestAccess
  cases decided : s.decideAccess src levelByte span with
  | refused code heads => exact driving.reply _ _
  | extended g => exact driving.extendGrant _ _ _
  | granted level heads => exact driving.giveGrant runs decided seconds

/-! ## JOG (R151) -/

/-- The target of a jog that is not of count 0 (R151). -/
theorem jogTarget_bounds {count : Byte} (some_ : count ≠ 0) : 1 ≤ jogTarget count.toNat ∧ jogTarget count.toNat ≤ 65535 := by
  have short := count.isLt
  have positive : count.toNat ≠ 0 := fun zero => some_ (BitVec.eq_of_toNat_eq zero)
  unfold jogTarget
  split <;> omega

/-- JOG (R151). -/
theorem requestJog (driving : s.Driving) (runs : s.running = true) (src head count : Byte) :
    (s.requestJog src head count).Driving := by
  unfold State.requestJog
  split
  · exact driving.reply _ _
  next holds =>
    split
    · exact driving.reply _ _
    next up =>
      split
      · exact driving.reply _ _
      next sound =>
        split
        · exact driving.reply _ _
        next still =>
          unfold State.jogHead
          cases jog : (s.head head.toNat).jog with
          | some j =>
            simp only
            split
            · unfold State.stopJog
              split
              · exact driving.endJog_jogEmits _ jog _
              · exact driving.endJog _ _
            · split
              · exact driving
              · exact driving.reply _ _
          | none =>
            simp only
            split
            · exact driving
            next some_ =>
              obtain ⟨g, listed, -, -, held⟩ := (State.holdsJog_iff s src head).mp (by simpa using holds)
              have fitted := driving.granted g listed _ held
              have up : s.cabinet.permission = true := by simpa using up
              obtain ⟨one, top⟩ := jogTarget_bounds some_
              have replied := driving.reply src (.jogTaken head count)
              obtain ⟨loader, -, -, cabinet, -, heads, -, -, -, access, -⟩ := State.reply_frame s src (.jogTaken head count)
              refine driving.atHead (h := head.toNat) (f := fun x => x.startJog (jogTarget count.toNat) src.toNat) ?_ ?_ ?_ ?_ ?_
                fun inside fits => ?_
              · rw [State.setHead_heads, heads]
              · exact congrArg Access.kept access
              · exact congrArg Cabinet.permission cabinet
              · exact congrArg Loader.station loader
              · exact congrArg Loader.record loader
              · have covered : s.covered head.toNat = true := List.any_eq_true.mpr ⟨g, listed, held⟩
                have out : (s.head head.toNat).production = .out := ((fits.covering sound).mp covered).resolve_left still
                rw [State.FitsAt, runs] at fits
                rw [up, fitted, runs]
                exact fits.startJog out jog one top

end State.Driving

end

end Sys2Proof.Machine

/-! PROOFS of what every command keeps, seventh part: drive faults, new doses, the drive inputs, local microseconds, resets and the
way to RUNNING at the heads (R76, R77, R79, R82, R83, R92, R98). -/

namespace Sys2Proof.Machine

section
variable {s t : State}

namespace State.Driving

/-! ## Drive faults (R77, R98) -/

/-- A drive fault (R98). -/
theorem driveFaults (driving : s.Driving) {h : Nat} (due : s.driveFaultDue h true = true) : (s.driveFaults h).Driving := by
  have active : (s.head h).fault.raw = true := by
    simp only [State.driveFaultDue, Bool.and_eq_true, decide_eq_true_eq] at due
    exact due.2
  have heads : (s.driveFaults h).heads =
      s.heads.modify h fun x => ((x.doseEnded .driveFault).jogEnded).becomeFaulted := by
    have both (u : State) (f g : Head → Head) : (u.heads.modify h f).modify h g = u.heads.modify h fun x => g (f x) :=
      congrArg State.heads (State.setHead_setHead u h f g)
    simp only [State.driveFaults, State.testReady_heads, State.occur_heads, State.setHead_heads, State.endJog_heads,
      State.endDose_heads]
    rw [both, both]
  have unsent : (s.driveFaults h).access.unsent = s.access.unsent := by
    rw [State.driveFaults, State.testReady_unsent]
    simp only [State.occur_access, State.setHead_access, State.endJog_frame]
    exact State.endDose_unsent s h _ _
  obtain ⟨loader, -, -, cabinet, -⟩ := State.driveFaults_frame s h
  exact driving.atHead heads (Access.kept_of_unsent unsent) (congrArg Cabinet.permission cabinet) (congrArg Loader.station loader)
    (congrArg Loader.record loader) fun _ fits => fits.becomeFaulted active

/-- A drive fault clears (R77). -/
theorem driveFaultClears (driving : s.Driving) {h : Nat} (due : s.driveFaultDue h false = true)
    (sound : (s.head h).fault.timer.isSome = true → (s.head h).fault.raw ≠ (s.head h).fault.state) : (s.driveFaultClears h).Driving := by
  simp only [State.driveFaultDue, Bool.and_eq_true, decide_eq_true_eq] at due
  obtain ⟨⟨-, ripe⟩, clear⟩ := due
  obtain ⟨-, n, runs, -⟩ := (Debouncer.due_iff _ _).mp ripe
  have active : (s.head h).fault.state = true := by
    have other := sound (by rw [runs]; rfl)
    rw [clear] at other
    simpa using other.symm
  have heads : (s.driveFaultClears h).heads = s.heads.modify h fun x => { x with
      fault := x.fault.settle
      production := if x.production = .faulted then (if s.covered h then .out else .inProduction) else x.production } := by
    rw [State.driveFaultClears, State.testReady_heads]
    rfl
  have unsent : (s.driveFaultClears h).access.unsent = s.access.unsent := by
    rw [State.driveFaultClears, State.testReady_unsent]
    rfl
  obtain ⟨loader, -, -, cabinet, -⟩ := State.driveFaultClears_frame s h
  exact driving.atHead heads (Access.kept_of_unsent unsent) (congrArg Cabinet.permission cabinet) (congrArg Loader.station loader)
    (congrArg Loader.record loader) fun _ fits => fits.faultClears active clear

/-! ## New doses and the drive inputs (R76, R82, R83, R92) -/

/-- A head is asked for a dose (R83). -/
theorem requestDose (driving : s.Driving) (runs : s.running = true) (h : Nat) (sequence : Word32) (capture : Time) :
    (s.requestDose h sequence capture).Driving := by
  unfold State.requestDose
  split
  next takes =>
    have free : (s.head h).production = .inProduction ∧ (s.head h).dose = .idle := by
      unfold Head.answer at takes
      split at takes
      · cases takes
      next produces =>
        split at takes
        · cases takes
        next idle => exact ⟨by simpa using produces, by simpa using idle⟩
    refine driving.setHead h fun _ fits => ?_
    rw [State.FitsAt, runs] at fits
    rw [runs]
    exact fits.takeDose free.1 free.2 _ _
  · exact driving

/-- A low phase ends (R86, R96). -/
theorem lowPhaseEnds (driving : s.Driving) {h : Nat} (done : s.lowPhaseOver h = true) :
    (s.setHead h fun x => { x with train := .high 0, pulseOut := true }).Driving := by
  obtain ⟨-, emits, n, low, -⟩ := (State.lowPhaseOver_iff s h).mp done
  exact driving.setHead h fun _ fits => fits.pulseRaised ((Head.emitting_iff _).mpr emits) (by simp [low])

/-- Drive ready turns (R76, R86). -/
theorem readyTurns (driving : s.Driving) {h : Nat} {high : Bool} (turns : (s.head h).readyTurns high = true) :
    (s.setHead h fun x => if x.emitting then x.readyChanges high else { x with ready := high }).Driving := by
  have other : (s.head h).ready ≠ high := by
    simp only [Head.readyTurns, Bool.and_eq_true, bne_iff_ne] at turns
    exact turns.2
  refine driving.setHead h fun _ fits => ?_
  cases emits : (s.head h).emitting with
  | true => simpa [emits] using fits.readyChanges emits other
  | false => simpa [emits] using fits.readySet emits high

/-- A meter pulse (R92, R96). -/
theorem meterPulse (driving : s.Driving) (h : Nat) : (s.setHead h Head.meterPulse).Driving :=
  driving.setHead h fun _ fits => fits.meterPulse

/-- A drive fault input changes its level (R98). -/
theorem rawFault (driving : s.Driving) (h : Nat) (reads high : Bool) :
    (s.setHead h fun x => { x with fault := x.fault.rawTo reads high }).Driving := by
  refine driving.setHead h fun _ fits => fits.faultMoves ?_
  unfold Debouncer.rawTo Debouncer.rawChanges Debouncer.rawLevel
  repeat' split
  all_goals rfl

/-- A local microsecond passes (R5, R76). -/
theorem tick (driving : s.Driving) (pins : PinSamples) : (s.tick pins).Driving :=
  driving.atEach (f := fun i h => h.tick (inSet pins.ready i) (inSet pins.meter i)) (withIndex_eq_mapIdx _ _) rfl rfl rfl
    fun _ _ fits => fits.tick _ _

/-! ## Resets and the way to RUNNING (R79, R187, R195, R196) -/

/-- Outside RUNNING nothing is in hand and no grant stands, so that the configuration, the station and run permission may change. -/
theorem ofStill (driving : s.Driving) (stopped : s.running = false) {f : Nat → Head → Head} (heads : t.heads = s.heads.mapIdx f)
    (moves : ∀ h x, h < 8 → x.Fits false s.cabinet.permission (s.fitted h) false s.cfg.dosing.pulses →
      (f h x).Fits false s.cabinet.permission (s.fitted h) false s.cfg.dosing.pulses)
    (none : t.access.grants = []) (next : 1 ≤ t.access.nextGrant ∧ t.access.nextGrant ≤ 255)
    (held : t.access.lockMode = some .held → t.access.heldLock = true)
    (pulses : ∀ r, t.loader.record = some r → 1 ≤ r.dosing.pulses) : t.Driving := by
  have before := driving.grants.outside stopped
  refine ⟨by rw [heads, List.length_mapIdx, driving.heads], .ofNone none next held, by simp [none], pulses, fun h inside => ?_⟩
  have fits := driving.each h inside
  have loose : s.covered h = false := by simp [State.covered, before]
  have free : t.covered h = false := by simp [State.covered, none]
  rw [State.FitsAt, loose, stopped] at fits
  rw [State.FitsAt, State.head_mapIdx heads (by rw [driving.heads]; exact inside), free]
  exact (moves h _ inside fits).ofStill _ _ _ _

/-- The Access Unit and the heads after a reset (R79, R137, R187). -/
theorem takeReset (eight : s.heads.length = 8) (hold : Timer) (rstLow heldLock : Bool) : (s.takeReset hold rstLow heldLock).Driving := by
  have heads : (s.takeReset hold rstLow heldLock).heads = s.heads.mapIdx fun _ x => x.afterReset := by
    exact List.ext_getElem (by simp [State.takeReset]) fun i _ _ => by simp [State.takeReset]
  refine ⟨by simp [heads, eight], .ofNone rfl ⟨Nat.le_refl 1, show 1 ≤ 255 by decide⟩ nofun, nofun, nofun, fun h inside => ?_⟩
  rw [State.FitsAt, State.head_mapIdx heads (by rw [eight]; exact inside)]
  exact Head.Fits.atReset _ _ _ _ _ _ _

end State.Driving

end

end Sys2Proof.Machine

/-! PROOFS of what every command keeps, eighth part: the Tracking Queue, the arrivals, the Reject Gate and the camera ports
(R48 to R75, R100 to R127). -/

namespace Sys2Proof.Machine

/-! ## What is kept -/

/-- A record but for what does not name or order it: its sequence and its verdicts. -/
def Record.mark (r : Record) : Word32 × Verdict × Verdict := (r.sequence, r.verdictA, r.verdictB)

/-- The marks of the records of the Tracking Queue, in order. -/
def State.marks (s : State) : List (Word32 × Verdict × Verdict) := s.tracking.records.map Record.mark

/-- What every command keeps of the Reject Gate: the firings are few, the output is high exactly while one is ON, and nothing is
listed outside RUNNING (R121, R124). -/
structure Gate.Kept (g : Gate) (runs : Bool) : Prop where
  few : g.firings.length ≤ 16
  output : g.output = true ↔ ∃ f ∈ g.firings, f.phase = .on
  still : runs = false → g.firings = [] ∧ g.output = false

/-- What every command keeps of a camera port: its outputs agree with its timers, its pending triggers are few, and it is still
outside RUNNING (R100, R105 to R107, R110, R113). -/
structure CameraPort.Kept (c : CameraPort) (runs : Bool) : Prop where
  sound : c.Sound
  few : c.pending.length ≤ 16
  still : runs = false → c.still

/-- What every command keeps of the Tracking Unit, the Reject Gate and the camera ports. -/
structure State.Handling (s : State) : Prop where
  records : s.tracking.records.length ≤ 64 ∧ (s.running = false → s.tracking.records = [])
  arrivals : s.tracking.arrivals.length ≤ 32 ∧ (s.running = false → s.tracking.arrivals = [])
  tracking : s.TrackingSound
  gate : s.gate.Kept s.running
  ports : ∀ p, (s.port p).Kept s.running
  triggers : ∀ p, s.TriggersSound p

section
variable {s t : State}

/-- A sound state keeps its Tracking Unit, its Reject Gate and its camera ports. -/
theorem State.Sound.handling (sound : s.Sound) : s.Handling := by
  refine ⟨⟨sound.bounded.records, sound.quiet.records⟩, ⟨sound.bounded.arrivals, sound.quiet.arrivals⟩, sound.tracking,
    ⟨sound.bounded.firings, sound.outputs.gate, sound.quiet.firings⟩, fun p => ?_, sound.triggers⟩
  cases p with
  | a => exact ⟨sound.outputs.cameraA, sound.bounded.pendingA, fun stopped => (sound.quiet.cameras stopped).1⟩
  | b => exact ⟨sound.outputs.cameraB, sound.bounded.pendingB, fun stopped => (sound.quiet.cameras stopped).2⟩

/-- The outputs of a state that keeps them. -/
theorem State.Handling.outputsSound (handling : s.Handling) : s.OutputsSound :=
  ⟨handling.gate.output, (handling.ports .a).sound, (handling.ports .b).sound⟩

/-! ## What the marks of the records tell (R53, R57, R103) -/

/-- The verdict of a mark for a port. -/
def markVerdict (m : Word32 × Verdict × Verdict) : Port → Verdict
  | .a => m.2.1
  | .b => m.2.2

/-- The sequences that await a verdict are told by the marks. -/
theorem State.awaiting_marks (s : State) (p : Port) :
    s.awaiting p = (s.marks.filter fun m => markVerdict m p = .pending).map Prod.fst := by
  simp only [State.awaiting, State.marks, List.filter_map, List.map_map]
  cases p <;> rfl

/-- The pending triggers stay sound while the list, the tag counter and the marks of the records stay. -/
theorem State.TriggersSound.congr {p : Port} (sound : s.TriggersSound p) (pending : (t.port p).pending = (s.port p).pending)
    (tag : (t.port p).tag = (s.port p).tag) (marks : t.marks = s.marks) : t.TriggersSound p := by
  refine ⟨by rw [pending, tag]; exact sound.tags, by rw [pending]; exact sound.distinct, fun e listed => ?_, ?_⟩
  · have named (u : State) : (∃ r ∈ u.tracking.records, r.sequence = e.sequence ∧ r.verdict p = .pending) ↔
        ∃ m ∈ u.marks, m.1 = e.sequence ∧ markVerdict m p = .pending := by
      simp only [State.marks, List.mem_map]
      constructor
      · rintro ⟨r, listed, name, waits⟩
        exact ⟨r.mark, ⟨r, listed, rfl⟩, name, by cases p <;> exact waits⟩
      · rintro ⟨m, ⟨r, listed, rfl⟩, name, waits⟩
        exact ⟨r, listed, name, by cases p <;> exact waits⟩
    rw [named, marks, ← named]
    exact sound.named e (pending ▸ listed)
  · rw [pending, State.awaiting_marks, marks, ← State.awaiting_marks]
    exact sound.order

/-- The sequences of the records are told by their marks. -/
theorem State.sequences_marks (s : State) : s.tracking.records.map Record.sequence = s.marks.map Prod.fst := by
  simp only [State.marks, List.map_map]
  rfl

/-- The Tracking Queue stays in order while the sequences, the next number and the configuration stay. -/
theorem State.TrackingSound.sequenced (sound : s.TrackingSound)
    (sequences : t.tracking.records.map Record.sequence = s.tracking.records.map Record.sequence)
    (next : t.tracking.nextSequence = s.tracking.nextSequence) (record : t.loader.record = s.loader.record) : t.TrackingSound := by
  have nonzero (u : State) : (∀ r ∈ u.tracking.records, r.sequence ≠ 0) ↔ ∀ n ∈ u.tracking.records.map Record.sequence, n ≠ 0 := by
    simp
  refine ⟨by rw [sequences, next]; exact sound.order, ⟨by rw [next]; exact sound.nonzero.1, ?_⟩, by rw [sequences]; exact sound.distinct,
    record ▸ sound.delays⟩
  rw [nonzero, sequences, ← nonzero]
  exact sound.nonzero.2

/-- The Tracking Queue stays in order while the marks, the next number and the configuration stay. -/
theorem State.TrackingSound.congr (sound : s.TrackingSound) (marks : t.marks = s.marks)
    (next : t.tracking.nextSequence = s.tracking.nextSequence) (record : t.loader.record = s.loader.record) : t.TrackingSound :=
  sound.sequenced (by rw [State.sequences_marks, marks, ← State.sequences_marks]) next record

namespace State.Handling

/-- What is kept of the Tracking Unit, the Reject Gate and the ports depends on the marks of the records, the next number, the
arrivals, the gate, the ports, the configuration and RUNNING alone. -/
theorem congr (handling : s.Handling) (marks : t.marks = s.marks) (next : t.tracking.nextSequence = s.tracking.nextSequence)
    (arrivals : t.tracking.arrivals = s.tracking.arrivals) (gate : t.gate = s.gate) (ports : ∀ p, t.port p = s.port p)
    (record : t.loader.record = s.loader.record) (runs : t.running = s.running) : t.Handling := by
  have length : t.tracking.records.length = s.tracking.records.length := by simpa [State.marks] using congrArg List.length marks
  refine ⟨⟨length ▸ handling.records.1, fun stopped => ?_⟩, by rw [arrivals, runs]; exact handling.arrivals,
    handling.tracking.congr marks next record, by rw [gate, runs]; exact handling.gate, fun p => by rw [ports, runs]; exact handling.ports p,
    fun p => (handling.triggers p).congr (by rw [ports]) (by rw [ports]) marks⟩
  rw [← List.length_eq_zero_iff, length, List.length_eq_zero_iff]
  exact handling.records.2 (runs ▸ stopped)

/-- What is kept holds where the Loader's station and configuration, the Tracking Unit, the gate and the ports stay. -/
theorem same (handling : s.Handling) (tracking : t.tracking = s.tracking) (gate : t.gate = s.gate) (portA : t.portA = s.portA)
    (portB : t.portB = s.portB) (loader : t.loader = s.loader) : t.Handling :=
  handling.congr (by rw [State.marks, tracking]; rfl) (by rw [tracking]) (by rw [tracking]) gate
    (fun p => by cases p; exacts [portA, portB]) (by rw [loader]) (State.running_congr loader)

end State.Handling

/-! ## The fill of a record (R94) -/

/-- A change of a record that keeps its mark keeps the marks. -/
theorem State.updateRecord_marks (s : State) (n : Word32) {f : Record → Record} (same : ∀ r, (f r).mark = r.mark) :
    (s.updateRecord n f).marks = s.marks := by
  simp only [State.marks, State.updateRecord, List.map_map]
  refine List.map_congr_left fun r _ => ?_
  simp only [Function.comp]
  split
  · exact same r
  · rfl

/-- The readiness test keeps the Tracking Unit (R146). -/
theorem State.testReady_tracking (s : State) (h : Nat) : (s.testReady h).tracking = s.tracking := by simp

/-- What the end of a dose leaves of the records: their marks, and what else the Tracking Unit holds (R94). -/
theorem State.endDose_marks (s : State) (h : Nat) (result : FillResult) (meter : Nat) : (s.endDose h result meter).marks = s.marks ∧
    (s.endDose h result meter).tracking.nextSequence = s.tracking.nextSequence ∧
    (s.endDose h result meter).tracking.arrivals = s.tracking.arrivals := by
  have delivered (n : Word32) (fill : Fill) : (s.deliverFill h n fill).marks = s.marks ∧
      (s.deliverFill h n fill).tracking.nextSequence = s.tracking.nextSequence ∧
      (s.deliverFill h n fill).tracking.arrivals = s.tracking.arrivals := by
    unfold State.deliverFill
    split
    · exact ⟨State.updateRecord_marks s n fun _ => rfl, rfl, rfl⟩
    · exact ⟨rfl, rfl, rfl⟩
  have tested (u : State) : (u.testReady h).marks = u.marks := by
    rw [State.marks, State.testReady_tracking]
    rfl
  unfold State.endDose
  split
  · exact ⟨rfl, rfl, rfl⟩
  next d _ =>
    simp only
    split
    · obtain ⟨marks, next, arrivals⟩ := delivered d.sequence ⟨result, meter⟩
      refine ⟨(tested _).trans marks, ?_, ?_⟩
      · rw [State.testReady_tracking]
        exact next
      · rw [State.testReady_tracking]
        exact arrivals
    · exact delivered d.sequence ⟨result, meter⟩

/-- The end of a dose keeps what is kept (R94). -/
theorem State.Handling.endDose (handling : s.Handling) (h : Nat) (result : FillResult) (meter : Nat) :
    (s.endDose h result meter).Handling := by
  obtain ⟨marks, next, arrivals⟩ := State.endDose_marks s h result meter
  obtain ⟨loader, -, -, -, portA, portB, gate, -⟩ := State.endDose_frame s h result meter
  exact handling.congr marks next arrivals gate (fun p => by cases p; exacts [portA, portB]) (congrArg Loader.record loader)
    (State.running_congr loader)

/-- A fall of run permission at a head keeps what is kept (R89, R97). -/
theorem State.Handling.permissionLost (handling : s.Handling) (h : Nat) : (s.permissionLost h).Handling := by
  unfold State.permissionLost State.suspend
  split
  · split
    · exact handling
    · simp only
      split
      · refine State.Handling.endDose ?_ _ _ _
        exact handling.same rfl rfl rfl rfl rfl
      · exact handling.same rfl rfl rfl rfl rfl
  · exact handling.same (by simp) (by simp) (by simp) (by simp) (by simp)

/-- A change of the lamps and of the Cabinet Monitor does not touch what is kept. -/
theorem State.Handling.withCabinet (handling : s.Handling) (cabinet : Cabinet) (lamp : Bool) :
    ({ s with cabinet := cabinet, loader := { s.loader with runLamp := lamp } } : State).Handling :=
  handling.congr rfl rfl rfl rfl (fun p => by cases p <;> rfl) rfl rfl

/-- A rise of run permission keeps what is kept (R44, R90). -/
theorem State.Handling.permissionRises (handling : s.Handling) : s.permissionRises.Handling := by
  refine State.forHeads_preserves (fun h u kept => ?_) ?_
  · exact kept.same (by simp) (by simp) (by simp) (by simp) (by simp)
  · exact (handling.withCabinet { s.cabinet with permission := true, restore := none } true).same (by simp) (by simp) (by simp) (by simp) (by simp)

/-- Run permission following its conditions keeps what is kept (R44). -/
theorem State.Handling.followConditions (handling : s.Handling) : s.followConditions.Handling := by
  unfold State.followConditions
  split
  · split
    · exact handling
    · split
      · exact handling.permissionRises
      · exact handling.same rfl rfl rfl rfl rfl
  · split
    · refine State.forHeads_preserves (fun h u kept => kept.permissionLost h) ?_
      exact (handling.withCabinet { s.cabinet with permission := false, restore := none } false).same (by simp) (by simp) (by simp) (by simp) (by simp)
    · exact handling.same rfl rfl rfl rfl rfl

end

end Sys2Proof.Machine

/-! PROOFS of what every command keeps, ninth part: the Reject Gate and the Arrival List (R60 to R67, R121 to R127). -/

namespace Sys2Proof.Machine

section
variable {s t : State}

/-! ## The Reject Gate (R121 to R127) -/

/-- What is kept of the gate rests on its firings and its output alone. -/
theorem Gate.Kept.congr {g k : Gate} {runs : Bool} (kept : g.Kept runs) (firings : k.firings = g.firings) (output : k.output = g.output) :
    k.Kept runs :=
  ⟨firings ▸ kept.few, by rw [firings, output]; exact kept.output, by rw [firings, output]; exact kept.still⟩

/-- A list of at most 16 firings keeps the gate in RUNNING: the output follows the firings that are ON. -/
theorem State.withFirings_kept (s : State) {firings : List Firing} (few : firings.length ≤ 16) : (s.withFirings firings).gate.Kept true :=
  ⟨few, by simp [State.withFirings, Firing.isOn], fun stopped => by simp at stopped⟩

namespace State.Handling

/-- A change of the gate alone keeps what is kept where the gate does. -/
theorem withGate (handling : s.Handling) (gate : t.gate.Kept s.running) (tracking : t.tracking = s.tracking) (portA : t.portA = s.portA)
    (portB : t.portB = s.portB) (loader : t.loader = s.loader) : t.Handling := by
  have rest : ({ t with gate := s.gate } : State).Handling := handling.same tracking rfl portA portB loader
  have runs : t.running = s.running := State.running_congr loader
  exact ⟨rest.records, rest.arrivals, rest.tracking.congr rfl rfl rfl, runs ▸ gate, fun p => by cases p; exacts [rest.ports .a, rest.ports .b],
    fun p => (rest.triggers p).congr (by cases p <;> rfl) (by cases p <;> rfl) rfl⟩

/-- A shorter list of firings, in RUNNING, keeps what is kept. -/
theorem withFirings (handling : s.Handling) (runs : s.running = true) {firings : List Firing} (few : firings.length ≤ 16) :
    (s.withFirings firings).Handling :=
  handling.withGate (by rw [runs]; exact s.withFirings_kept few) rfl rfl rfl rfl

/-- An event keeps what is kept. -/
theorem occur (handling : s.Handling) (e : EventSource) (detail : Byte) : (s.occur e detail).Handling :=
  handling.same rfl rfl rfl rfl rfl

/-- A count keeps what is kept. -/
theorem count (handling : s.Handling) (c : Counter) : (s.count c).Handling := handling.same rfl rfl rfl rfl rfl

end State.Handling

/-- A firing joins the list in one more place. -/
theorem insertByStart_length (f : Firing) (firings : List Firing) : (insertByStart f firings).length = firings.length + 1 := by
  induction firings with
  | nil => rfl
  | cons g rest ih =>
    unfold insertByStart
    split
    · rfl
    · simp [ih]

/-- A firing handed to the gate keeps it: a placed one has room, and a merged one takes the place of those it meets (R121 to R123). -/
theorem State.handFiring_gate (kept : s.gate.Kept true) (capture : Time) (detail : Byte) :
    (s.handFiring capture detail).2.gate.Kept true := by
  unfold State.handFiring
  simp only
  split
  · split
    next room =>
      refine s.withFirings_kept ?_
      rw [insertByStart_length]
      exact room
    · exact kept
  next meets =>
    refine s.withFirings_kept ?_
    have parts := List.length_eq_length_filter_add (l := s.gate.firings) (s.newFiring capture).meets
    have met : 0 < (s.gate.firings.filter (s.newFiring capture).meets).length := by
      rw [List.length_pos_iff]
      exact fun none => meets (by rw [none]; rfl)
    have few := kept.few
    rw [insertByStart_length]
    omega

namespace State.Handling

/-- A firing handed to the gate keeps what is kept (R121 to R123). -/
theorem handFiring (handling : s.Handling) (runs : s.running = true) (capture : Time) (detail : Byte) :
    (s.handFiring capture detail).2.Handling :=
  handling.withGate (by rw [runs]; exact State.handFiring_gate (runs ▸ handling.gate) capture detail) (by simp) (by simp) (by simp) (by simp)

/-- A confirmed firing keeps what is kept (R126). -/
theorem firingConfirmed (handling : s.Handling) : s.firingConfirmed.Handling :=
  handling.withGate (handling.gate.congr rfl rfl) rfl rfl rfl rfl

/-- An unconfirmed firing keeps what is kept (R127). -/
theorem firingUnconfirmed (handling : s.Handling) (count : Nat) : (s.firingUnconfirmed count).Handling := by
  unfold State.firingUnconfirmed
  simp only
  split
  · refine State.Handling.occur ?_ _ _
    exact handling.withGate (handling.gate.congr rfl rfl) rfl rfl rfl rfl
  · exact handling.withGate (handling.gate.congr rfl rfl) rfl rfl rfl rfl

/-- A change of the first firing of a kind leaves as many. -/
theorem firing_changed (handling : s.Handling) (runs : s.running = true) (p : Firing → Bool) (f : Firing → Firing) :
    (s.withFirings (modifyFirst p f s.gate.firings)).Handling :=
  handling.withFirings runs (by rw [modifyFirst_length]; exact handling.gate.few)

/-- A firing that leaves leaves fewer. -/
theorem firing_left (handling : s.Handling) (runs : s.running = true) (p : Firing → Bool) :
    (s.withFirings (s.gate.firings.eraseP p)).Handling :=
  handling.withFirings runs (List.length_eraseP_le.trans handling.gate.few)

/-- The end of a firing keeps what is kept (R125, R126). -/
theorem firingEnds (handling : s.Handling) (runs : s.running = true) : s.firingEnds.Handling := by
  have ends (f : Firing) : (s.endFiring f).Handling := by
    unfold State.endFiring
    simp only
    split
    · exact handling.firing_left runs _
    · split
      · exact (handling.firing_left runs _).firingConfirmed
      · exact handling.firing_changed runs _ _
  unfold State.firingEnds
  split
  · exact handling
  · split
    · exact ends _
    · exact handling

/-- The end of a confirm window keeps what is kept (R127). -/
theorem confirmWindowEnds (handling : s.Handling) (runs : s.running = true) : s.confirmWindowEnds.Handling := by
  unfold State.confirmWindowEnds
  split
  · exact handling
  · split
    · exact (handling.firing_left runs _).firingUnconfirmed _
    · exact handling

/-- An edge given to a firing keeps what is kept (R125). -/
theorem giveEdge (handling : s.Handling) (runs : s.running = true) : s.giveEdge.Handling := by
  unfold State.giveEdge
  split
  · exact handling
  · split
    · exact (handling.firing_left runs _).firingConfirmed
    · exact handling.firing_changed runs _ _

/-- The confirm input keeps what is kept (R120, R125). -/
theorem takeConfirm (handling : s.Handling) : s.takeConfirm.Handling := by
  unfold State.takeConfirm
  split
  · have moved : ({ s with gate := { s.gate with confirm := s.gate.confirm.settle } } : State).Handling :=
      handling.withGate (handling.gate.congr rfl rfl) rfl rfl rfl rfl
    simp only
    split
    next edge =>
      simp only [Bool.and_eq_true] at edge
      exact moved.giveEdge edge.1.2
    · exact moved
  · exact handling

/-! ## The Arrival List (R60 to R67) -/

/-- A change of the arrivals alone keeps what is kept where they stay few, and none outside RUNNING. -/
theorem withArrivals (handling : s.Handling) {arrivals : List Arrival}
    (few : arrivals.length ≤ 32 ∧ (s.running = false → arrivals = [])) :
    ({ s with tracking := { s.tracking with arrivals := arrivals } } : State).Handling :=
  ⟨handling.records, few, handling.tracking.congr rfl rfl rfl, handling.gate, handling.ports, fun p => (handling.triggers p).congr rfl rfl rfl⟩

/-- Arrivals that are part of those listed stay few. -/
theorem fewer (handling : s.Handling) {arrivals : List Arrival} (part : arrivals.Sublist s.tracking.arrivals) :
    arrivals.length ≤ 32 ∧ (s.running = false → arrivals = []) :=
  ⟨part.length_le.trans handling.arrivals.1, fun stopped => List.sublist_nil.mp (handling.arrivals.2 stopped ▸ part)⟩

/-- A lost arrival keeps what is kept (R65). -/
theorem loseArrival (handling : s.Handling) (position : Nat) : (s.loseArrival position).Handling := by
  unfold State.loseArrival
  split
  · exact handling
  · split
    · exact (handling.occur _ _).withArrivals (handling.fewer (List.eraseIdx_sublist _ _))
    · exact handling

/-- A listed HND keeps what is kept (R62, R63). -/
theorem takeHandover (handling : s.Handling) (runs : s.running = true) (src : Byte) (h : HndBody) : (s.takeHandover src h).Handling := by
  unfold State.takeHandover State.discard State.listArrival
  split
  · exact handling.count _
  · split
    · exact (handling.count _).occur _ _
    · split
      · exact (handling.count _).occur _ _
      next room =>
        refine (handling.count .hndReceived).withArrivals ⟨?_, fun stopped => ?_⟩
        · simp only [List.length_append, List.length_singleton]
          simp only [Config.arrivalCapacity] at room
          simp only [State.count] at room ⊢
          omega
        · exact absurd (runs.symm.trans stopped) (by simp)

/-- The trusted arrivals whose windows have passed leave, which keeps what is kept (R66). -/
theorem clearPassed (handling : s.Handling) (capture : Time) : (s.clearPassed capture).Handling := by
  have latched : ((s.tracking.arrivals.takeWhile fun a => a.passed capture).foldl State.latchLost s).Handling :=
    foldl_preserves (fun u a kept => kept.occur _ _) _ handling
  have arrivals : ((s.tracking.arrivals.takeWhile fun a => a.passed capture).foldl State.latchLost s).tracking.arrivals =
      s.tracking.arrivals := foldl_keeps (fun u => u.tracking.arrivals) State.latchLost (fun u a => rfl) _ s
  exact latched.withArrivals (latched.fewer (by rw [arrivals]; exact List.dropWhile_sublist _))

/-- The matching of a capture keeps what is kept (R58, R64 to R67). -/
theorem matchArrival (handling : s.Handling) (capture : Time) : (s.matchArrival capture).2.Handling := by
  have cleared := handling.clearPassed capture
  unfold State.matchArrival
  split
  · exact handling
  · simp only
    cases listed : (s.clearPassed capture).tracking.arrivals with
    | nil => exact cleared.count _
    | cons a rest =>
      simp only
      split
      · exact (cleared.withArrivals (cleared.fewer (listed ▸ List.sublist_cons_self a rest))).count _
      · exact cleared.count _

end State.Handling

end

end Sys2Proof.Machine

/-! PROOFS of what every command keeps, tenth part: the capture and the decide (R48 to R56, R68 to R73). -/

namespace Sys2Proof.Machine

section
variable {s t : State}

/-! ## Consecutive sequences (R53) -/

/-- The place of a sequence in the round of all that are not 0. -/
def place (n : Word32) : Nat := n.toNat - 1

/-- A sequence that is not 0 has one of the places below 2³² - 1. -/
theorem place_lt {n : Word32} (nonzero : n ≠ 0) : place n < 4294967295 ∧ n.toNat = place n + 1 := by
  have positive : n.toNat ≠ 0 := fun zero => nonzero (BitVec.eq_of_toNat_eq zero)
  have := n.isLt
  unfold place
  omega

/-- The next sequence is not 0, and has the next place. -/
theorem nextSequenceAfter_place {n : Word32} (nonzero : n ≠ 0) :
    nextSequenceAfter n ≠ 0 ∧ place (nextSequenceAfter n) = (place n + 1) % 4294967295 := by
  obtain ⟨inside, number⟩ := place_lt nonzero
  unfold nextSequenceAfter
  split
  next last => subst last; decide
  next notLast =>
    have below : n.toNat ≠ 4294967295 := fun last => notLast (BitVec.eq_of_toNat_eq last)
    have next : (n + 1).toNat = n.toNat + 1 := by rw [BitVec.toNat_add]; simp; omega
    refine ⟨fun zero => ?_, ?_⟩
    · rw [zero] at next
      simp at next
    · rw [place, next, Nat.mod_eq_of_lt (by omega)]
      omega

/-- In consecutive sequences each has the place of the first, moved on by its position. -/
theorem place_of_chain {first : Word32} {rest : List Word32} (nonzero : first ≠ 0)
    (chain : (first :: rest).IsChain fun n k => k = nextSequenceAfter n) {i : Nat} {n : Word32} (at_ : (first :: rest)[i]? = some n) :
    place n = (place first + i) % 4294967295 := by
  induction rest generalizing first i with
  | nil =>
    cases i with
    | zero =>
      obtain rfl : first = n := by simpa using at_
      rw [Nat.add_zero, Nat.mod_eq_of_lt (place_lt nonzero).1]
    | succ i => simp at at_
  | cons second rest ih =>
    obtain ⟨next, chain⟩ := List.isChain_cons_cons.mp chain
    subst next
    obtain ⟨nonzero', place_next⟩ := nextSequenceAfter_place nonzero
    cases i with
    | zero =>
      obtain rfl : first = n := by simpa using at_
      rw [Nat.add_zero, Nat.mod_eq_of_lt (place_lt nonzero).1]
    | succ i =>
      rw [ih nonzero' chain (by simpa using at_), place_next, Nat.mod_add_mod]
      congr 1
      omega

/-- Fewer than 2³² consecutive sequences are all different. -/
theorem nodup_of_chain {sequences : List Word32} (nonzero : ∀ n ∈ sequences, n ≠ 0)
    (chain : sequences.IsChain fun n k => k = nextSequenceAfter n) (few : sequences.length ≤ 65) : sequences.Nodup := by
  cases sequences with
  | nil => exact List.nodup_nil
  | cons first rest =>
    rw [List.nodup_iff_injective_getElem]
    rintro ⟨i, insideI⟩ ⟨k, insideK⟩ same
    have first_nonzero := nonzero first (by simp)
    have placeI := place_of_chain first_nonzero chain (List.getElem?_eq_getElem insideI)
    have placeK := place_of_chain first_nonzero chain (List.getElem?_eq_getElem insideK)
    have equal : (place first + i) % 4294967295 = (place first + k) % 4294967295 := by
      rw [← placeI, ← placeK]
      exact congrArg place same
    rw [Fin.mk.injEq]
    omega

/-- The next record keeps the order of the Tracking Queue: it takes the next sequence, which no listed record has (R53). -/
theorem State.TrackingSound.append (sound : s.TrackingSound) (few : s.tracking.records.length ≤ 64) {r : Record}
    (sequence : r.sequence = s.tracking.nextSequence) (records : t.tracking.records = s.tracking.records ++ [r])
    (next : t.tracking.nextSequence = nextSequenceAfter s.tracking.nextSequence) (config : t.loader.record = s.loader.record) :
    t.TrackingSound := by
  have sequences : t.tracking.records.map Record.sequence = s.tracking.records.map Record.sequence ++ [s.tracking.nextSequence] := by
    rw [records, List.map_append, List.map_singleton, sequence]
  have nonzero : ∀ n ∈ s.tracking.records.map Record.sequence ++ [s.tracking.nextSequence], n ≠ 0 := by
    simp only [List.mem_append, List.mem_map, List.mem_singleton]
    rintro n (⟨r, listed, rfl⟩ | rfl)
    · exact sound.nonzero.2 r listed
    · exact sound.nonzero.1
  refine ⟨?_, ⟨?_, fun x listed => ?_⟩, ?_, config ▸ sound.delays⟩
  · rw [sequences, next, List.append_assoc]
    refine List.isChain_append.mpr ⟨(List.isChain_append.mp sound.order).1, by simp, ?_⟩
    exact (List.isChain_append.mp sound.order).2.2
  · rw [next]
    exact (nextSequenceAfter_place sound.nonzero.1).1
  · rw [records] at listed
    rcases List.mem_append.mp listed with old | new
    · exact sound.nonzero.2 x old
    · rw [List.mem_singleton.mp new, sequence]
      exact sound.nonzero.1
  · rw [sequences]
    refine nodup_of_chain nonzero sound.order ?_
    simp only [List.length_append, List.length_map, List.length_singleton]
    omega

/-- A new record at the end leaves the triggers that are listed sound (R57). -/
theorem State.TriggersSound.append {p : Port} (sound : s.TriggersSound p) {r : Record}
    (records : t.tracking.records = s.tracking.records ++ [r]) (pending : (t.port p).pending = (s.port p).pending)
    (tag : (t.port p).tag = (s.port p).tag) : t.TriggersSound p := by
  refine ⟨by rw [pending, tag]; exact sound.tags, by rw [pending]; exact sound.distinct, fun e listed => ?_, ?_⟩
  · obtain ⟨x, tracked, named⟩ := sound.named e (pending ▸ listed)
    exact ⟨x, by rw [records]; exact List.mem_append_left _ tracked, named⟩
  · rw [pending, State.awaiting, records, List.filter_append, List.map_append]
    exact sound.order.trans (List.prefix_append _ _)

/-- What an opening leaves of the Tracking Unit (R52 to R58). -/
theorem State.openRecord_tracking (s : State) (capture : Time) :
    (s.openRecord capture).tracking = { (s.matchArrival capture).2.tracking with
      nextSequence := nextSequenceAfter (s.matchArrival capture).2.tracking.nextSequence
      records := (s.matchArrival capture).2.tracking.records ++
        [(s.matchArrival capture).2.openingRecord capture (s.matchArrival capture).1] } := by
  simp [State.openRecord]

/-- What an opening leaves of camera port B: all but its pattern (R102). -/
theorem State.openRecord_portB (s : State) (capture : Time) :
    ∃ pattern, (s.openRecord capture).portB = { s.portB with pattern := pattern } := by
  have count_portB (u : State) (c : Counter) : (u.count c).portB = u.portB := rfl
  unfold State.openRecord
  simp only [count_portB]
  have asked : ((s.matchArrival capture).2.requestPocketDose capture).portB = s.portB := by simp
  unfold State.advancePattern
  split
  · exact ⟨_, by rw [asked]⟩
  · exact ⟨s.portB.pattern, asked⟩

/-- A port keeps what it keeps while its timers, its list, its receiver and its assembler stay. -/
theorem CameraPort.Kept.withPattern {c : CameraPort} {runs : Bool} (kept : c.Kept runs) (pattern : Nat) :
    ({ c with pattern := pattern } : CameraPort).Kept runs := ⟨⟨kept.sound.trigger, kept.sound.strobe, kept.sound.hunt, kept.sound.bits⟩, kept.few, kept.still⟩

namespace State.Handling

/-- A record opened keeps what is kept (R52 to R58). -/
theorem openRecord (handling : s.Handling) (runs : s.running = true) (room : s.tracking.records.length < 64) (capture : Time) :
    (s.openRecord capture).Handling := by
  have matched := handling.matchArrival capture
  have tracking := s.openRecord_tracking capture
  obtain ⟨pattern, portB⟩ := s.openRecord_portB capture
  have records : (s.matchArrival capture).2.tracking.records = s.tracking.records := by rw [State.matchArrival_tracking]
  have stays : (s.openRecord capture).running = true := (State.running_congr (by simp)).trans runs
  have appended : (s.openRecord capture).tracking.records = (s.matchArrival capture).2.tracking.records ++
      [(s.matchArrival capture).2.openingRecord capture (s.matchArrival capture).1] := by rw [tracking]
  have running (other : (s.openRecord capture).running = false) {P : Prop} : P := absurd (stays.symm.trans other) (by simp)
  refine ⟨⟨?_, fun stopped => running stopped⟩, ?_, ?_, ?_, fun p => ?_, fun p => ?_⟩
  · rw [appended, records]
    simp only [List.length_append, List.length_singleton]
    omega
  · rw [tracking]
    exact ⟨matched.arrivals.1, fun stopped => running stopped⟩
  · refine matched.tracking.append (records ▸ room.le) rfl appended ?_ (by simp)
    rw [tracking]
  · rw [stays, ← runs]
    simpa using handling.gate
  · rw [stays, ← runs]
    cases p with
    | a => simpa [State.port] using handling.ports .a
    | b =>
      rw [State.port, portB]
      exact (handling.ports .b).withPattern pattern
  · refine (matched.triggers p).append appended ?_ ?_
    all_goals cases p <;> simp [State.port, portB]

/-- A capture keeps what is kept (R50 to R52). -/
theorem capture (handling : s.Handling) : s.capture.Handling := by
  unfold State.capture
  simp only
  split
  next runs =>
    split
    next room => exact (handling.count .captures).openRecord runs room s.now
    · unfold State.blindFiring
      have latched := (((handling.count .captures).count .untracked).occur .trackOverflow s.overflowDetail)
      split
      · exact latched.handFiring runs _ _
      · exact latched
  · exact (handling.count _).count _

/-- The infeed keeps what is kept (R48). -/
theorem takeInfeed (handling : s.Handling) : s.takeInfeed.Handling := by
  unfold State.takeInfeed
  split
  · have moved : ({ s with tracking := { s.tracking with infeed := s.tracking.infeed.settle } } : State).Handling :=
      handling.congr rfl rfl rfl rfl (fun p => by cases p <;> rfl) rfl rfl
    simp only
    split
    · exact moved.capture
    · exact moved
  · exact handling

/-- The pitch sensor keeps what is kept (R48, R49). -/
theorem takePitch (handling : s.Handling) : s.takePitch.Handling := by
  unfold State.takePitch
  split
  · simp only
    split
    all_goals exact handling.congr rfl rfl rfl rfl (fun p => by cases p <;> rfl) rfl rfl
  · exact handling

end State.Handling

/-! ## The decide (R68 to R73) -/

/-- What is left of the pending triggers of a port where a record is decided (R69). -/
def CameraPort.without (c : CameraPort) (r : Record) : CameraPort :=
  { c with pending := c.pending.filter fun e => e.sequence != r.sequence }

/-- What a decide does to a port: the entry of the record leaves where its verdict is pending (R69). -/
theorem State.decideHead_port (s : State) (r : Record) (rest : List Record) (p : Port) :
    (s.decideHead r rest).port p = if r.verdict p = .pending then (s.port p).without r else s.port p := by
  have dropped (u : State) (q : Port) : (u.dropPending q r).port p =
      if q = p ∧ r.verdict p = .pending then (u.port p).without r else u.port p := by
    unfold State.dropPending
    cases p <;> cases q <;> split <;> simp_all [State.port, State.setPort, CameraPort.without]
  have routed : (s.decideHead r rest).port p = ((s.dropPending .a r).dropPending .b r).port p := by
    cases p <;> simp only [State.decideHead, State.routeDecided, State.port] <;> split <;> simp
  rw [routed, dropped, dropped]
  cases p <;> simp

/-- The sequences that await a verdict are among those of the records, each once. -/
theorem State.awaiting_nodup (s : State) (p : Port) (distinct : (s.tracking.records.map Record.sequence).Nodup) : (s.awaiting p).Nodup :=
  distinct.sublist (List.filter_sublist.map _)

/-- Pending triggers in queue order stay sound where the head record is decided: its own entry is the first, and leaves (R69, R103). -/
theorem State.TriggersSound.decided {p : Port} (sound : s.TriggersSound p) {r : Record} {rest : List Record}
    (distinct : (s.tracking.records.map Record.sequence).Nodup) (records : s.tracking.records = r :: rest)
    (left : t.tracking.records = rest) (port : t.port p = if r.verdict p = .pending then (s.port p).without r else s.port p) :
    t.TriggersSound p := by
  have apart : ∀ x ∈ rest, x.sequence ≠ r.sequence := by
    rw [records, List.map_cons, List.nodup_cons] at distinct
    exact fun x listed same => distinct.1 (same ▸ List.mem_map_of_mem listed)
  have stays {e : PendingTrigger} (other : e.sequence ≠ r.sequence ∨ r.verdict p ≠ .pending) (listed : e ∈ (s.port p).pending) :
      ∃ x ∈ t.tracking.records, x.sequence = e.sequence ∧ x.verdict p = .pending := by
    obtain ⟨x, tracked, name, waits⟩ := sound.named e listed
    rw [left]
    rw [records] at tracked
    rcases List.mem_cons.mp tracked with rfl | later
    · exact absurd other (by simp [name, waits])
    · exact ⟨x, later, name, waits⟩
  have order := sound.order
  by_cases waits : r.verdict p = .pending
  · have awaiting : s.awaiting p = r.sequence :: t.awaiting p := by
      simp [State.awaiting, records, left, waits]
    rw [if_pos waits] at port
    rw [awaiting] at order
    cases listed : (s.port p).pending with
    | nil =>
      have none : (t.port p).pending = [] := by simp [port, CameraPort.without, listed]
      exact ⟨by simp [none], by simp [none], by simp [none], by simp [none]⟩
    | cons e later =>
      rw [listed, List.map_cons, List.cons_prefix_cons] at order
      obtain ⟨name, order⟩ := order
      have others : ∀ x ∈ later, x.sequence ≠ e.sequence := by
        intro x inLater
        have named : x.sequence ∈ t.awaiting p := order.subset (List.mem_map_of_mem inLater)
        simp only [State.awaiting, left, List.mem_map, List.mem_filter] at named
        obtain ⟨y, ⟨tracked, -⟩, same⟩ := named
        rw [← same, name]
        exact apart y tracked
      have kept : (t.port p).pending = later := by
        rw [port, CameraPort.without, listed]
        simp only [List.filter_cons, ← name]
        simpa using others
      have tag : (t.port p).tag = (s.port p).tag := by rw [port]; rfl
      refine ⟨?_, ?_, fun x inLater => ?_, by rw [kept]; exact order⟩
      · have tags := congrArg List.tail sound.tags
        rw [listed, List.length_cons, List.range_succ_eq_map] at tags
        simpa [kept, tag, Function.comp_def] using tags
      · rw [kept]
        have distinct_tags := sound.distinct
        rw [listed] at distinct_tags
        exact (List.nodup_cons.mp distinct_tags).2
      · rw [kept] at inLater
        exact stays (.inl (name ▸ others x inLater)) (by rw [listed]; exact List.mem_cons_of_mem e inLater)
  · rw [if_neg waits] at port
    have awaiting : s.awaiting p = t.awaiting p := by simp [State.awaiting, records, left, waits]
    exact ⟨by rw [port]; exact sound.tags, by rw [port]; exact sound.distinct,
      fun e listed => stays (.inr waits) (port ▸ listed), by rw [port, ← awaiting]; exact order⟩

/-- The Tracking Queue stays in order where the head record leaves (R73). -/
theorem State.TrackingSound.tail (sound : s.TrackingSound) {r : Record} {rest : List Record} (records : s.tracking.records = r :: rest)
    (left : t.tracking.records = rest) (next : t.tracking.nextSequence = s.tracking.nextSequence)
    (config : t.loader.record = s.loader.record) : t.TrackingSound := by
  obtain ⟨order, nonzero, distinct, delays⟩ := sound
  rw [records, List.map_cons] at order distinct
  refine ⟨?_, ⟨next ▸ nonzero.1, fun x listed => nonzero.2 x ?_⟩, ?_, config ▸ delays⟩
  · rw [left, next]
    exact order.tail
  · rw [records]
    exact List.mem_cons_of_mem r (left ▸ listed)
  · rw [left]
    exact (List.nodup_cons.mp distinct).2

/-- What a decide leaves of the gate is kept (R71, R121). -/
theorem State.decideHead_gate (kept : s.gate.Kept true) (r : Record) (rest : List Record) : (s.decideHead r rest).gate.Kept true := by
  unfold State.decideHead State.routeDecided
  simp only
  split
  · unfold State.routeRejected
    split
    · simp only [State.report_frame]
      refine State.handFiring_gate ?_ _ _
      simpa using kept
    · split <;> simpa using kept
  · simpa using kept

namespace State.Handling

/-- The decide keeps what is kept (R68 to R73). -/
theorem decide (handling : s.Handling) (runs : s.running = true) : s.decide.Handling := by
  unfold State.decide
  cases records : s.tracking.records with
  | nil => exact handling
  | cons r rest =>
    simp only
    split
    · obtain ⟨loader, -⟩ := State.decideHead_frame s r rest
      have stays : (s.decideHead r rest).running = s.running := State.running_congr loader
      have left : (s.decideHead r rest).tracking = { s.tracking with records := rest } := by simp [State.decideHead]
      have few := handling.records.1
      rw [records, List.length_cons] at few
      refine ⟨⟨?_, fun stopped => ?_⟩, ?_, ?_, ?_, fun p => ?_, fun p => ?_⟩
      · rw [left]
        exact Nat.le_of_succ_le few
      · exact absurd (runs.symm.trans (stays.symm.trans stopped)) (by simp)
      · rw [left, stays]
        exact handling.arrivals
      · exact handling.tracking.tail records (by rw [left]) (by rw [left]) (by rw [loader])
      · rw [stays, runs]
        exact State.decideHead_gate (runs ▸ handling.gate) r rest
      · rw [stays, State.decideHead_port]
        have kept := handling.ports p
        split
        · refine ⟨⟨kept.sound.trigger, kept.sound.strobe, kept.sound.hunt, kept.sound.bits⟩,
            (List.length_filter_le _ _).trans kept.few, fun stopped => ?_⟩
          exact absurd (runs.symm.trans stopped) (by simp)
        · exact kept
      · exact (handling.triggers p).decided handling.tracking.distinct records (by rw [left]) (s.decideHead_port r rest p)
    · exact handling

end State.Handling

end

end Sys2Proof.Machine

/-! PROOFS of what every command keeps, eleventh part: the camera ports (R100 to R116). -/

namespace Sys2Proof.Machine

section
variable {s t : State}

/-! ## Verdicts of a record -/

@[simp] theorem Record.withVerdict_sequence (r : Record) (p : Port) (v : Verdict) : (r.withVerdict p v).sequence = r.sequence := by
  cases p <;> rfl

@[simp] theorem Record.withVerdict_verdict (r : Record) (p : Port) (v : Verdict) : (r.withVerdict p v).verdict p = v := by
  cases p <;> rfl

/-- A verdict at one port leaves the other's. -/
theorem Record.withVerdict_other (r : Record) {p q : Port} (other : q ≠ p) (v : Verdict) : (r.withVerdict p v).verdict q = r.verdict q := by
  cases p <;> cases q
  case a.a | b.b => exact absurd rfl other
  all_goals rfl

/-- Entries retired, one after another, are retired at once (R114). -/
theorem State.retireAll_eq (s : State) (p : Port) (es : List PendingTrigger) : es.foldl (fun u e => u.retire p e) s =
    { s with tracking := { s.tracking with records := s.tracking.records.map fun r =>
        if r.sequence ∈ (es.map PendingTrigger.sequence) then r.withVerdict p .missed else r } } := by
  induction es generalizing s with
  | nil => simp
  | cons e es ih =>
    have again (r : Record) : (r.withVerdict p .missed).withVerdict p .missed = r.withVerdict p .missed := by cases p <;> rfl
    rw [List.foldl_cons, ih]
    simp only [State.retire, State.updateRecord, List.map_map, State.mk.injEq, Tracking.mk.injEq, true_and, and_true]
    refine List.map_congr_left fun r _ => ?_
    simp only [Function.comp, List.map_cons, List.mem_cons]
    by_cases same : r.sequence = e.sequence
    · simp only [same, if_true, true_or, Record.withVerdict_sequence, again, ite_self]
    · simp only [same, if_false, false_or]

/-- Pending triggers in queue order stay sound where the records of some of them, the first in the list, are judged: those leave, and
the others stay (R104, R114, R115). -/
theorem State.TriggersSound.settled {p : Port} (sound : s.TriggersSound p) {judged : List Word32} {g : Record → Record}
    {passed later : List PendingTrigger} (pending : (s.port p).pending = passed ++ later) (left : (t.port p).pending = later)
    (tag : (t.port p).tag = (s.port p).tag) (gone : ∀ e ∈ passed, e.sequence ∈ judged) (stays : ∀ e ∈ later, e.sequence ∉ judged)
    (records : t.tracking.records = s.tracking.records.map g) (sequence : ∀ r, (g r).sequence = r.sequence)
    (verdict : ∀ r, (g r).verdict p = .pending ↔ r.verdict p = .pending ∧ r.sequence ∉ judged) : t.TriggersSound p := by
  obtain ⟨tags, distinct, named, order⟩ := sound
  have awaiting : t.awaiting p = (s.awaiting p).filter fun n => n ∉ judged := by
    simp only [State.awaiting, records, List.filter_map, List.map_map, List.filter_filter, Function.comp_def, sequence, verdict]
    congr 2
    funext r
    by_cases waits : r.verdict p = .pending <;> by_cases listed : r.sequence ∈ judged <;> simp [waits, listed]
  refine ⟨?_, ?_, fun e listed => ?_, ?_⟩
  · have cut := congrArg (List.drop passed.length) tags
    rw [pending, List.map_append, List.drop_left' (List.length_map _)] at cut
    rw [left, tag, cut]
    refine List.ext_getElem (by simp) fun i insideA insideB => ?_
    simp only [List.length_append, List.getElem_drop, List.getElem_map, List.getElem_range]
    congr 2
    omega
  · rw [pending, List.map_append] at distinct
    rw [left]
    exact (List.nodup_append.mp distinct).2.1
  · rw [left] at listed
    obtain ⟨r, tracked, name, waits⟩ := named e (by rw [pending]; exact List.mem_append_right _ listed)
    refine ⟨g r, records ▸ List.mem_map_of_mem tracked, (sequence r).trans name, (verdict r).mpr ⟨waits, ?_⟩⟩
    rw [name]
    exact stays e listed
  · have part := order.filter fun n => (n ∉ judged : Bool)
    rw [pending, List.map_append, List.filter_append] at part
    rw [left, awaiting]
    have none : (passed.map PendingTrigger.sequence).filter (fun n => (n ∉ judged : Bool)) = [] := by
      simpa using gone
    have all : (later.map PendingTrigger.sequence).filter (fun n => (n ∉ judged : Bool)) = later.map PendingTrigger.sequence := by
      simpa using stays
    rwa [none, all, List.nil_append] at part

/-- The record that is to be triggered next takes the next place among the pending triggers (R103, R105). -/
theorem State.TriggersSound.triggered {p : Port} (sound : s.TriggersSound p) {r : Record} (next : s.nextToTrigger p = some r)
    (few : (s.port p).pending.length < 16) (distinct : (s.tracking.records.map Record.sequence).Nodup)
    (pending : (t.port p).pending = (s.port p).pending ++ [⟨(s.port p).tag, r.sequence⟩]) (tag : (t.port p).tag = (s.port p).tag + 1)
    (records : t.tracking.records = s.tracking.records) : t.TriggersSound p := by
  obtain ⟨tags, distinct_tags, named, order⟩ := sound
  obtain ⟨older, newer, tracked, waits, fresh, before⟩ := (s.nextToTrigger_iff p r).mp next
  have awaiting : t.awaiting p = s.awaiting p := by rw [State.awaiting, records]; rfl
  refine ⟨?_, ?_, fun e listed => ?_, ?_⟩
  · rw [pending, tag, List.map_append, tags, List.length_append, List.length_singleton, List.range_succ, List.map_append,
      List.map_singleton, List.map_singleton, Nat.add_sub_cancel_left]
    congr 1
    · refine List.map_congr_left fun i inside => ?_
      rw [Nat.succ_sub (List.mem_range.mp inside).le, Nat.succ_eq_add_one, BitVec.ofNat_add]
      bv_omega
    · simp
  · rw [pending, List.map_append, List.map_singleton, List.nodup_append]
    refine ⟨distinct_tags, List.nodup_singleton _, fun a listed b last same => ?_⟩
    rw [List.mem_singleton] at last
    rw [tags] at listed
    obtain ⟨i, inside, rfl⟩ := List.mem_map.mp listed
    have below := List.mem_range.mp inside
    have gap : BitVec.ofNat 8 ((s.port p).pending.length - i) = 0 := by
      rw [last] at same
      bv_omega
    have := congrArg BitVec.toNat gap
    simp at this
    omega
  · rw [pending, List.mem_append, List.mem_singleton] at listed
    rcases listed with old | rfl
    · rw [records]
      exact named e old
    · exact ⟨r, by rw [records, tracked]; simp, rfl, waits⟩
  · have split_at : s.awaiting p = (older.filter fun r => r.verdict p = .pending).map Record.sequence ++
        r.sequence :: (newer.filter fun r => r.verdict p = .pending).map Record.sequence := by
      rw [State.awaiting, tracked, List.filter_append, List.map_append, List.filter_cons_of_pos (by simpa using waits), List.map_cons]
    have each_once := s.awaiting_nodup p distinct
    rw [pending, List.map_append, List.map_singleton, awaiting]
    rw [split_at] at order each_once ⊢
    have first : (older.filter fun r => r.verdict p = .pending).map Record.sequence = (s.port p).pending.map PendingTrigger.sequence := by
      have listed : ∀ n ∈ (older.filter fun r => r.verdict p = .pending).map Record.sequence,
          n ∈ (s.port p).pending.map PendingTrigger.sequence := by
        simp only [List.mem_map, List.mem_filter, decide_eq_true_eq]
        rintro n ⟨o, ⟨inOlder, pends⟩, rfl⟩
        exact before o inOlder pends
      rcases List.prefix_or_prefix_of_prefix order (List.prefix_append _ _) with short | long
      · refine (short.eq_of_length ?_).symm
        refine Nat.le_antisymm short.length_le ?_
        exact ((List.nodup_append.mp each_once).1.subperm listed).length_le
      · obtain ⟨more, longer⟩ := long
        rw [← longer] at order ⊢
        rw [List.prefix_append_right_inj] at order
        cases more with
        | nil => simp
        | cons n more =>
          obtain ⟨named, -⟩ := List.cons_prefix_cons.mp order
          have member : r.sequence ∈ (s.port p).pending.map PendingTrigger.sequence := by rw [← longer, named]; simp
          obtain ⟨e, listed, same⟩ := List.mem_map.mp member
          exact absurd same (fresh e listed)
    rw [first]
    refine (List.prefix_append_right_inj _).mpr ?_
    exact List.cons_prefix_cons.mpr ⟨rfl, List.nil_prefix⟩

/-! ## What the ports' commands keep -/

/-- The other port stays where one is changed. -/
theorem State.setPort_other (s : State) {p q : Port} (other : q ≠ p) (f : CameraPort → CameraPort) : (s.setPort p f).port q = s.port q := by
  cases p <;> cases q
  case a.a | b.b => exact absurd rfl other
  all_goals rfl

namespace State.Handling

/-- Records judged, with their entries taken from the head of the list, keep what is kept. -/
theorem judged (handling : s.Handling) {p : Port} {names : List Word32} {g : Record → Record} {f : CameraPort → CameraPort}
    {passed later : List PendingTrigger} (pending : (s.port p).pending = passed ++ later) (left : (f (s.port p)).pending = later)
    (tag : (f (s.port p)).tag = (s.port p).tag) (gone : ∀ e ∈ passed, e.sequence ∈ names) (stays : ∀ e ∈ later, e.sequence ∉ names)
    (sequence : ∀ r, (g r).sequence = r.sequence)
    (verdict : ∀ r, (g r).verdict p = .pending ↔ r.verdict p = .pending ∧ r.sequence ∉ names)
    (other : ∀ q, q ≠ p → ∀ r, (g r).verdict q = r.verdict q) (kept : (f (s.port p)).Kept s.running) :
    (({ s with tracking := { s.tracking with records := s.tracking.records.map g } } : State).setPort p f).Handling := by
  have same_port (q : Port) : ({ s with tracking := { s.tracking with records := s.tracking.records.map g } } : State).port q = s.port q := by
    cases q <;> rfl
  have port : (({ s with tracking := { s.tracking with records := s.tracking.records.map g } } : State).setPort p f).port p =
      f (s.port p) := by rw [State.setPort_port, same_port]
  have away {q : Port} (apart : q ≠ p) : (({ s with tracking := { s.tracking with records := s.tracking.records.map g } } :
      State).setPort p f).port q = s.port q := by rw [State.setPort_other _ apart, same_port]
  have runs : (({ s with tracking := { s.tracking with records := s.tracking.records.map g } } : State).setPort p f).running = s.running :=
    State.running_congr (by simp)
  have records : (({ s with tracking := { s.tracking with records := s.tracking.records.map g } } :
      State).setPort p f).tracking = { s.tracking with records := s.tracking.records.map g } := by simp
  refine ⟨⟨?_, fun stopped => ?_⟩, ?_, ?_, ?_, fun q => ?_, fun q => ?_⟩
  · rw [records, List.length_map]
    exact handling.records.1
  · rw [records, handling.records.2 (runs ▸ stopped), List.map_nil]
  · rw [records, runs]
    exact handling.arrivals
  · refine handling.tracking.sequenced ?_ (by rw [records]) (by simp)
    rw [records, List.map_map]
    exact List.map_congr_left fun r _ => sequence r
  · rw [runs, State.setPort_gate]
    exact handling.gate
  · rw [runs]
    by_cases here : q = p
    · rw [here, port]
      exact kept
    · rw [away here]
      exact handling.ports q
  · by_cases here : q = p
    · subst here
      exact (handling.triggers q).settled pending (by rw [port, left]) (by rw [port, tag]) gone stays (by rw [records]) sequence verdict
    · exact (handling.triggers q).settled (judged := []) (passed := []) rfl (by rw [away here]) (by rw [away here]) (by simp) (by simp)
        (by rw [records]) sequence (by simp [other q here])

/-- A change of a port that keeps its list, its tag and what is kept of it. -/
theorem withPort (handling : s.Handling) {p : Port} {f : CameraPort → CameraPort} (pending : (f (s.port p)).pending = (s.port p).pending)
    (tag : (f (s.port p)).tag = (s.port p).tag) (kept : (f (s.port p)).Kept s.running) : (s.setPort p f).Handling := by
  have done := handling.judged (names := []) (g := id) (passed := []) (f := f) rfl pending tag (by simp) (by simp) (fun _ => rfl)
    (by simp) (fun _ _ _ => rfl) kept
  rwa [List.map_id] at done

/-- A trigger taken or refused keeps what is kept (R103 to R105). -/
theorem trigger (handling : s.Handling) (runs : s.running = true) {p : Port} (busy : Bool) {r : Record} (next : s.nextToTrigger p = some r) :
    (s.trigger p busy r).Handling := by
  obtain ⟨older, newer, tracked, waits, fresh, before⟩ := (s.nextToTrigger_iff p r).mp next
  have kept := handling.ports p
  have never {P : Prop} (stopped : s.running = false) : P := absurd (runs.symm.trans stopped) (by simp)
  unfold State.trigger
  simp only
  split
  next refused =>
    have done := handling.judged (p := p) (names := [r.sequence]) (passed := []) (later := (s.port p).pending)
      (g := fun x => if x.sequence = r.sequence then x.withVerdict p .notTaken else x) (f := fun c => { c with busy := busy }) rfl rfl rfl
      (by simp) (by simpa using fresh) (fun x => by split <;> simp) (fun x => by split <;> simp [*])
      (fun q other x => by split; exact Record.withVerdict_other x other _; rfl)
      ⟨⟨kept.sound.trigger, kept.sound.strobe, kept.sound.hunt, kept.sound.bits⟩, kept.few, fun stopped => never stopped⟩
    cases p <;> exact done
  next taken =>
    have room : (s.port p).pending.length < 16 := by
      by_contra full
      refine taken ?_
      rw [CameraPort.refuses_iff]
      omega
    have port (q : Port) : (((s.setPort p fun c => { c with busy := busy }).setPort p fun c => c.takeTrigger r.sequence).port q) =
        if q = p then ({ s.port p with busy := busy } : CameraPort).takeTrigger r.sequence else s.port q := by
      split
      next here => rw [here, State.setPort_port, State.setPort_port]
      next apart => rw [State.setPort_other _ apart, State.setPort_other _ apart]
    have sampled := handling.withPort (p := p) (f := fun c => { c with busy := busy }) rfl rfl
      ⟨⟨kept.sound.trigger, kept.sound.strobe, kept.sound.hunt, kept.sound.bits⟩, kept.few, fun stopped => never stopped⟩
    have stays : ((s.setPort p fun c => { c with busy := busy }).setPort p fun c => c.takeTrigger r.sequence).running = s.running :=
      State.running_congr (by simp)
    refine ⟨?_, ?_, handling.tracking.sequenced (by simp) (by simp) (by simp), ?_, fun q => ?_, fun q => ?_⟩
    · rw [stays, State.setPort_tracking, State.setPort_tracking]
      exact handling.records
    · rw [stays, State.setPort_tracking, State.setPort_tracking]
      exact handling.arrivals
    · rw [stays, State.setPort_gate, State.setPort_gate]
      exact handling.gate
    · rw [stays, port]
      split
      · refine ⟨⟨rfl, kept.sound.strobe, kept.sound.hunt, kept.sound.bits⟩, ?_, fun stopped => never stopped⟩
        simp only [CameraPort.takeTrigger, List.length_append, List.length_singleton]
        omega
      · exact handling.ports q
    · by_cases here : q = p
      · subst here
        exact (handling.triggers q).triggered next room handling.tracking.distinct (by rw [port, if_pos rfl]; rfl)
          (by rw [port, if_pos rfl]; rfl) (by simp)
      · exact (handling.triggers q).congr (by rw [port, if_neg here]) (by rw [port, if_neg here]) (by simp [State.marks])

/-- The trigger time keeps what is kept (R103). -/
theorem triggerTime (handling : s.Handling) (p : Port) (busy : Bool) (works : s.portWorks p = true) :
    (effect (.triggerTime p busy) s).Handling := by
  have runs := ((s.portWorks_iff p).mp works).1
  show (match s.triggerDue p with | none => s | some r => s.trigger p busy r).Handling
  cases due : s.triggerDue p with
  | none => exact handling
  | some r => exact handling.trigger runs busy (Option.filter_eq_some_iff.mp due).1

/-- The end of a trigger pulse keeps what is kept (R106). -/
theorem triggerPulseEnd (handling : s.Handling) (p : Port) : (effect (.triggerPulseEnd p) s).Handling := by
  show (s.setPort p fun c => { c with trigger := none, triggerOut := false, guard := some 0 }).Handling
  have kept := handling.ports p
  refine handling.withPort rfl rfl ⟨⟨rfl, kept.sound.strobe, kept.sound.hunt, kept.sound.bits⟩, kept.few, fun stopped => ?_⟩
  obtain ⟨pending, schedule, -, strobe, rest⟩ := kept.still stopped
  exact ⟨pending, schedule, rfl, strobe, rest⟩

/-- The end of a guard time keeps what is kept (R106). -/
theorem guardEnd (handling : s.Handling) (p : Port) : (effect (.guardEnd p) s).Handling := by
  show (s.setPort p fun c => { c with guard := none }).Handling
  have kept := handling.ports p
  exact handling.withPort rfl rfl ⟨⟨kept.sound.trigger, kept.sound.strobe, kept.sound.hunt, kept.sound.bits⟩, kept.few, kept.still⟩

/-- The end of a strobe keeps what is kept (R110). -/
theorem strobeEnd (handling : s.Handling) (p : Port) : (effect (.strobeEnd p) s).Handling := by
  show (s.setPort p fun c => { c with strobe := none, strobeOut := false, offTimer := if (s.camera p).strobeOff = 0 then none else some 0 }).Handling
  have kept := handling.ports p
  refine handling.withPort rfl rfl ⟨⟨kept.sound.trigger, rfl, kept.sound.hunt, kept.sound.bits⟩, kept.few, fun stopped => ?_⟩
  obtain ⟨pending, schedule, trigger, -, rest⟩ := kept.still stopped
  exact ⟨pending, schedule, trigger, rfl, rest⟩

/-- The end of the off time keeps what is kept (R110). -/
theorem strobeOffExpiry (handling : s.Handling) (p : Port) : (effect (.strobeOffExpiry p) s).Handling := by
  show (s.setPort p fun c => { c with offTimer := none }).Handling
  have kept := handling.ports p
  exact handling.withPort rfl rfl ⟨⟨kept.sound.trigger, kept.sound.strobe, kept.sound.hunt, kept.sound.bits⟩, kept.few, kept.still⟩

/-- A record marked unlit keeps its mark, and so what is kept (R109). -/
theorem withUnlit (handling : s.Handling) (p : Port) (sequence : Word32) :
    (s.updateRecord sequence fun r => r.withUnlit p).Handling :=
  handling.congr (State.updateRecord_marks s sequence fun r => by cases p <;> rfl) rfl rfl rfl (fun q => by cases q <;> rfl) rfl rfl

/-- A strobe given or skipped keeps what is kept (R108, R109). -/
theorem strobeDue (handling : s.Handling) (runs : s.running = true) (p : Port) : (s.strobeDue p).Handling := by
  have kept := handling.ports p
  have never {P : Prop} (stopped : s.running = false) : P := absurd (runs.symm.trans stopped) (by simp)
  unfold State.strobeDue
  split
  · exact handling
  · split
    · unfold State.strobe
      simp only
      split
      · refine State.Handling.occur (State.Handling.withUnlit ?_ _ _) _ _
        exact handling.withPort rfl rfl ⟨⟨kept.sound.trigger, kept.sound.strobe, kept.sound.hunt, kept.sound.bits⟩, kept.few, never⟩
      · rw [State.setPort_setPort]
        exact handling.withPort rfl rfl ⟨⟨kept.sound.trigger, rfl, kept.sound.hunt, kept.sound.bits⟩, kept.few, never⟩
    · exact handling

/-! ### Result messages (R111 to R116) -/

/-- An abandoned message keeps what is kept (R112). -/
theorem abandon (handling : s.Handling) (p : Port) : (s.abandon p).Handling := by
  have kept := handling.ports p
  refine State.Handling.occur (handling.withPort rfl rfl ⟨⟨kept.sound.trigger, kept.sound.strobe, fun _ => rfl, kept.sound.bits⟩, kept.few,
    fun stopped => ?_⟩) _ _
  obtain ⟨pending, schedule, trigger, strobe, receiver, -⟩ := kept.still stopped
  exact ⟨pending, schedule, trigger, strobe, receiver, rfl, rfl⟩

/-- A port's assembler moved on, with the inter-byte timer stopped in HUNT, keeps what is kept in RUNNING (R112, R113). -/
theorem assembles (handling : s.Handling) (runs : s.running = true) (p : Port) {assembler : Assembler} {interByte : Timer}
    (hunt : assembler = .hunt → interByte = none) :
    (s.setPort p fun c => { c with assembler := assembler, interByte := interByte }).Handling := by
  have kept := handling.ports p
  exact handling.withPort rfl rfl ⟨⟨kept.sound.trigger, kept.sound.strobe, hunt, kept.sound.bits⟩, kept.few,
    fun stopped => absurd (runs.symm.trans stopped) (by simp)⟩

/-- A list parted at a tag is the entries before, the one with the tag, and those after it. -/
theorem splitAtTag_parts {tag : Byte} {list passed later : List PendingTrigger} {hit : PendingTrigger}
    (parted : splitAtTag tag list = some (passed, hit, later)) : list = passed ++ hit :: later := by
  induction list generalizing passed with
  | nil => simp [splitAtTag] at parted
  | cons e rest ih =>
    unfold splitAtTag at parted
    split at parted
    · simp only [Option.some.injEq, Prod.mk.injEq] at parted
      obtain ⟨rfl, rfl, rfl⟩ := parted
      rfl
    · cases further : splitAtTag tag rest with
      | none => simp [further] at parted
      | some parts =>
        obtain ⟨before, found, behind⟩ := parts
        simp only [further, Option.some.injEq, Prod.mk.injEq] at parted
        obtain ⟨rfl, rfl, rfl⟩ := parted
        rw [List.cons_append, ih further]

/-- A verdict matched to its trigger keeps what is kept (R114, R115). -/
theorem matchResult (handling : s.Handling) (runs : s.running = true) (p : Port) (tag verdict : Byte) :
    (s.matchResult p tag verdict).Handling := by
  have kept := handling.ports p
  unfold State.matchResult
  cases parted : splitAtTag tag (s.port p).pending with
  | none => exact (handling.occur _ _).count _
  | some parts =>
    obtain ⟨passed, hit, later⟩ := parts
    have listed := splitAtTag_parts parted
    have listed' : (s.port p).pending = (passed ++ [hit]) ++ later := by rw [listed]; simp
    have once : ((s.port p).pending.map PendingTrigger.sequence).Nodup :=
      (s.awaiting_nodup p handling.tracking.distinct).sublist (handling.triggers p).order.sublist
    rw [listed', List.map_append, List.nodup_append] at once
    have done := handling.judged (names := (passed ++ [hit]).map PendingTrigger.sequence) (passed := passed ++ [hit])
      (g := fun r => if r.sequence = hit.sequence then
          (if r.sequence ∈ (passed.map PendingTrigger.sequence) then r.withVerdict p .missed else r).withVerdict p (verdictOf verdict)
        else if r.sequence ∈ (passed.map PendingTrigger.sequence) then r.withVerdict p .missed else r)
      (f := fun c => { c with pending := later }) listed' rfl rfl (fun e inPassed => List.mem_map_of_mem inPassed)
      (fun e inLater named => once.2.2 _ named _ (List.mem_map_of_mem inLater) rfl)
      (fun r => by split <;> split <;> simp)
      (fun r => by
        have judged : verdictOf verdict ≠ .pending := by unfold verdictOf; split <;> simp
        by_cases here : r.sequence = hit.sequence
        · simp [here, judged]
        · by_cases missed : r.sequence ∈ passed.map PendingTrigger.sequence
          · simp [here, missed]
          · simp [here, missed])
      (fun q other r => by
        split <;> split <;> simp only [Record.withVerdict_other _ other])
      ⟨⟨kept.sound.trigger, kept.sound.strobe, kept.sound.hunt, kept.sound.bits⟩, by
        have few := kept.few
        rw [listed', List.length_append] at few
        exact (Nat.le_add_left _ _).trans few, fun stopped => absurd (runs.symm.trans stopped) (by simp)⟩
    refine State.Handling.count ?_ _
    rw [← State.updateRecord_setPort, State.retireAll_eq]
    refine Eq.mp (congrArg (fun records => State.Handling (State.setPort { s with tracking := { s.tracking with records := records } } p _)) ?_)
      done
    simp only [List.map_map]
    refine List.map_congr_left fun r _ => ?_
    have name : (if r.sequence ∈ (passed.map PendingTrigger.sequence) then r.withVerdict p .missed else r).sequence = r.sequence := by
      split <;> simp
    simp only [Function.comp, name]

/-- A byte taken by the assembler keeps what is kept (R112 to R116). -/
theorem takeByte (handling : s.Handling) (runs : s.running = true) (p : Port) (b : Byte) : (s.takeByte p b).Handling := by
  unfold State.takeByte
  split
  · split
    · exact handling.assembles runs p (by simp)
    · exact handling
  · exact handling.assembles runs p (by simp)
  · exact handling.assembles runs p (by simp)
  · unfold State.takeCheck
    split
    · have hunts := handling.assembles runs p (assembler := .hunt) (interByte := none) fun _ => rfl
      exact hunts.matchResult ((State.running_congr (by simp)).trans runs) p _ _
    · exact handling.abandon p

/-- A character handed on keeps what is kept, where what is done with it does (R111, R113). -/
theorem handOn (handling : s.Handling) (runs : s.running = true) (p : Port) {act : State → State}
    (acts : ∀ u : State, u.Handling → u.running = true → (act u).Handling) : (s.handOn p act).Handling := by
  have kept := handling.ports p
  have bits : ∀ gone taken, (s.port p).receiver.handedOn = .inCharacter gone taken → taken.length ≤ 8 := by
    intro gone taken during
    cases receiver : (s.port p).receiver with
    | inCharacter elapsed bits =>
      rw [receiver] at during
      exact kept.sound.bits gone taken (receiver.trans during)
    | complete result => cases result <;> simp [receiver, SerialReceiver.handedOn] at during
    | idle => simp [receiver, SerialReceiver.handedOn] at during
    | waitHigh => simp [receiver, SerialReceiver.handedOn] at during
  have freed : (s.setPort p fun c => { c with receiver := c.receiver.handedOn }).Handling :=
    handling.withPort rfl rfl ⟨⟨kept.sound.trigger, kept.sound.strobe, kept.sound.hunt, bits⟩, kept.few,
      fun stopped => absurd (runs.symm.trans stopped) (by simp)⟩
  have stays : (s.setPort p fun c => { c with receiver := c.receiver.handedOn }).running = true :=
    (State.running_congr (by simp)).trans runs
  unfold State.handOn
  simp only
  split
  · exact acts _ (freed.abandon p) ((State.running_congr (by simp)).trans stays)
  · exact acts _ freed stays

end State.Handling

/-! ## A local microsecond (R5, R111) -/

/-- A timer that runs runs on. -/
theorem Timer.tick_isSome (timer : Timer) : timer.tick.isSome = timer.isSome := by cases timer <;> rfl

/-- The inter-byte timer is not started by the line: stopped, it stays so (R113). -/
theorem interByteStep_none (limit : Nat) (rx : SerialReceiver) (high : Bool) : interByteStep limit rx high none = none := by
  cases rx <;> cases high <;> rfl

/-- A local microsecond keeps a port, in RUNNING and where it is still (R100, R107, R110). -/
theorem CameraPort.Kept.tick {c : CameraPort} {runs : Bool} (kept : c.Kept runs) : c.tick.Kept runs := by
  refine ⟨⟨?_, ?_, kept.sound.hunt, kept.sound.bits⟩, kept.few, fun stopped => ?_⟩
  · exact kept.sound.trigger.trans (Timer.tick_isSome c.trigger).symm
  · exact kept.sound.strobe.trans (Timer.tick_isSome c.strobe).symm
  · obtain ⟨pending, schedule, rest⟩ := kept.still stopped
    exact ⟨pending, by rw [CameraPort.tick, schedule]; rfl, rest⟩

/-- The result line keeps a port that works (R111, R113). -/
theorem CameraPort.Kept.readResult {c : CameraPort} (kept : c.Kept true) (code : Nat) (high : Bool) : (c.readResult code high).Kept true := by
  refine ⟨⟨kept.sound.trigger, kept.sound.strobe, fun hunts => ?_, fun gone taken during => ?_⟩, kept.few, fun stopped => by simp at stopped⟩
  · simp only [CameraPort.readResult, kept.sound.hunt hunts, interByteStep_none]
  · exact SerialReceiver.step_bits code c.receiver high kept.sound.bits gone taken during

/-- A local microsecond keeps what is kept of the Tracking Unit, the gate and the ports (R5). -/
theorem State.Handling.tick (handling : s.Handling) (pins : PinSamples) : (s.tick pins).Handling := by
  have port (p : Port) : (s.tick pins).port p = s.tickPort p pins := by cases p <;> rfl
  have parts (p : Port) : (s.tickPort p pins).pending = (s.port p).pending ∧ (s.tickPort p pins).tag = (s.port p).tag := by
    unfold State.tickPort
    split
    · exact ⟨rfl, rfl⟩
    · exact ⟨rfl, rfl⟩
  refine ⟨handling.records, handling.arrivals, handling.tracking.congr rfl rfl rfl, handling.gate.congr rfl rfl, fun p => ?_, fun p => ?_⟩
  · rw [port, State.tickPort]
    show CameraPort.Kept _ s.running
    have ticked := (handling.ports p).tick
    split
    next works =>
      have runs := ((s.portWorks_iff p).mp works).1
      rw [runs] at ticked ⊢
      exact ticked.readResult _ _
    · exact ticked
  · exact (handling.triggers p).congr (by rw [port, (parts p).1]) (by rw [port, (parts p).2]) rfl

end

end Sys2Proof.Machine

/-! PROOFS of what every command keeps, twelfth part: what the frame commands share, and the whole of what is kept of the Tracking Unit,
the Reject Gate and the camera ports. -/

namespace Sys2Proof.Machine

/-! ## What the frame commands share (R162, R171, R172) -/

/-- A property of the state that receiving a frame keeps: letting it go, hearing its peer, an event and a count. -/
structure Receives (P : State → Prop) : Prop where
  free : ∀ u, P u → P u.releaseFrame
  heard : ∀ u src, P u → P (u.peerHeard src)
  count : ∀ u c, P u → P (u.count c)
  occur : ∀ u e d, P u → P (u.occur e d)

section
variable {P : State → Prop} {s : State}

/-- Judging a frame keeps what taking it keeps (R162). -/
theorem Receives.judgeFrame (laws : Receives P) (holds : P s) (dest src : Byte) {taken : State → State} (takes : ∀ u, P u → P (taken u)) :
    P (s.judgeFrame dest src taken) := by
  unfold State.judgeFrame State.discard
  split
  · exact laws.count _ _ (laws.occur _ _ _ holds)
  · split
    · exact laws.count _ _ holds
    · split
      · exact takes _ (laws.heard _ _ holds)
      · exact laws.count _ _ (laws.heard _ _ holds)

/-- Receiving a frame keeps what its owner keeps (R162). -/
theorem Receives.receive (laws : Receives P) (holds : P s) (dest src : Byte) {owner : State → State} (owns : ∀ u, P u → P (owner u)) :
    P (s.receive dest src owner) :=
  laws.judgeFrame (laws.free s holds) dest src fun u kept => owns _ (laws.count u _ kept)

/-- A frame with one owner keeps what the owner keeps in RUNNING (R172). -/
theorem Receives.ownFrame (laws : Receives P) (holds : P s) (dest src dest' : Byte) {owner : State → State}
    (owns : ∀ u, P u → u.running = true → P (owner u)) : P (s.receive dest src fun u => u.ownFrame dest' owner) := by
  refine laws.receive holds dest src fun u kept => ?_
  unfold State.ownFrame State.discard
  split
  next mine =>
    simp only [Bool.and_eq_true] at mine
    exact owns u kept mine.1
  · exact laws.count _ _ kept

/-- A frame that acts on nothing keeps what receiving keeps (R171). -/
theorem Receives.receiveIdle (laws : Receives P) (holds : P s) (kind : FrameKind) (dest src : Byte) (payload : List Byte) :
    P (s.receiveIdle kind dest src payload) := by
  unfold State.receiveIdle
  split
  · exact laws.receive holds dest src fun _ kept => kept
  · exact laws.judgeFrame (laws.free s holds) dest src fun u kept => laws.count u _ kept

/-- A discarded frame keeps what receiving keeps (R162). -/
theorem Receives.discarded (laws : Receives P) (holds : P s) (dest src : Byte) : P (s.releaseFrame.judgeFrame dest src State.discard) :=
  laws.judgeFrame (laws.free s holds) dest src fun u kept => laws.count u _ kept

/-- An input whose debounce time is 0 keeps what its change keeps (R32). -/
theorem State.atOnce_preserves (holds : P s) (steps : Nat) {take : State → State} (takes : s.listening = true → P (take s)) :
    P (s.atOnce steps take) := by
  unfold State.atOnce
  split
  next now =>
    simp only [Bool.and_eq_true] at now
    exact takes now.2
  · exact holds

/-- A property of the state that the change of every debounced input keeps (R32). -/
structure Settles (P : State → Prop) : Prop where
  switch : ∀ u, P u → P u.takeSwitch
  door : ∀ u, P u → P u.takeDoor
  key : ∀ u, P u → P u.takeKey
  infeed : ∀ u, P u → P u.takeInfeed
  pitch : ∀ u, P u → P u.takePitch
  confirm : ∀ u, P u → P u.takeConfirm

/-- A quiet input keeps what its change keeps (R48, R120). -/
theorem Settles.takeQuiet (laws : Settles P) (holds : P s) (input : QuietInput) : P (s.takeQuiet input) := by
  cases input <;> simp only [State.takeQuiet] <;> split
  case infeed.isFalse => exact laws.infeed s holds
  case pitch.isFalse => exact laws.pitch s holds
  case confirm.isFalse => exact laws.confirm s holds
  all_goals exact holds

/-- What settles at the entry to JOINING keeps what each change keeps (log 12). -/
theorem Settles.atOnce (laws : Settles P) (holds : P s) : P s.settleAtOnce := by
  have settles {u : State} (steps : Nat) {take : State → State} (takes : ∀ v, P v → P (take v)) (kept : P u) : P (u.atOnce steps take) :=
    State.atOnce_preserves kept steps fun _ => takes u kept
  exact settles _ laws.confirm (settles _ laws.pitch (settles _ laws.infeed (settles _ laws.key (settles _ laws.door
    (settles _ laws.switch holds)))))

/-- A raw input keeps what its new level and the change of its input keep (R32, R33). -/
theorem Settles.rawInput (laws : Settles P)
    (cabinet : ∀ a b d k, P { s with cabinet := { s.cabinet with
      swA := s.cabinet.swA.rawTo s.listening a, swB := s.cabinet.swB.rawTo s.listening b } } ∧
      P { s with cabinet := { s.cabinet with door := s.cabinet.door.rawTo s.listening d } } ∧
      P { s with cabinet := { s.cabinet with key := s.cabinet.key.rawTo s.listening k } })
    (tracking : ∀ i p, P { s with tracking := { s.tracking with infeed := s.tracking.infeed.rawTo s.listening i } } ∧
      P { s with tracking := { s.tracking with pitch := s.tracking.pitch.rawTo s.listening p } })
    (confirm : ∀ c, P { s with gate := { s.gate with confirm := s.gate.confirm.rawTo s.readsConfirm c } })
    (fault : ∀ h f, P (s.setHead h fun x => { x with fault := x.fault.rawTo (s.listening && s.fitted h) f })) (input : RawInput) :
    P (s.rawInput input) := by
  have settles {u : State} (steps : Nat) {take : State → State} (takes : ∀ v, P v → P (take v)) (kept : P u) : P (u.atOnce steps take) :=
    State.atOnce_preserves kept steps fun _ => takes u kept
  cases input with
  | switch swa swb => exact settles _ laws.switch (cabinet swa (swbState swb) false false).1
  | door high => exact settles _ laws.door (cabinet false false high false).2.1
  | key high => exact settles _ laws.key (cabinet false false false high).2.2
  | infeed high => exact settles _ laws.infeed (tracking high false).1
  | pitch high => exact settles _ laws.pitch (tracking false high).2
  | confirm high => exact settles _ laws.confirm (confirm high)
  | driveFault h high => exact fault h high

end

/-! ## The Tracking Unit, the Reject Gate and the camera ports -/

namespace State.Handling
variable {s t : State}

/-- Receiving a frame keeps what is kept of the Tracking Unit, the gate and the ports. -/
theorem receives : Receives State.Handling :=
  ⟨fun _ kept => kept.same rfl rfl rfl rfl rfl, fun _ _ kept => kept.same (by simp) (by simp) (by simp) (by simp) (by simp),
    fun _ c kept => kept.count c, fun _ e d kept => kept.occur e d⟩

/-- Outside RUNNING nothing is tracked, fired or triggered, so what is kept holds of any station state. -/
theorem ofStill (handling : s.Handling) (stopped : s.running = false) (records : t.tracking.records = s.tracking.records)
    (next : t.tracking.nextSequence = s.tracking.nextSequence) (arrivals : t.tracking.arrivals = s.tracking.arrivals)
    (firings : t.gate.firings = s.gate.firings) (output : t.gate.output = s.gate.output) (ports : ∀ p, t.port p = s.port p)
    (delays : ∀ r, t.loader.record = some r → r.track.decideMarginMs < r.track.rejectDelayMs ∧ r.track.rejectDelayMs ≤ 30000) :
    t.Handling := by
  have noRecords := handling.records.2 stopped
  have noArrivals := handling.arrivals.2 stopped
  have gate := handling.gate
  rw [stopped] at gate
  have marks : t.marks = s.marks := by rw [State.marks, records]; rfl
  refine ⟨by rw [records, noRecords]; simp, by rw [arrivals, noArrivals]; simp, ?_, ?_, fun p => ?_, fun p => ?_⟩
  · exact ⟨by rw [records, next]; exact handling.tracking.order, by rw [records, next]; exact handling.tracking.nonzero,
      by rw [records]; exact handling.tracking.distinct, delays⟩
  · exact ⟨by rw [firings]; exact gate.few, by rw [firings, output]; exact gate.output, fun _ => by
      rw [firings, output]; exact gate.still rfl⟩
  · have kept := handling.ports p
    rw [ports]
    exact ⟨kept.sound, kept.few, fun _ => kept.still stopped⟩
  · exact (handling.triggers p).congr (by rw [ports]) (by rw [ports]) marks

/-- A reset leaves nothing tracked, fired or triggered (R61, R100, R124). -/
theorem takeReset (s : State) (hold : Timer) (rstLow heldLock : Bool) : (s.takeReset hold rstLow heldLock).Handling := by
  have port (p : Port) : (s.takeReset hold rstLow heldLock).port p = CameraPort.atReset := by cases p <;> rfl
  refine ⟨by simp [State.takeReset, State.reset], by simp [State.takeReset, State.reset], ⟨?_, ?_, ?_, ?_⟩, ⟨?_, ?_, ?_⟩, fun p => ?_, fun p => ?_⟩
  case refine_8 =>
    rw [port]
    exact ⟨⟨rfl, rfl, fun _ => rfl, fun _ _ during => by simp [CameraPort.atReset] at during⟩, by simp [CameraPort.atReset],
      fun _ => ⟨rfl, rfl, rfl, rfl, rfl, rfl, rfl⟩⟩
  case refine_9 =>
    have none : ((s.takeReset hold rstLow heldLock).port p).pending = [] := by rw [port]; rfl
    exact ⟨by simp [none], by simp [none], by simp [none], by simp [none]⟩
  all_goals simp [State.takeReset, State.reset]

/-! ### The cabinet and the heads -/

/-- A change of the switch keeps what is kept (R34, R44). -/
theorem moveSwitch (handling : s.Handling) (next : SwitchState) (discrepancy : Timer) : (s.moveSwitch next discrepancy).Handling := by
  have moved (c : Cabinet) : ({ s with cabinet := c } : State).Handling := handling.same rfl rfl rfl rfl rfl
  unfold State.moveSwitch
  simp only
  split
  · exact moved _
  · exact State.Handling.followConditions ((moved { s.cabinet with switch := next, discrepancy := discrepancy }).same (by simp) (by simp)
      (by simp) (by simp) (by simp))

/-- The switch keeps what is kept (R32, R34). -/
theorem takeSwitch (handling : s.Handling) : s.takeSwitch.Handling := by
  unfold State.takeSwitch
  simp only
  split
  · have settled (c : Cabinet) : ({ s with cabinet := c } : State).Handling := handling.same rfl rfl rfl rfl rfl
    exact (settled _).moveSwitch _ _
  · exact handling

/-- The door keeps what is kept (R37, R153). -/
theorem takeDoor (handling : s.Handling) : s.takeDoor.Handling := by
  unfold State.takeDoor
  split
  · have settled : ({ s with cabinet := { s.cabinet with door := s.cabinet.door.settle } } : State).Handling :=
      handling.same rfl rfl rfl rfl rfl
    have moved := State.Handling.followConditions (settled.same (t := ({ s with cabinet := { s.cabinet with
      door := s.cabinet.door.settle } } : State).announce) (by simp) (by simp) (by simp) (by simp) (by simp))
    simp only
    split
    · exact moved
    · exact moved.same (by simp) (by simp) (by simp) (by simp) (by simp)
  · exact handling

/-- The key keeps what is kept (R37, R138). -/
theorem takeKey (handling : s.Handling) : s.takeKey.Handling := by
  unfold State.takeKey
  split
  · simp only
    split
    all_goals exact handling.same (by simp) (by simp) (by simp) (by simp) (by simp)
  · exact handling

/-- A drive fault keeps what is kept (R80, R94, R97). -/
theorem driveFaults (handling : s.Handling) (h : Nat) : (s.driveFaults h).Handling :=
  (handling.endDose h .driveFault (s.head h).faultMeter).same (by simp [State.driveFaults]) (by simp [State.driveFaults])
    (by simp [State.driveFaults]) (by simp [State.driveFaults]) (by simp [State.driveFaults])

/-- A pulse emitted keeps what is kept (R91, R96). -/
theorem emitPulse (handling : s.Handling) (h : Nat) : (s.emitPulse h).Handling := by
  unfold State.emitPulse State.jogPulse State.dosePulse
  simp only
  repeat' split
  all_goals exact handling.same (by simp) (by simp) (by simp) (by simp) (by simp)

/-! ### The inputs (R31 to R33) -/

/-- The change of every debounced input keeps what is kept of the Tracking Unit, the gate and the ports. -/
theorem settles : Settles State.Handling :=
  ⟨fun _ => takeSwitch, fun _ => takeDoor, fun _ => takeKey, fun _ => takeInfeed, fun _ => takePitch, fun _ => takeConfirm⟩

/-- A raw input keeps what is kept (R33). -/
theorem rawInput (handling : s.Handling) (input : RawInput) : (s.rawInput input).Handling := by
  have infeed (t : Tracking) (same : t.records = s.tracking.records) (next : t.nextSequence = s.tracking.nextSequence)
      (arrivals : t.arrivals = s.tracking.arrivals) : ({ s with tracking := t } : State).Handling :=
    handling.congr (by simp only [State.marks, same]) next arrivals rfl (fun p => by cases p <;> rfl) rfl rfl
  have cabinet (c : Cabinet) : ({ s with cabinet := c } : State).Handling := handling.same rfl rfl rfl rfl rfl
  exact settles.rawInput (fun _ _ _ _ => ⟨cabinet _, cabinet _, cabinet _⟩) (fun _ _ => ⟨infeed _ rfl rfl rfl, infeed _ rfl rfl rfl⟩)
    (fun _ => handling.withGate (handling.gate.congr rfl rfl) rfl rfl rfl rfl) (fun _ _ => handling.same rfl rfl rfl rfl rfl) input

end State.Handling

end Sys2Proof.Machine

/-! PROOFS of what every command keeps, thirteenth part: every command keeps the Tracking Unit, the Reject Gate and the camera ports
(R48 to R75, R100 to R127). -/

namespace Sys2Proof.Machine

/-! ## The configuration an image gives (R192, R193) -/

/-- The decide margin of an image stays below its reject delay (R193). -/
theorem recordOf_delays (image : List Byte) : (recordOf image).track.decideMarginMs < (recordOf image).track.rejectDelayMs ∧
    (recordOf image).track.rejectDelayMs ≤ 30000 := by
  have delay := rangedField_bounds image (row := ⟨20, 39, 2, 1, 30000⟩) (by decide)
  have margin := rangedField_bounds image (row := ⟨21, 41, 2, 1, 1000⟩) (by decide)
  exact ⟨(crossDecideMargin_bounds delay.1 margin.1 margin.2).2.2, (finalField_bounds image (row := ⟨20, 39, 2, 1, 30000⟩) (by decide)).2⟩

/-- A dose of an image has at least one pulse (R192). -/
theorem recordOf_pulses (image : List Byte) : 1 ≤ (recordOf image).dosing.pulses :=
  (finalField_bounds image (row := ⟨28, 52, 2, 1, 65535⟩) (by decide)).1

/-- HELD is no mode of an image (R192). -/
theorem recordOf_accessMode (image : List Byte) : (recordOf image).accessMode ≠ .held := by
  show accessModeOf (finalField image 53) ≠ .held
  unfold accessModeOf
  split
  · decide
  · split <;> decide

/-! ## Commands of the Loader -/

section
variable {s : State}

/-- A station with an image that is read is in LOADING. -/
theorem State.haveRead_loading {bytes : Nat} (read : s.haveRead bytes = true) : s.loader.station = .loading := by
  simp only [State.haveRead, Bool.and_eq_true, decide_eq_true_eq] at read
  exact read.1

/-- An accepted image is read in LOADING (R189). -/
theorem State.accepts_loading {image : List Byte} (accepted : s.accepts image = true) : s.loader.station = .loading := by
  simp only [State.accepts, Bool.and_eq_true] at accepted
  exact State.haveRead_loading accepted.1.2

/-- A rejected image is read in LOADING (R189). -/
theorem State.rejects_loading {image : List Byte} (rejected : s.rejects image = true) : s.loader.station = .loading := by
  unfold State.rejects at rejected
  cases fails : failsAfter image with
  | none => simp [fails] at rejected
  | some n =>
    simp only [fails, Option.any_some, Bool.and_eq_true] at rejected
    exact State.haveRead_loading rejected.1

/-- Another station state than RUNNING is one in which nothing runs. -/
theorem State.stopped_of {station : Station} (is : s.loader.station = station) (other : station ≠ .running) : s.running = false := by
  simp [State.running, is, other]

/-- The end of LOADING settles the state as it enters JOINING. -/
theorem effect_endOfLoading (image : List Byte) (s : State) : effect (.endOfLoading image) s = (s.entering image).settleAtOnce := rfl

/-- The state as it enters JOINING, whole (R195). -/
theorem State.entering_eq (s : State) (image : List Byte) : s.entering image = { s with
    loader := { s.loader with
      station := .joining, record := some (recordOf image), clampRecord := clampRecordOf image, joining := some 0,
      memSelected := false, readTimer := none, sampled := [] }
    access := { s.access with lockMode := if s.access.heldLock then some .held else some (recordOf image).accessMode }
    latches := (s.entering image).latches
    peers := withIndex (fun i p => p.atLoading (recordOf image).hall (i + 1)) s.peers
    cabinet := { s.cabinet with
      swA := s.cabinet.swA.enterJoining, swB := s.cabinet.swB.enterJoining
      door := s.cabinet.door.enterJoining, key := s.cabinet.key.enterJoining }
    tracking := { s.tracking with
      infeed := s.tracking.infeed.enterJoining, pitch := s.tracking.pitch.enterJoining
      pocket := if (recordOf image).track.heads = 0 then none else s.tracking.pocket }
    heads := withIndex (fun i h => if (i < (recordOf image).track.heads : Bool) then
      { h with fault := h.fault.enterJoining } else h) s.heads
    gate := { s.gate with
      confirm := if (recordOf image).track.gateFitted then s.gate.confirm.enterJoining else s.gate.confirm } } := by
  rw [State.entering, State.setLockMode_eq]
  rfl

/-- The end of JOINING lets run permission follow on the state joined. -/
theorem effect_endOfJoining (s : State) : effect .endOfJoining s = s.joined.followConditions := rfl

/-- The state at the end of JOINING before run permission follows, whole (R196). -/
theorem State.joined_eq (s : State) : s.joined = { s with
    loader := { s.loader with station := .running, joining := none, clampRecord := [], faultLamp := false }
    clock := { s.convergeJoining.clock with nextDue := some (after s.convergeJoining.clock.time s.intervalMicros) }
    line := { s.line with
      rx := s.convergeJoining.line.rx, bcnSlot := some (s.line.bcnSlot.getD s.placement), cabSlot := .pending }
    peers := s.peers.map fun p => { p with inRound := false }
    latches := s.joined.latches } := by
  rw [State.joined, State.latchClamps_eq, State.enterRunning_eq, State.convergeJoining_eq]
  rfl

/-- JOINING ends in JOINING (R196). -/
theorem State.joiningDue_joining (due : s.joiningDue = true) : s.loader.station = .joining := by
  simp only [State.joiningDue, Bool.and_eq_true, decide_eq_true_eq] at due
  exact due.1

/-- A port hands a character on in RUNNING (R111). -/
theorem State.hasCharacter_runs {p : Port} {result : Option Byte} (has : s.hasCharacter p result = true) : s.running = true := by
  simp only [State.hasCharacter, Bool.and_eq_true] at has
  exact ((s.portWorks_iff p).mp has.1).1

/-- A message completes in RUNNING (R112). -/
theorem State.checkCompletes_runs {p : Port} {b : Byte} (completes : s.checkCompletes p b = true) : s.running = true := by
  simp only [State.checkCompletes, Bool.and_eq_true] at completes
  exact State.hasCharacter_runs completes.1.1

/-- A firing starts in RUNNING (R124). -/
theorem State.firingStartDue_runs (due : s.firingStartDue = true) : s.running = true := by
  simp only [State.firingStartDue, Bool.and_eq_true] at due
  exact due.1.1

end

namespace State.Handling
variable {s : State}

/-- The end of LOADING keeps what is kept: nothing is tracked, fired or triggered yet (R195). -/
theorem endOfLoading (handling : s.Handling) {image : List Byte} (accepted : s.accepts image = true) :
    (effect (.endOfLoading image) s).Handling := by
  have joined : (s.entering image).Handling := by
    have parts := s.entering_eq image
    refine handling.ofStill (State.stopped_of (State.accepts_loading accepted) (by decide)) ?_ ?_ ?_ ?_ ?_ (fun p => ?_) fun r is => ?_
    case refine_7 =>
      obtain rfl : recordOf image = r := by
        rw [parts] at is
        exact Option.some.inj is
      exact recordOf_delays image
    all_goals rw [parts]
    cases p <;> rfl
  rw [effect_endOfLoading]
  exact settles.atOnce joined

/-- The end of JOINING keeps what is kept (R196). -/
theorem endOfJoining (handling : s.Handling) (due : s.joiningDue = true) : (effect .endOfJoining s).Handling := by
  rw [effect_endOfJoining]
  have parts := s.joined_eq
  refine State.Handling.followConditions (handling.ofStill (State.stopped_of (State.joiningDue_joining due) (by decide)) ?_ ?_ ?_ ?_ ?_
    (fun p => ?_) fun r is => handling.tracking.delays r ?_)
  case refine_7 =>
    rw [parts] at is
    exact is
  all_goals rw [parts]
  cases p <;> rfl

/-- A round end keeps what is kept (R11). -/
theorem endRound (handling : s.Handling) : s.endRound.Handling := by
  rw [State.endRound_eq]
  refine State.Handling.followConditions (handling.same ?_ ?_ ?_ ?_ ?_)
  all_goals rw [State.silenced_rest]

/-- A report of a peer keeps what is kept (R30, R44). -/
theorem takeReport (handling : s.Handling) (src : Byte) (values : CabinetCodes) : (s.takeReport src values).Handling :=
  State.Handling.followConditions (handling.same rfl rfl rfl rfl rfl)

/-- Every command keeps the Tracking Unit, the Reject Gate and the camera ports. -/
theorem command (handling : s.Handling) {i : Instr} (stands : occasion i s = true) : (effect i s).Handling := by
  cases i
  case powerOnReset | resetPin => exact State.Handling.takeReset s _ _ _
  case resetRelease rstHigh =>
    have stopped := State.stopped_of (s := s) (of_decide_eq_true stands) (by decide)
    simp only [effect]
    split
    all_goals exact handling.ofStill stopped rfl rfl rfl rfl rfl (fun p => by cases p <;> rfl) handling.tracking.delays
  case imageRejected image =>
    have stopped := State.stopped_of (s := s) (State.rejects_loading stands) (by decide)
    exact handling.ofStill stopped rfl rfl rfl rfl rfl (fun p => by cases p <;> rfl) handling.tracking.delays
  case endOfLoading image => exact handling.endOfLoading stands
  case endOfJoining => exact handling.endOfJoining stands
  case localMicrosecond pins => exact handling.tick pins
  case roundEnd => exact handling.endRound
  case startMark => exact handling.same rfl rfl rfl rfl rfl
  case checkError => exact handling.same rfl rfl rfl rfl rfl
  case frameDiscarded dest src kind payload => exact receives.discarded handling dest src
  case crp dest src payload | evt dest src payload | arp dest src payload | ans dest src payload =>
    exact receives.receiveIdle handling _ dest src payload
  case bcn dest src b =>
    exact receives.receive (owner := fun u => (u.takeTime src (s.offsetOf b.stamp s.startStamp) b.quality).takeReport src b.cabinet) handling
      dest src fun u kept => (kept.same rfl rfl rfl rfl rfl : (u.takeTime src (s.offsetOf b.stamp s.startStamp) b.quality).Handling).takeReport
        src b.cabinet
  case cab dest src v => exact receives.receive handling dest src fun u kept => kept.takeReport src v
  case hnd dest src h => exact receives.ownFrame handling dest src dest fun u kept runs => kept.takeHandover runs src h
  case arq dest src level span seconds =>
    refine receives.ownFrame handling dest src dest fun u kept _ => kept.same ?_ ?_ ?_ ?_ ?_
    all_goals simp
  case arl dest src number =>
    refine receives.ownFrame handling dest src dest fun u kept _ => kept.same ?_ ?_ ?_ ?_ ?_
    all_goals simp
  case jog dest src head count =>
    refine receives.ownFrame handling dest src dest fun u kept _ => kept.same ?_ ?_ ?_ ?_ ?_
    all_goals simp
  case qry dest src table start count clear =>
    refine receives.ownFrame handling dest src dest fun u kept _ => kept.same ?_ ?_ ?_ ?_ ?_
    all_goals simp
  case lck dest src =>
    refine receives.receive (owner := fun u => u.lockOut src) handling dest src fun u kept => kept.same ?_ ?_ ?_ ?_ ?_
    all_goals simp
  case transmitStart =>
    simp only [effect]
    split
    · refine handling.same ?_ ?_ ?_ ?_ ?_
      all_goals simp
    · exact handling
  case frameSent =>
    simp only [effect]
    split
    · refine handling.same ?_ ?_ ?_ ?_ ?_
      all_goals simp [State.endSent]
    · exact handling
  case collision =>
    simp only [effect]
    split
    · refine handling.same ?_ ?_ ?_ ?_ ?_
      all_goals simp [State.endCollided]
    · exact handling
  case rawInputChange input => exact handling.rawInput input
  case switchChannelChange => exact handling.takeSwitch
  case discrepancy => exact (handling.occur _ _).moveSwitch _ _
  case restoreTimerExpiry => exact handling.permissionRises
  case doorChange => exact handling.takeDoor
  case keyChange => exact handling.takeKey
  case capture => exact handling.takeInfeed
  case pitch => exact handling.takePitch
  case arrivalLost position => exact handling.loseArrival position
  case decide => exact handling.decide stands
  case doseStart h =>
    simp only [effect, State.startDose]
    split
    · exact handling.same rfl rfl rfl rfl rfl
    · exact handling.endDose h _ _
  case lowPhaseEnd h => exact handling.same rfl rfl rfl rfl rfl
  case pulseEmitted h => exact handling.emitPulse h
  case driveReadyChange h high => exact handling.same rfl rfl rfl rfl rfl
  case meterPulse h => exact handling.same rfl rfl rfl rfl rfl
  case doseTimeout h => exact handling.endDose h _ _
  case resumeLimit h => exact handling.endDose h _ _
  case settleEnd h => exact handling.endDose h _ _
  case driveFaultActive h => exact handling.driveFaults h
  case driveFaultInactive h =>
    refine handling.same ?_ ?_ ?_ ?_ ?_
    all_goals simp [effect, State.driveFaultClears]
  case grantExpiry number =>
    refine handling.same ?_ ?_ ?_ ?_ ?_
    all_goals simp [effect]
  case triggerTime p busy => exact handling.triggerTime p busy stands
  case triggerPulseEnd p => exact handling.triggerPulseEnd p
  case guardEnd p => exact handling.guardEnd p
  case strobeDue p => exact handling.strobeDue ((s.portWorks_iff p).mp stands).1 p
  case strobeEnd p => exact handling.strobeEnd p
  case strobeOffExpiry p => exact handling.strobeOffExpiry p
  case resultByte p b => exact handling.handOn (State.hasCharacter_runs stands) p fun u kept runs => kept.takeByte runs p b
  case resultMessage p b => exact handling.handOn (State.checkCompletes_runs stands) p fun u kept runs => kept.takeByte runs p b
  case framingError p => exact handling.handOn (State.hasCharacter_runs stands) p fun u kept _ => kept.abandon p
  case interByteTimeout p => exact handling.abandon p
  case firingStart => exact handling.firing_changed (State.firingStartDue_runs stands) _ _
  case firingEnd => exact handling.firingEnds stands
  case confirmEdge => exact handling.takeConfirm
  case confirmWindowEnd => exact handling.confirmWindowEnds stands
  case debounceTimerExpiry input => exact settles.takeQuiet handling input

end State.Handling

end Sys2Proof.Machine

/-! PROOFS of what every command keeps, fourteenth part: the Hall Clock (R2, R15, R19 to R21). -/

namespace Sys2Proof.Machine

namespace State.ClockSound
variable {s t : State}

/-- The ranges of the Hall Clock rest on it alone. -/
theorem congr (sound : s.ClockSound) (clock : t.clock = s.clock) : t.ClockSound :=
  ⟨clock ▸ sound.trim, clock ▸ sound.slew, clock ▸ sound.good, clock ▸ sound.empty⟩

/-- A local microsecond keeps the ranges: the slew runs towards 0 (R20). -/
theorem tick (sound : s.ClockSound) (pins : PinSamples) : (s.tick pins).ClockSound := by
  have slew := sound.slew
  have clock : (s.tick pins).clock = { (if s.loader.station = .reset then s.clock else s.clock.tick) with
      localTime := s.clock.localTime + 1 } := rfl
  refine ⟨?_, ?_, ?_, ?_⟩ <;> rw [clock]
  case refine_2 =>
    split
    · exact slew
    · simp only [HallClock.tick, slewSign]
      split
      · omega
      · split <;> omega
  · split <;> exact sound.trim
  · split <;> exact sound.good
  · split <;> exact sound.empty

/-- The counters of a round stay in range (R15). -/
theorem moveQuality (sound : s.ClockSound) (outcome : Option Int) (included : Nat) : (s.moveQuality outcome included).ClockSound := by
  have good : nextGood s.clock.goodRounds outcome ≤ 255 := by
    unfold nextGood saturate
    split
    · exact Nat.zero_le _
    · split
      · exact Nat.min_le_left _ _
      · exact Nat.zero_le _
  have empty : nextEmpty s.clock.emptyRounds outcome ≤ 65535 := by
    unfold nextEmpty saturate
    split
    · exact Nat.min_le_left _ _
    · exact Nat.zero_le _
  have set (u : State) (kept : u.ClockSound) (next : Quality) : (u.setQuality next).ClockSound := by
    unfold State.setQuality
    simp only
    split <;> exact ⟨kept.trim, kept.slew, kept.good, kept.empty⟩
  have counted : ({ s with clock := { s.clock with
      goodRounds := if nextQuality s.clock.quality outcome (nextGood s.clock.goodRounds outcome)
        (nextEmpty s.clock.emptyRounds outcome) = s.clock.quality then nextGood s.clock.goodRounds outcome else 0
      emptyRounds := nextEmpty s.clock.emptyRounds outcome } } : State).ClockSound := by
    refine ⟨sound.trim, sound.slew, ?_, empty⟩
    show (if _ then _ else _) ≤ 255
    split
    · exact good
    · exact Nat.zero_le _
  unfold State.moveQuality
  simp only
  split
  · exact (set _ counted _).congr rfl
  · exact set _ counted _

/-- A figure clamped lies within its limits (R20, R21). -/
theorem clampInt_within {low high : Int} (range : low ≤ high) (x : Int) : low ≤ clampInt low high x ∧ clampInt low high x ≤ high := by
  unfold clampInt
  omega

/-- A step or a slew keeps the ranges: a slew takes at most 300 µs, and the trim is clamped (R19 to R21). -/
theorem correctTime (sound : s.ClockSound) (c : Int) : (s.correctTime c).ClockSound := by
  have limit : slewLimit s.intervalMicros ≤ 300 := Nat.min_le_left _ _
  have slewed := clampInt_within (low := -(slewLimit s.intervalMicros : Int)) (high := slewLimit s.intervalMicros) (by omega) c
  unfold State.correctTime
  split
  · exact ⟨sound.trim, by simp [State.stepTime], sound.good, sound.empty⟩
  · refine ⟨clampInt_within (by decide) _, ?_, sound.good, sound.empty⟩
    simp only [State.slewTime, clampedCorrection]
    omega

/-- A convergence keeps the ranges (R14 to R21). -/
theorem converge (sound : s.ClockSound) : s.converge.ClockSound := by
  unfold State.converge
  simp only
  split
  · exact sound.moveQuality _ _
  · exact (sound.moveQuality _ _).correctTime _

/-- A round end keeps the ranges (R11). -/
theorem endRound (sound : s.ClockSound) : s.endRound.ClockSound := by
  have placed : s.placeBeacon.ClockSound := sound.congr (by simp)
  have due : s.placeBeacon.converge.clearMarks.advanceDue.ClockSound :=
    ⟨placed.converge.trim, placed.converge.slew, placed.converge.good, placed.converge.empty⟩
  exact due.congr (by simp [State.endRound])

/-- The one convergence of JOINING keeps the ranges (R22). -/
theorem endOfJoining (sound : s.ClockSound) : (effect .endOfJoining s).ClockSound := by
  have joined : s.joined.ClockSound := by
    have clock : s.joined.clock = { s.convergeJoining.clock with
        nextDue := some (after s.convergeJoining.clock.time s.intervalMicros) } := by
      conv_lhs => rw [State.joined_eq]
    rw [State.convergeJoining_eq] at clock
    cases heard : roundOutcome s.includedOffsets with
    | none =>
      simp only [heard] at clock
      exact ⟨by rw [clock]; exact sound.trim, by rw [clock]; exact sound.slew, by rw [clock]; exact Nat.zero_le _, by
        rw [clock]; exact Nat.zero_le _⟩
    | some c =>
      simp only [heard] at clock
      exact ⟨by rw [clock]; exact sound.trim, by rw [clock]; simp, by rw [clock]; exact Nat.zero_le _, by
        rw [clock]; exact Nat.zero_le _⟩
  rw [effect_endOfJoining]
  exact joined.congr (by simp)

/-- Receiving a frame keeps the ranges. -/
theorem receives : Receives State.ClockSound :=
  ⟨fun _ kept => kept.congr rfl, fun _ _ kept => kept.congr (by simp), fun _ _ kept => kept.congr rfl, fun _ _ _ kept => kept.congr rfl⟩

/-- The change of every debounced input keeps the ranges. -/
theorem settles : Settles State.ClockSound := by
  constructor
  all_goals exact fun u kept => kept.congr (by simp)

/-- Every command keeps the ranges of the Hall Clock. -/
theorem command (sound : s.ClockSound) (i : Instr) : (effect i s).ClockSound := by
  cases i
  case powerOnReset | resetPin =>
    have clock (hold : Timer) (rstLow heldLock : Bool) : (s.takeReset hold rstLow heldLock).ClockSound :=
      ⟨by simp [State.takeReset, State.reset], by simp [State.takeReset, State.reset], Nat.zero_le _, Nat.zero_le _⟩
    exact clock _ _ _
  case localMicrosecond pins => exact sound.tick pins
  case roundEnd => exact sound.endRound
  case endOfJoining => exact sound.endOfJoining
  case endOfLoading image =>
    rw [effect_endOfLoading]
    exact settles.atOnce (sound.congr (by rw [State.entering_eq]))
  case rawInputChange input =>
    exact settles.rawInput (fun _ _ _ _ => ⟨sound.congr rfl, sound.congr rfl, sound.congr rfl⟩)
      (fun _ _ => ⟨sound.congr rfl, sound.congr rfl⟩) (fun _ => sound.congr rfl) (fun _ _ => sound.congr rfl) input
  case resetRelease rstHigh =>
    simp only [effect]
    split <;> exact sound.congr rfl
  case frameDiscarded dest src kind payload => exact receives.discarded sound dest src
  case crp dest src payload | evt dest src payload | arp dest src payload | ans dest src payload =>
    exact receives.receiveIdle sound _ dest src payload
  case bcn dest src b =>
    exact receives.receive (owner := fun u => (u.takeTime src (s.offsetOf b.stamp s.startStamp) b.quality).takeReport src b.cabinet) sound
      dest src fun u kept => kept.congr (by simp)
  case cab dest src v => exact receives.receive (owner := fun u => u.takeReport src v) sound dest src fun u kept => kept.congr (by simp)
  case lck dest src => exact receives.receive (owner := fun u => u.lockOut src) sound dest src fun u kept => kept.congr (by simp)
  case hnd dest src h => exact receives.ownFrame sound dest src dest fun u kept _ => kept.congr (by simp)
  case arq dest src level span seconds => exact receives.ownFrame sound dest src dest fun u kept _ => kept.congr (by simp)
  case arl dest src number => exact receives.ownFrame sound dest src dest fun u kept _ => kept.congr (by simp)
  case jog dest src head count => exact receives.ownFrame sound dest src dest fun u kept _ => kept.congr (by simp)
  case qry dest src table start count clear => exact receives.ownFrame sound dest src dest fun u kept _ => kept.congr (by simp)
  case debounceTimerExpiry input =>
    exact settles.takeQuiet sound input
  case resultByte p b | resultMessage p b | framingError p =>
    simp only [effect, State.handOn]
    split <;> exact sound.congr (by simp)
  case arrivalLost position =>
    simp only [effect, State.loseArrival]
    repeat' split
    all_goals exact sound.congr (by simp [State.latchLost])
  case decide =>
    simp only [effect, State.decide]
    repeat' split
    all_goals exact sound.congr (by simp)
  case frameSent =>
    simp only [effect]
    split <;> exact sound.congr (by simp [State.endSent])
  case collision =>
    simp only [effect]
    split <;> exact sound.congr (by simp [State.endCollided])
  case transmitStart | triggerTime =>
    simp only [effect]
    split <;> exact sound.congr (by simp)
  all_goals exact sound.congr (by simp [effect])

end State.ClockSound

end Sys2Proof.Machine

/-! PROOFS of what every command keeps, fifteenth part: run permission (R43 to R45). -/

namespace Sys2Proof.Machine

/-- What every command keeps of run permission and the Peer Table's size. -/
structure State.Allowing (s : State) : Prop where
  permission : s.PermissionSound
  peers : s.peers.length = 30

/-- What run permission needs before it follows its conditions: its restore timer runs only while it is down, and the lamp shows it. -/
structure State.Lit (s : State) : Prop where
  waiting : s.cabinet.restore.isSome = true → s.cabinet.permission = false
  lamp : s.loader.runLamp = s.cabinet.permission
  peers : s.peers.length = 30

section
variable {s t : State}

/-- The run conditions rest on the station state, the switch, the door and the peers (R43). -/
theorem State.runConditions_congr (station : t.loader.station = s.loader.station) (switch : t.cabinet.switch = s.cabinet.switch)
    (door : t.cabinet.door.state = s.cabinet.door.state) (peers : t.peers = s.peers) : t.runConditions = s.runConditions := by
  simp only [State.runConditions, State.running, station, switch, door, peers]

/-- Run permission, once it has followed its conditions, is sound (R43 to R45). -/
theorem State.Lit.followConditions (lit : s.Lit) : s.followConditions.Allowing := by
  obtain ⟨waiting, lamp, peers⟩ := lit
  have table : s.followConditions.peers = s.peers := by simp
  have same (cabinet : s.followConditions.cabinet.switch = s.cabinet.switch ∧ s.followConditions.cabinet.door = s.cabinet.door) :
      s.followConditions.runConditions = s.runConditions := by
    refine State.runConditions_congr ?_ cabinet.1 (by rw [cabinet.2]) table
    rw [State.followConditions_loader]
  refine ⟨?_, by rw [table, peers]⟩
  cases hold : s.runConditions with
  | false =>
    have cabinet := State.followConditions_denied hold
    refine ⟨by simp [cabinet], by simp [cabinet], ?_⟩
    cases up : s.cabinet.permission with
    | true => rw [(State.followConditions_fails hold).2 up, (State.permissionFalls_rest s).1, (State.permissionFalls_rest s).2]
    | false => rw [(State.followConditions_fails hold).1 up]; exact lamp
  | true =>
    by_cases standing : s.cabinet.permission = true ∨ s.cabinet.restore.isSome = true
    · rw [(State.followConditions_holds hold).1 standing]
      exact ⟨fun _ => hold, fun runs => ⟨hold, waiting runs⟩, lamp⟩
    · simp only [not_or, Bool.not_eq_true, Option.isSome_eq_false_iff, Option.isNone_iff_eq_none] at standing
      obtain ⟨down, stopped⟩ := standing
      have cabinet := State.followConditions_begins hold down stopped
      have holds : s.followConditions.runConditions = true := (same (by simp [cabinet])).trans hold
      refine ⟨fun _ => holds, fun runs => ⟨holds, ?_⟩, ?_⟩
      · rw [cabinet] at runs ⊢
        by_cases atOnce : s.cfg.hall.restoreMs = 0 <;> simp_all
      · rw [(State.followConditions_holds hold).2 down stopped]
        split
        · simp [State.permissionRises_eq, State.announce_eq]
        · exact lamp

namespace State.Allowing

/-- Sound run permission shows in its lamp. -/
theorem lit (allowing : s.Allowing) : s.Lit :=
  ⟨fun runs => (allowing.permission.waiting runs).2, allowing.permission.lamp, allowing.peers⟩

/-- Run permission that follows its conditions stays sound. -/
theorem followConditions (allowing : s.Allowing) : s.followConditions.Allowing := allowing.lit.followConditions

/-- Run permission stays sound where it, its timer and its lamp stay and no condition begins to fail. -/
theorem keeps (allowing : s.Allowing) (permission : t.cabinet.permission = s.cabinet.permission)
    (restore : t.cabinet.restore.isSome = s.cabinet.restore.isSome) (lamp : t.loader.runLamp = s.loader.runLamp)
    (peers : t.peers.length = s.peers.length) (conditions : s.runConditions = true → t.runConditions = true) : t.Allowing := by
  obtain ⟨⟨holds, waits, shows⟩, table⟩ := allowing
  refine ⟨⟨fun up => conditions (holds (permission ▸ up)), fun runs => ?_, by rw [lamp, permission, shows]⟩, peers.trans table⟩
  rw [restore] at runs
  rw [permission]
  exact ⟨conditions (waits runs).1, (waits runs).2⟩

/-- Run permission stays sound while the Loader, the Cabinet Monitor and the peers stay. -/
theorem same (allowing : s.Allowing) (loader : t.loader = s.loader) (cabinet : t.cabinet = s.cabinet) (peers : t.peers = s.peers) :
    t.Allowing :=
  allowing.keeps (by rw [cabinet]) (by rw [cabinet]) (by rw [loader]) (by rw [peers]) fun holds => by
    rw [State.runConditions_congr (by rw [loader]) (by rw [cabinet]) (by rw [cabinet]) peers]
    exact holds

/-- Run permission that is down, with its timer stopped and its lamp dark, is sound. -/
theorem ofDown (permission : t.cabinet.permission = false) (restore : t.cabinet.restore = none) (lamp : t.loader.runLamp = false)
    (peers : t.peers.length = 30) : t.Allowing :=
  ⟨⟨by simp [permission], by simp [restore], lamp.trans permission.symm⟩, peers⟩

/-- Outside RUNNING run permission is down, its timer stopped and its lamp dark (R43). -/
theorem down (allowing : s.Allowing) (stopped : s.running = false) :
    s.cabinet.permission = false ∧ s.cabinet.restore = none ∧ s.loader.runLamp = false := by
  obtain ⟨⟨holds, waits, shows⟩, -⟩ := allowing
  have fails : s.runConditions = false := by simp [State.runConditions, stopped]
  have low : s.cabinet.permission = false := Bool.eq_false_iff.mpr fun up => by simp [holds up] at fails
  refine ⟨low, ?_, shows.trans low⟩
  rw [← Option.isNone_iff_eq_none, ← Option.isSome_eq_false_iff]
  exact Bool.eq_false_iff.mpr fun runs => by simp [(waits runs).1] at fails

/-- A rise of run permission that is due is sound (R44). -/
theorem permissionRises (allowing : s.Allowing) (due : s.restoreDue = true) : s.permissionRises.Allowing := by
  have holds := ((State.restoreDue_iff s).mp due).1
  rw [State.permissionRises_eq]
  have conditions (u : State) (station : u.loader.station = s.loader.station) (switch : u.cabinet.switch = s.cabinet.switch)
      (door : u.cabinet.door = s.cabinet.door) (peers : u.peers = s.peers) : u.runConditions = true :=
    (State.runConditions_congr station switch (by rw [door]) peers).trans holds
  refine ⟨⟨fun _ => conditions _ ?_ ?_ ?_ ?_, ?_, ?_⟩, ?_⟩
  all_goals simp [State.announce_eq, allowing.peers]

/-! ## The cabinet inputs -/

/-- A settled debouncer of the Cabinet Monitor moves no condition but the door's. -/
theorem withCabinet (allowing : s.Allowing) {c : Cabinet} (permission : c.permission = s.cabinet.permission)
    (restore : c.restore = s.cabinet.restore) (switch : c.switch = s.cabinet.switch) (door : c.door.state = s.cabinet.door.state) :
    ({ s with cabinet := c } : State).Allowing :=
  allowing.keeps permission (by rw [restore]) rfl rfl fun holds =>
    (State.runConditions_congr (s := s) (t := { s with cabinet := c }) rfl switch door rfl).trans holds

/-- A new level on an input leaves its debounced state (R32). -/
theorem rawTo_state (d : Debouncer) (runs raw : Bool) : (d.rawTo runs raw).state = d.state := by
  unfold Debouncer.rawTo Debouncer.rawChanges Debouncer.rawLevel
  repeat' split
  all_goals rfl

/-- A change of the switch lets run permission follow (R34, R44). -/
theorem moveSwitch (allowing : s.Allowing) (next : SwitchState) (discrepancy : Timer) : (s.moveSwitch next discrepancy).Allowing := by
  unfold State.moveSwitch
  simp only
  split
  next same => exact allowing.withCabinet rfl rfl same rfl
  · refine State.Lit.followConditions ⟨?_, ?_, ?_⟩
    all_goals simp only [State.announce_cabinet, State.announce_loader, State.announce_peers]
    · exact allowing.lit.waiting
    · exact allowing.lit.lamp
    · exact allowing.peers

/-- The switch keeps run permission sound (R32, R34). -/
theorem takeSwitch (allowing : s.Allowing) : s.takeSwitch.Allowing := by
  unfold State.takeSwitch
  simp only
  split
  · have settled := allowing.withCabinet (c := { s.cabinet with
      swA := s.cabinet.swA.settleIfDue s.switchDebounce, swB := s.cabinet.swB.settleIfDue s.switchDebounce }) rfl rfl rfl rfl
    exact settled.moveSwitch _ _
  · exact allowing

/-- The door lets run permission follow (R37, R44). -/
theorem takeDoor (allowing : s.Allowing) : s.takeDoor.Allowing := by
  unfold State.takeDoor
  split
  · have moved : (({ s with cabinet := { s.cabinet with door := s.cabinet.door.settle } } : State).announce).followConditions.Allowing := by
      refine State.Lit.followConditions ⟨?_, ?_, ?_⟩
      all_goals simp only [State.announce_cabinet, State.announce_loader, State.announce_peers]
      · exact allowing.lit.waiting
      · exact allowing.lit.lamp
      · exact allowing.peers
    simp only
    split
    · exact moved
    · exact moved.same (by simp) (by simp) (by simp)
  · exact allowing

/-- The key keeps run permission sound (R37). -/
theorem takeKey (allowing : s.Allowing) : s.takeKey.Allowing := by
  have settled := allowing.withCabinet (c := { s.cabinet with key := s.cabinet.key.settle }) rfl rfl rfl rfl
  unfold State.takeKey
  split
  · simp only
    split <;> exact settled.same (by simp) (by simp) (by simp)
  · exact allowing

/-- The change of every debounced input keeps run permission sound. -/
theorem settles : Settles State.Allowing :=
  ⟨fun _ => takeSwitch, fun _ => takeDoor, fun _ => takeKey, fun _ kept => kept.same (by simp) (by simp) (by simp),
    fun _ kept => kept.same (by simp) (by simp) (by simp), fun _ kept => kept.same (by simp) (by simp) (by simp)⟩

/-! ## The peers -/

/-- A peer that is heard meets the dependence that it met before (R27, R43). -/
theorem isHeard_meets {p : Peer} (meets : (!p.dependent || p.meetsDependence) = true) :
    (!p.isHeard.dependent || p.isHeard.meetsDependence) = true := by
  cases dependent : p.dependent with
  | false => simp [Peer.isHeard, dependent]
  | true =>
    have met : p.meetsDependence = true := by simpa [dependent] using meets
    simp only [Peer.meetsDependence, Bool.and_eq_true, decide_eq_true_eq] at met
    have heard : p.isHeard.meetsDependence = true := by
      simp only [Peer.meetsDependence, Peer.isHeard, decide_true, Bool.true_and]
      exact met.2
    simp [heard]

/-- A heard peer makes no condition fail (R27). -/
theorem peerHeard (allowing : s.Allowing) (src : Byte) : (s.peerHeard src).Allowing := by
  have peers : (s.peerHeard src).peers = s.peers.modify (src.toNat - 1) Peer.isHeard := by
    unfold State.peerHeard
    simp only
    split <;> simp
  refine allowing.keeps (by simp) (by simp) (by simp) (by rw [peers, List.length_modify]) fun holds => ?_
  simp only [State.runConditions, Bool.and_eq_true, List.all_eq_true] at holds ⊢
  obtain ⟨rest, each⟩ := holds
  refine ⟨by simpa [State.running] using rest, ?_⟩
  rw [peers]
  exact forall_mem_modify each fun p listed => isHeard_meets (each p (List.mem_of_getElem? listed))

/-- Receiving a frame keeps run permission sound. -/
theorem receives : Receives State.Allowing :=
  ⟨fun _ kept => kept.same rfl rfl rfl, fun _ src kept => kept.peerHeard src, fun _ _ kept => kept.same rfl rfl rfl,
    fun _ _ _ kept => kept.same rfl rfl rfl⟩

/-- A report of a peer lets run permission follow (R30, R44). -/
theorem takeReport (allowing : s.Allowing) (src : Byte) (values : CabinetCodes) : (s.takeReport src values).Allowing :=
  State.Lit.followConditions ⟨allowing.lit.waiting, allowing.lit.lamp, (List.length_modify _ _ _).trans allowing.peers⟩

/-- The time fields of a beacon move no run condition (R10). -/
theorem takeTime (allowing : s.Allowing) (src : Byte) (offset : Int) (quality : Byte) : (s.takeTime src offset quality).Allowing := by
  refine allowing.keeps rfl rfl rfl (List.length_modify _ _ _) fun holds => ?_
  simp only [State.runConditions, Bool.and_eq_true, List.all_eq_true] at holds ⊢
  exact ⟨holds.1, forall_mem_modify holds.2 fun p listed => holds.2 p (List.mem_of_getElem? listed)⟩

/-! ## The station states -/

/-- The entry to JOINING leaves run permission down (R195). -/
theorem entering (allowing : s.Allowing) {image : List Byte} (accepted : s.accepts image = true) : (s.entering image).Allowing := by
  obtain ⟨low, stopped, dark⟩ := allowing.down (State.stopped_of (State.accepts_loading accepted) (by decide))
  refine ofDown ?_ ?_ ?_ ?_
  all_goals rw [State.entering_eq]
  · exact low
  · exact stopped
  · exact dark
  · simp [withIndex_eq_mapIdx, allowing.peers]

/-- The end of LOADING leaves run permission down (R195). -/
theorem endOfLoading (allowing : s.Allowing) {image : List Byte} (accepted : s.accepts image = true) :
    (effect (.endOfLoading image) s).Allowing := settles.atOnce (allowing.entering accepted)

/-- The end of JOINING lets run permission follow (R44, R196). -/
theorem endOfJoining (allowing : s.Allowing) : (effect .endOfJoining s).Allowing := by
  rw [effect_endOfJoining]
  refine State.Lit.followConditions ⟨?_, ?_, ?_⟩
  all_goals rw [State.joined_eq]
  · exact allowing.lit.waiting
  · exact allowing.lit.lamp
  · exact (List.length_map _).trans allowing.peers

/-- A round end lets run permission follow (R28, R44). -/
theorem endRound (allowing : s.Allowing) : s.endRound.Allowing := by
  rw [State.endRound_eq]
  have peers : s.silenced.peers.length = s.peers.length := List.length_map _
  refine State.Lit.followConditions ⟨?_, ?_, peers.trans allowing.peers⟩
  all_goals rw [State.silenced_rest]
  · exact allowing.lit.waiting
  · exact allowing.lit.lamp

/-- A local microsecond moves no run condition, and a restore timer that runs runs on (R5). -/
theorem tick (allowing : s.Allowing) (pins : PinSamples) : (s.tick pins).Allowing :=
  allowing.keeps rfl (Timer.tick_isSome _) rfl rfl fun holds => holds

/-- Every command keeps run permission sound. -/
theorem command (allowing : s.Allowing) {i : Instr} (stands : occasion i s = true) : (effect i s).Allowing := by
  cases i
  case powerOnReset | resetPin => exact ofDown rfl rfl rfl (by simp [effect, State.takeReset, State.reset])
  case resetRelease rstHigh =>
    obtain ⟨low, stopped, dark⟩ := allowing.down (State.stopped_of (s := s) (of_decide_eq_true stands) (by decide))
    simp only [effect]
    split <;> exact ofDown low stopped dark allowing.peers
  case imageRejected image =>
    obtain ⟨low, stopped, dark⟩ := allowing.down (State.stopped_of (s := s) (State.rejects_loading stands) (by decide))
    exact ofDown low stopped dark allowing.peers
  case localMicrosecond pins => exact allowing.tick pins
  case roundEnd => exact allowing.endRound
  case endOfJoining => exact allowing.endOfJoining
  case endOfLoading image => exact allowing.endOfLoading stands
  case rawInputChange input =>
    exact settles.rawInput (fun a b d k => ⟨allowing.withCabinet rfl rfl rfl rfl,
        allowing.withCabinet rfl rfl rfl (rawTo_state _ _ _), allowing.withCabinet rfl rfl rfl rfl⟩)
      (fun _ _ => ⟨allowing.same rfl rfl rfl, allowing.same rfl rfl rfl⟩) (fun _ => allowing.same rfl rfl rfl)
      (fun _ _ => allowing.same rfl rfl rfl) input
  case frameDiscarded dest src kind payload => exact receives.discarded allowing dest src
  case crp dest src payload | evt dest src payload | arp dest src payload | ans dest src payload =>
    exact receives.receiveIdle allowing _ dest src payload
  case bcn dest src b =>
    exact receives.receive (owner := fun u => (u.takeTime src (s.offsetOf b.stamp s.startStamp) b.quality).takeReport src b.cabinet)
      allowing dest src fun u kept => (kept.takeTime src _ _).takeReport src _
  case cab dest src v => exact receives.receive (owner := fun u => u.takeReport src v) allowing dest src fun u kept => kept.takeReport src v
  case lck dest src =>
    exact receives.receive (owner := fun u => u.lockOut src) allowing dest src fun u kept => kept.same (by simp) (by simp) (by simp)
  case hnd dest src h => exact receives.ownFrame allowing dest src dest fun u kept _ => kept.same (by simp) (by simp) (by simp)
  case arq dest src level span seconds =>
    exact receives.ownFrame allowing dest src dest fun u kept _ => kept.same (by simp) (by simp) (by simp)
  case arl dest src number => exact receives.ownFrame allowing dest src dest fun u kept _ => kept.same (by simp) (by simp) (by simp)
  case jog dest src head count => exact receives.ownFrame allowing dest src dest fun u kept _ => kept.same (by simp) (by simp) (by simp)
  case qry dest src table start count clear =>
    exact receives.ownFrame allowing dest src dest fun u kept _ => kept.same (by simp) (by simp) (by simp)
  case switchChannelChange => exact allowing.takeSwitch
  case discrepancy =>
    have latched : (s.occur .discrepancy s.discrepancyDetail).Allowing := allowing.same rfl rfl rfl
    exact latched.moveSwitch _ _
  case restoreTimerExpiry => exact allowing.permissionRises stands
  case doorChange => exact allowing.takeDoor
  case keyChange => exact allowing.takeKey
  case debounceTimerExpiry input => exact settles.takeQuiet allowing input
  case resultByte p b | resultMessage p b | framingError p =>
    simp only [effect, State.handOn]
    split <;> exact allowing.same (by simp) (by simp) (by simp)
  case arrivalLost position =>
    simp only [effect, State.loseArrival]
    repeat' split
    all_goals exact allowing.same (by simp [State.latchLost]) (by simp [State.latchLost]) (by simp [State.latchLost])
  case decide =>
    simp only [effect, State.decide]
    repeat' split
    all_goals exact allowing.same (by simp) (by simp) (by simp)
  case frameSent =>
    simp only [effect]
    split <;> exact allowing.same (by simp [State.endSent]) (by simp [State.endSent]) (by simp [State.endSent])
  case collision =>
    simp only [effect]
    split <;> exact allowing.same (by simp [State.endCollided]) (by simp [State.endCollided]) (by simp [State.endCollided])
  case transmitStart | triggerTime =>
    simp only [effect]
    split <;> exact allowing.same (by simp) (by simp) (by simp)
  all_goals exact allowing.same (by simp [effect]) (by simp [effect]) (by simp [effect])

end State.Allowing

end

end Sys2Proof.Machine

/-! PROOFS of what every command keeps, sixteenth part: the debounced inputs and what is sampled of the memory (R31 to R33, R48, R76,
R120, R188). -/

namespace Sys2Proof.Machine

/-! ## A debouncer (R31 to R33) -/

section
variable {d : Debouncer} {reads : Bool}

/-- A debouncer with its timer stopped is sound. -/
theorem Debouncer.Sound.ofStopped (stopped : d.timer = none) (reads : Bool) : d.Sound reads := by
  simp [Debouncer.Sound, stopped]

/-- A debouncer that is not read has its timer stopped. -/
theorem Debouncer.Sound.stopped (sound : d.Sound false) : d.timer = none := by
  cases timer : d.timer with
  | none => rfl
  | some n => exact absurd (sound (by simp [timer])).1 (by simp)

/-- A change settles with the timer stopped (R32). -/
theorem Debouncer.Sound.settle (d : Debouncer) (reads : Bool) : d.settle.Sound reads := .ofStopped rfl reads

/-- A change that is due settles, and one that is not stays (R32). -/
theorem Debouncer.Sound.settleIfDue (sound : d.Sound reads) (micros : Nat) : (d.settleIfDue micros).Sound reads := by
  unfold Debouncer.settleIfDue
  split
  · exact .settle d reads
  · exact sound

/-- A timer that runs runs on for the level it runs for (R32). -/
theorem Debouncer.Sound.tick (sound : d.Sound reads) : d.tick.Sound reads := fun runs =>
  sound ((Timer.tick_isSome d.timer).symm.trans runs)

/-- A new level starts the timer where it disagrees with the debounced state, and stops it where it agrees (R32). -/
theorem Debouncer.Sound.rawTo (sound : d.Sound reads) (raw : Bool) : (d.rawTo reads raw).Sound reads := by
  unfold Debouncer.rawTo Debouncer.rawChanges Debouncer.rawLevel
  cases reads with
  | false =>
    simp only [Bool.false_eq_true, if_false]
    exact fun runs => absurd runs (by simp [sound.stopped])
  | true =>
    simp only [if_true]
    split
    · exact sound
    · intro runs
      by_cases agrees : raw = d.state <;> simp_all

/-- A debouncer that begins to be read starts its timer where its level disagrees (R33). -/
theorem Debouncer.Sound.enterJoining (d : Debouncer) : d.enterJoining.Sound true := by
  intro runs
  unfold Debouncer.enterJoining at runs ⊢
  by_cases agrees : d.raw = d.state <;> simp_all

/-- A debouncer after a reset is at rest (R32). -/
theorem Debouncer.Sound.start (raw reads : Bool) : (Debouncer.start raw).Sound reads := .ofStopped rfl reads

end

/-! ## The debouncers of the station -/

/-- The debouncers of the Cabinet Monitor, the Tracking Unit, the Reject Gate and the heads. -/
structure Sensors where
  swA : Debouncer
  swB : Debouncer
  door : Debouncer
  key : Debouncer
  infeed : Debouncer
  pitch : Debouncer
  confirm : Debouncer
  faults : List Debouncer

/-- The debouncers of a state. -/
def State.sensors (s : State) : Sensors :=
  ⟨s.cabinet.swA, s.cabinet.swB, s.cabinet.door, s.cabinet.key, s.tracking.infeed, s.tracking.pitch, s.gate.confirm,
    s.heads.map Head.fault⟩

/-- What every command keeps of the debounced inputs and the samples of the memory. -/
structure State.Reading (s : State) : Prop where
  inputs : s.InputsSound
  sampled : s.loader.sampled.length ≤ 1072

section
variable {s t : State}

/-- The debouncer of a head is told by the list of them. -/
theorem State.head_fault (s : State) (h : Nat) : (s.head h).fault = (s.heads.map Head.fault).getD h (Debouncer.start false) := by
  simp only [State.head, List.getD_eq_getElem?_getD, List.getElem?_map]
  cases s.heads[h]? <;> rfl

/-- The debouncers stay sound while they, the listening and the configuration stay. -/
theorem State.InputsSound.congr (sound : s.InputsSound) (sensors : t.sensors = s.sensors) (listens : t.listening = s.listening)
    (record : t.loader.record = s.loader.record) : t.InputsSound := by
  simp only [State.sensors, Sensors.mk.injEq] at sensors
  obtain ⟨swA, swB, door, key, infeed, pitch, confirm, faults⟩ := sensors
  have cfg : t.cfg = s.cfg := State.cfg_congr record
  refine ⟨?_, ?_, ?_, ?_, ?_, ?_, ?_, fun h inside => ?_⟩
  · rw [swA, listens]; exact sound.swA
  · rw [swB, listens]; exact sound.swB
  · rw [door, listens]; exact sound.door
  · rw [key, listens]; exact sound.key
  · rw [infeed, listens]; exact sound.infeed
  · rw [pitch, listens]; exact sound.pitch
  · rw [confirm, State.readsConfirm, listens, cfg]; exact sound.confirm
  · rw [State.head_fault, faults, ← State.head_fault, listens, State.fitted, cfg]
    exact sound.faults h inside

namespace State.Reading

/-- The debouncers and the samples stay sound while they, the station state and the configuration stay. -/
theorem congr (reading : s.Reading) (sensors : t.sensors = s.sensors) (station : t.loader.station = s.loader.station)
    (record : t.loader.record = s.loader.record) (sampled : t.loader.sampled = s.loader.sampled) : t.Reading :=
  ⟨reading.inputs.congr sensors (by simp only [State.listening, station]) record, sampled ▸ reading.sampled⟩

/-- The debouncers and the samples stay sound where the Loader and the blocks with debouncers stay. -/
theorem same (reading : s.Reading) (loader : t.loader = s.loader) (cabinet : t.cabinet = s.cabinet) (tracking : t.tracking = s.tracking)
    (gate : t.gate = s.gate) (heads : t.heads = s.heads) : t.Reading :=
  reading.congr (by simp only [State.sensors, cabinet, tracking, gate, heads]) (by rw [loader]) (by rw [loader]) (by rw [loader])

end State.Reading

/-! ## What keeps the debouncers -/

/-- A change of a head that leaves its debouncer leaves the debouncers. -/
theorem State.setHead_sensors (s : State) (h : Nat) {f : Head → Head} (same : ∀ x, (f x).fault = x.fault) :
    (s.setHead h f).sensors = s.sensors := by
  have faults : (s.heads.modify h f).map Head.fault = s.heads.map Head.fault := by
    refine List.ext_getElem (by simp) fun i _ _ => ?_
    simp only [List.getElem_map, List.getElem_modify]
    split <;> simp [same]
  simp only [State.sensors, State.setHead, faults]

/-- A reply leaves the debouncers. -/
theorem State.reply_sensors (s : State) (dest : Byte) (reply : Reply) : (s.reply dest reply).sensors = s.sensors := by
  simp [State.sensors]

/-- The readiness test leaves the debouncers (R146). -/
theorem State.testReady_sensors (s : State) (h : Nat) : (s.testReady h).sensors = s.sensors := by
  simp [State.sensors]

/-- The end of a dose leaves the debouncers (R94). -/
theorem State.endDose_sensors (s : State) (h : Nat) (result : FillResult) (meter : Nat) : (s.endDose h result meter).sensors = s.sensors := by
  have delivered (n : Word32) (fill : Fill) : (s.deliverFill h n fill).sensors = s.sensors := by
    unfold State.deliverFill
    split <;> rfl
  unfold State.endDose
  split
  · rfl
  next d _ =>
    simp only
    split
    · rw [State.testReady_sensors, State.setHead_sensors]
      · exact delivered _ _
      · exact fun _ => rfl
    · rw [State.setHead_sensors]
      · exact delivered _ _
      · exact fun _ => rfl

/-- The end of a jog leaves the debouncers (R97). -/
theorem State.endJog_sensors (s : State) (h : Nat) (cause : JogCause) : (s.endJog h cause).sensors = s.sensors := by
  unfold State.endJog
  split
  · rfl
  · rw [State.reply_sensors, State.setHead_sensors]
    exact fun _ => rfl

/-- A fall of run permission at a head leaves the debouncers (R89, R97). -/
theorem State.permissionLost_sensors (s : State) (h : Nat) : (s.permissionLost h).sensors = s.sensors := by
  unfold State.permissionLost State.suspend
  split
  · split
    · rfl
    · simp only
      split
      · rw [State.endDose_sensors, State.setHead_sensors]
        exact fun _ => rfl
      · rw [State.setHead_sensors]
        exact fun _ => rfl
  · exact s.endJog_sensors h _

/-- A rise of run permission at a head leaves the debouncers (R90). -/
theorem State.permissionGained_sensors (s : State) (h : Nat) : (s.permissionGained h).sensors = s.sensors := by
  unfold State.permissionGained
  split
  · rw [State.setHead_sensors]
    exact fun _ => rfl
  · rfl

/-- A rise of run permission leaves the debouncers (R44). -/
theorem State.permissionRises_sensors (s : State) : s.permissionRises.sensors = s.sensors := by
  unfold State.permissionRises
  rw [State.forHeads_keeps State.sensors _ fun h u => u.permissionGained_sensors h]
  simp [State.sensors]

/-- Run permission following leaves the debouncers (R44). -/
theorem State.followConditions_sensors (s : State) : s.followConditions.sensors = s.sensors := by
  unfold State.followConditions State.permissionFalls
  split
  · split
    · rfl
    · split
      · exact s.permissionRises_sensors
      · rfl
  · split
    · rw [State.forHeads_keeps State.sensors _ fun h u => u.permissionLost_sensors h]
      simp [State.sensors]
    · rfl

/-- The end of a grant leaves the debouncers (R149). -/
theorem State.endGrant_sensors (s : State) (g : Grant) (reason : EndReason) : (s.endGrant g reason).sensors = s.sensors := by
  have jogs : (s.endJogsOn g.heads .grantEnded).sensors = s.sensors :=
    foldl_keeps State.sensors _ (fun u h => by split; exact u.endJog_sensors h _; rfl) _ s
  have heads (u : State) : (u.atHeads g.heads Head.grantEnds).sensors = u.sensors := by
    refine foldl_keeps State.sensors _ (fun v h => ?_) _ u
    split
    · refine v.setHead_sensors h fun x => ?_
      unfold Head.grantEnds
      split <;> rfl
    · rfl
  have ended : ((((s.endJogsOn g.heads .grantEnded).removeGrant g.number).atHeads g.heads Head.grantEnds).reply
      (byte g.holder) (.ended g.number reason)).sensors = s.sensors := by
    rw [State.reply_sensors, heads]
    exact jogs
  unfold State.endGrant
  simp only
  split
  · exact ended
  · exact ended

/-- The end of every grant leaves the debouncers (R136, R153). -/
theorem State.endAllGrants_sensors (s : State) (reason : EndReason) : (s.endAllGrants reason).sensors = s.sensors :=
  foldl_keeps State.sensors _ (fun u g => u.endGrant_sensors g reason) _ s

/-- Entry to HELD leaves the debouncers (R136). -/
theorem State.enterHeld_sensors (s : State) (detail : Byte) : (s.enterHeld detail).sensors = s.sensors := by
  unfold State.enterHeld
  split
  · rfl
  · exact s.endAllGrants_sensors _

/-- The judging of an open door leaves the debouncers (R153). -/
theorem State.judgeDoorOpen_sensors (s : State) : s.judgeDoorOpen.sensors = s.sensors := by
  unfold State.judgeDoorOpen
  split
  · rfl
  · simp only
    split
    · exact s.enterHeld_sensors 0
    · rfl

end

end Sys2Proof.Machine

/-! PROOFS of what every command keeps, seventeenth part: every command keeps the debounced inputs (R31 to R33, R48, R76, R120). -/

namespace Sys2Proof.Machine

section
variable {s t : State}

/-- Run permission following leaves the station state, the configuration and the samples. -/
theorem State.followConditions_station (s : State) : s.followConditions.loader.station = s.loader.station ∧
    s.followConditions.loader.record = s.loader.record ∧ s.followConditions.loader.sampled = s.loader.sampled := by
  refine ⟨?_, ?_, ?_⟩ <;> rw [State.followConditions_loader]

namespace State.Reading

/-- Run permission following keeps the debouncers (R44). -/
theorem followConditions (reading : s.Reading) : s.followConditions.Reading :=
  reading.congr s.followConditions_sensors s.followConditions_station.1 s.followConditions_station.2.1 s.followConditions_station.2.2

/-- New debouncers of the Cabinet Monitor keep the inputs sound. -/
theorem withCabinet (reading : s.Reading) {c : Cabinet} (swA : c.swA.Sound s.listening) (swB : c.swB.Sound s.listening)
    (door : c.door.Sound s.listening) (key : c.key.Sound s.listening) : ({ s with cabinet := c } : State).Reading :=
  ⟨⟨swA, swB, door, key, reading.inputs.infeed, reading.inputs.pitch, reading.inputs.confirm, reading.inputs.faults⟩, reading.sampled⟩

/-- New debouncers of the Tracking Unit keep the inputs sound. -/
theorem withTracking (reading : s.Reading) {k : Tracking} (infeed : k.infeed.Sound s.listening) (pitch : k.pitch.Sound s.listening) :
    ({ s with tracking := k } : State).Reading :=
  ⟨⟨reading.inputs.swA, reading.inputs.swB, reading.inputs.door, reading.inputs.key, infeed, pitch, reading.inputs.confirm,
    reading.inputs.faults⟩, reading.sampled⟩

/-- A new debouncer of the Reject Gate keeps the inputs sound. -/
theorem withGate (reading : s.Reading) {g : Gate} (confirm : g.confirm.Sound s.readsConfirm) : ({ s with gate := g } : State).Reading :=
  ⟨⟨reading.inputs.swA, reading.inputs.swB, reading.inputs.door, reading.inputs.key, reading.inputs.infeed, reading.inputs.pitch, confirm,
    reading.inputs.faults⟩, reading.sampled⟩

/-- A new debouncer of a head keeps the inputs sound (R80). -/
theorem setHead (reading : s.Reading) (h : Nat) {f : Head → Head}
    (sound : h < 8 → (s.head h).fault.Sound (s.listening && s.fitted h) → (f (s.head h)).fault.Sound (s.listening && s.fitted h)) :
    (s.setHead h f).Reading := by
  refine ⟨⟨reading.inputs.swA, reading.inputs.swB, reading.inputs.door, reading.inputs.key, reading.inputs.infeed, reading.inputs.pitch,
    reading.inputs.confirm, fun k inside => ?_⟩, reading.sampled⟩
  show ((s.setHead h f).head k).fault.Sound (s.listening && s.fitted k)
  by_cases here : k = h
  · subst here
    by_cases present : k < s.heads.length
    · rw [State.head_modify_self (s := s) (f := f) rfl present]
      exact sound inside (reading.inputs.faults k inside)
    · have absent : (s.setHead k f).head k = Head.atReset false false false := by
        simp only [State.head, State.setHead, List.getD_eq_getElem?_getD, List.getElem?_modify]
        rw [List.getElem?_eq_none (by omega)]
        rfl
      rw [absent]
      exact .start false _
  · rw [State.head_modify_ne (s := s) (f := f) rfl fun same => here same.symm]
    exact reading.inputs.faults k inside

/-! ## The debounced inputs -/

/-- A change of the switch keeps the debouncers (R34). -/
theorem moveSwitch (reading : s.Reading) (next : SwitchState) (discrepancy : Timer) : (s.moveSwitch next discrepancy).Reading := by
  have moved := reading.withCabinet (c := { s.cabinet with switch := next, discrepancy := discrepancy }) reading.inputs.swA
    reading.inputs.swB reading.inputs.door reading.inputs.key
  unfold State.moveSwitch
  simp only
  split
  · exact moved
  · exact State.Reading.followConditions (moved.same (by simp) (by simp) (by simp) (by simp) (by simp))

/-- The switch settles (R32, R34). -/
theorem takeSwitch (reading : s.Reading) : s.takeSwitch.Reading := by
  unfold State.takeSwitch
  simp only
  split
  · have settled := reading.withCabinet (c := { s.cabinet with
      swA := s.cabinet.swA.settleIfDue s.switchDebounce, swB := s.cabinet.swB.settleIfDue s.switchDebounce })
      (reading.inputs.swA.settleIfDue _) (reading.inputs.swB.settleIfDue _) reading.inputs.door reading.inputs.key
    exact settled.moveSwitch _ _
  · exact reading

/-- The door settles (R37). -/
theorem takeDoor (reading : s.Reading) : s.takeDoor.Reading := by
  unfold State.takeDoor
  split
  · have settled := reading.withCabinet (c := { s.cabinet with door := s.cabinet.door.settle }) reading.inputs.swA reading.inputs.swB
      (.settle _ _) reading.inputs.key
    have moved : (({ s with cabinet := { s.cabinet with door := s.cabinet.door.settle } } : State).announce).followConditions.Reading :=
      State.Reading.followConditions (settled.same (by simp) (by simp) (by simp) (by simp) (by simp))
    simp only
    split
    · exact moved
    · exact moved.congr (State.judgeDoorOpen_sensors _) (by simp) (by simp) (by simp)
  · exact reading

/-- The key settles (R37, R138). -/
theorem takeKey (reading : s.Reading) : s.takeKey.Reading := by
  unfold State.takeKey
  split
  · have settled := reading.withCabinet (c := { s.cabinet with key := s.cabinet.key.settle }) reading.inputs.swA reading.inputs.swB
      reading.inputs.door (.settle _ _)
    have moved : (({ s with cabinet := { s.cabinet with key := s.cabinet.key.settle } } : State).announce).Reading :=
      settled.same (by simp) (by simp) (by simp) (by simp) (by simp)
    simp only
    split
    · exact moved.congr (State.endAllGrants_sensors _ _) (by simp) (by simp) (by simp)
    · exact moved
  · exact reading

/-- The infeed settles, and a capture leaves the debouncers (R48, R50). -/
theorem takeInfeed (reading : s.Reading) : s.takeInfeed.Reading := by
  have counted (u : State) (kept : u.Reading) (c : Counter) : (u.count c).Reading := kept.same rfl rfl rfl rfl rfl
  have fires (u : State) (kept : u.Reading) (capture : Time) (detail : Byte) : (u.handFiring capture detail).2.Reading := by
    refine kept.congr ?_ (by simp) (by simp) (by simp)
    have confirm : (u.handFiring capture detail).2.gate.confirm = u.gate.confirm := by
      unfold State.handFiring
      simp only
      repeat' split
      all_goals rfl
    simp [State.sensors, confirm]
  have opens (u : State) (kept : u.Reading) (capture : Time) : (u.openRecord capture).Reading := by
    refine kept.congr ?_ (by simp) (by simp) (by simp)
    have tracking : (u.openRecord capture).tracking.infeed = u.tracking.infeed ∧ (u.openRecord capture).tracking.pitch = u.tracking.pitch := by
      rw [State.openRecord_tracking, State.matchArrival_tracking]
      exact ⟨rfl, rfl⟩
    have faults : (u.openRecord capture).heads.map Head.fault = u.heads.map Head.fault := by
      have asked (v : State) (h : Nat) (n : Word32) (c : Time) : (v.requestDose h n c).heads.map Head.fault = v.heads.map Head.fault := by
        unfold State.requestDose
        split
        · exact congrArg Sensors.faults (v.setHead_sensors h (f := fun x => x.takeDose n _) fun _ => rfl)
        · rfl
      unfold State.openRecord
      simp only [State.count_heads, State.advancePattern_frame]
      unfold State.requestPocketDose
      split
      · simp
      · rw [asked]
        simp
    simp only [State.sensors, tracking, faults, State.openRecord_frame]
  have captures (u : State) (kept : u.Reading) : u.capture.Reading := by
    unfold State.capture State.blindFiring
    simp only
    split
    · split
      · exact opens _ (counted _ kept _) _
      · split
        · refine fires _ ?_ _ _
          exact kept.same rfl rfl rfl rfl rfl
        · exact kept.same rfl rfl rfl rfl rfl
    · exact kept.same rfl rfl rfl rfl rfl
  unfold State.takeInfeed
  split
  · have moved := reading.withTracking (k := { s.tracking with infeed := s.tracking.infeed.settle }) (.settle _ _) reading.inputs.pitch
    simp only
    split
    · exact captures _ moved
    · exact moved
  · exact reading

/-- The pitch sensor settles (R48, R49). -/
theorem takePitch (reading : s.Reading) : s.takePitch.Reading := by
  unfold State.takePitch
  split
  · have moved := reading.withTracking (k := { s.tracking with pitch := s.tracking.pitch.settle }) reading.inputs.infeed (.settle _ _)
    simp only
    split
    · exact moved.congr rfl rfl rfl rfl
    · exact moved
  · exact reading

/-- The confirm sensor settles (R120, R125). -/
theorem takeConfirm (reading : s.Reading) : s.takeConfirm.Reading := by
  unfold State.takeConfirm
  split
  · have moved := reading.withGate (g := { s.gate with confirm := s.gate.confirm.settle }) (.settle _ _)
    simp only
    split
    · refine moved.congr ?_ (by simp) (by simp) (by simp)
      unfold State.giveEdge
      repeat' split
      all_goals rfl
    · exact moved
  · exact reading

/-- The change of every debounced input keeps the debouncers. -/
theorem settles : Settles State.Reading :=
  ⟨fun _ => takeSwitch, fun _ => takeDoor, fun _ => takeKey, fun _ => takeInfeed, fun _ => takePitch, fun _ => takeConfirm⟩

/-- Receiving a frame keeps the debouncers. -/
theorem receives : Receives State.Reading :=
  ⟨fun _ kept => kept.same rfl rfl rfl rfl rfl, fun _ _ kept => kept.same (by simp) (by simp) (by simp) (by simp) (by simp),
    fun _ _ kept => kept.same rfl rfl rfl rfl rfl, fun _ _ _ kept => kept.same rfl rfl rfl rfl rfl⟩

end State.Reading

end

end Sys2Proof.Machine

/-! PROOFS of what every command keeps, eighteenth part: every command keeps the debounced inputs, continued (R31 to R33). -/

namespace Sys2Proof.Machine

section
variable {s t : State}

/-! ## What keeps the debouncers, continued -/

/-- A change at some heads that leaves their debouncers leaves all of them. -/
theorem State.atHeads_sensors (s : State) (heads : HeadSet) {f : Head → Head} (same : ∀ x, (f x).fault = x.fault) :
    (s.atHeads heads f).sensors = s.sensors :=
  foldl_keeps State.sensors _ (fun u h => by split; exact u.setHead_sensors h same; rfl) _ s

/-- A grant that starts leaves the debouncer of a head. -/
theorem Head.grantStarts_fault (x : Head) : x.grantStarts.fault = x.fault := by
  unfold Head.grantStarts
  split <;> rfl

/-- A request for access leaves the debouncers (R142). -/
theorem State.requestAccess_sensors (s : State) (src level span : Byte) (seconds : Nat) :
    (s.requestAccess src level span seconds).sensors = s.sensors := by
  have heads : (s.requestAccess src level span seconds).heads.map Head.fault = s.heads.map Head.fault := by
    unfold State.requestAccess State.extendGrant State.giveGrant
    split
    · simp
    · simp
    · simp only [State.reply_frame]
      exact congrArg Sensors.faults (State.atHeads_sensors _ _ Head.grantStarts_fault)
  simp only [State.sensors, State.requestAccess_frame, heads]

/-- A released grant leaves the debouncers (R148). -/
theorem State.releaseGrant_sensors (s : State) (src number : Byte) : (s.releaseGrant src number).sensors = s.sensors := by
  unfold State.releaseGrant
  repeat' split
  · exact s.reply_sensors _ _
  · exact s.endGrant_sensors _ _
  · exact s.reply_sensors _ _

/-- An expired grant leaves the debouncers (R150). -/
theorem State.expireGrant_sensors (s : State) (number : Nat) : (s.expireGrant number).sensors = s.sensors := by
  unfold State.expireGrant
  repeat' split
  · rfl
  · exact s.endGrant_sensors _ _
  · rfl

/-- A lock-out leaves the debouncers (R136). -/
theorem State.lockOut_sensors (s : State) (src : Byte) : (s.lockOut src).sensors = s.sensors := by
  unfold State.lockOut State.discard
  split
  · rw [State.reply_sensors, State.enterHeld_sensors]
  · rfl

/-- A request for a jog leaves the debouncers (R151). -/
theorem State.requestJog_sensors (s : State) (src head count : Byte) : (s.requestJog src head count).sensors = s.sensors := by
  have stops (h : Nat) (j : JogInHand) : (s.stopJog h j).sensors = s.sensors := by
    unfold State.stopJog
    rw [State.endJog_sensors]
    split
    · exact s.setHead_sensors h fun _ => rfl
    · rfl
  have refuses (code : JogRefused) : (s.refuseJog src code head count).sensors = s.sensors := s.reply_sensors _ _
  have jogs : (s.jogHead src head count).sensors = s.sensors := by
    unfold State.jogHead
    repeat' split
    · exact stops _ _
    · rfl
    · exact refuses _
    · rfl
    · rw [State.setHead_sensors]
      · exact s.reply_sensors _ _
      · exact fun _ => rfl
  unfold State.requestJog
  repeat' split
  · exact refuses _
  · exact refuses _
  · exact refuses _
  · exact refuses _
  · exact jogs

/-- A pulse emitted leaves the debouncers (R91, R96). -/
theorem State.emitPulse_sensors (s : State) (h : Nat) : (s.emitPulse h).sensors = s.sensors := by
  unfold State.emitPulse State.jogPulse State.dosePulse
  split
  · simp only
    split
    · rw [State.endJog_sensors, State.setHead_sensors]
      exact fun _ => rfl
    · exact s.setHead_sensors h fun _ => rfl
  · split
    · exact s.setHead_sensors h fun _ => rfl
    · exact s.setHead_sensors h fun _ => rfl
  · rfl

/-- The start of a dose leaves the debouncers (R84). -/
theorem State.startDose_sensors (s : State) (h : Nat) : (s.startDose h).sensors = s.sensors := by
  unfold State.startDose
  split
  · exact s.setHead_sensors h fun _ => rfl
  · exact s.endDose_sensors h _ _

/-- An HND listed or refused leaves the debouncers (R61 to R63). -/
theorem State.takeHandover_sensors (s : State) (src : Byte) (h : HndBody) : (s.takeHandover src h).sensors = s.sensors := by
  unfold State.takeHandover State.listArrival State.discard
  repeat' split
  all_goals rfl

/-- A lost arrival leaves the debouncers (R65). -/
theorem State.loseArrival_sensors (s : State) (position : Nat) : (s.loseArrival position).sensors = s.sensors := by
  unfold State.loseArrival
  repeat' split
  all_goals rfl

/-- The decide leaves the debouncers (R68 to R73). -/
theorem State.decide_sensors (s : State) : s.decide.sensors = s.sensors := by
  have fires (u : State) (capture : Time) (detail : Byte) : (u.handFiring capture detail).2.gate.confirm = u.gate.confirm := by
    unfold State.handFiring
    simp only
    repeat' split
    all_goals rfl
  have routes (r : Record) (rest : List Record) : (s.decideHead r rest).gate.confirm = s.gate.confirm := by
    unfold State.decideHead State.routeDecided State.routeRejected
    simp only
    repeat' split
    all_goals simp [fires]
  unfold State.decide
  repeat' split
  · rfl
  next r rest _ _ =>
    have tracking : (s.decideHead r rest).tracking.infeed = s.tracking.infeed ∧ (s.decideHead r rest).tracking.pitch = s.tracking.pitch := by
      simp [State.decideHead]
    simp only [State.sensors, State.decideHead_frame, routes, tracking]
  · rfl

/-! ### The camera ports -/

/-- A change of a port leaves the debouncers. -/
theorem State.setPort_sensors (s : State) (p : Port) (f : CameraPort → CameraPort) : (s.setPort p f).sensors = s.sensors := by
  cases p <;> rfl

/-- A trigger leaves the debouncers (R103). -/
theorem State.trigger_sensors (s : State) (p : Port) (busy : Bool) (r : Record) : (s.trigger p busy r).sensors = s.sensors := by
  unfold State.trigger
  simp only
  split
  · exact s.setPort_sensors p _
  · rw [State.setPort_sensors, State.setPort_sensors]

/-- A strobe leaves the debouncers (R108). -/
theorem State.strobeDue_sensors (s : State) (p : Port) : (s.strobeDue p).sensors = s.sensors := by
  unfold State.strobeDue State.strobe
  repeat' split
  · rfl
  · exact s.setPort_sensors p _
  · rw [State.setPort_sensors, State.setPort_sensors]
  · rfl

/-- An abandoned message leaves the debouncers (R112). -/
theorem State.abandon_sensors (s : State) (p : Port) : (s.abandon p).sensors = s.sensors := s.setPort_sensors p _

/-- A byte taken leaves the debouncers (R112 to R116). -/
theorem State.takeByte_sensors (s : State) (p : Port) (b : Byte) : (s.takeByte p b).sensors = s.sensors := by
  have matches_ (u : State) (tag verdict : Byte) : (u.matchResult p tag verdict).sensors = u.sensors := by
    unfold State.matchResult
    split
    · rfl
    next passed hit later _ =>
      rw [State.retireAll_eq]
      exact State.setPort_sensors _ p _
  unfold State.takeByte State.takeCheck
  repeat' split
  · exact s.setPort_sensors p _
  · rfl
  · exact s.setPort_sensors p _
  · exact s.setPort_sensors p _
  · rw [matches_, State.setPort_sensors]
  · exact s.abandon_sensors p

/-- A character handed on leaves the debouncers where what is done with it does (R111). -/
theorem State.handOn_sensors (s : State) (p : Port) {act : State → State} (acts : ∀ u : State, (act u).sensors = u.sensors) :
    (s.handOn p act).sensors = s.sensors := by
  unfold State.handOn
  rw [acts]
  split
  · rw [State.abandon_sensors, State.setPort_sensors]
  · exact s.setPort_sensors p _

/-! ### The Reject Gate -/

/-- A firing that ends or is judged leaves the debouncers (R125 to R127). -/
theorem State.gate_sensors (s : State) : s.firingEnds.sensors = s.sensors ∧ s.confirmWindowEnds.sensors = s.sensors := by
  constructor
  · unfold State.firingEnds State.endFiring
    repeat' split
    all_goals rfl
  · have judged (u : State) (count : Nat) : (u.firingUnconfirmed count).sensors = u.sensors := by
      unfold State.firingUnconfirmed
      simp only
      split <;> rfl
    unfold State.confirmWindowEnds
    repeat' split
    · rfl
    · exact judged _ _
    · rfl

/-! ## Every command -/

namespace State.Reading

/-- Outside JOINING and RUNNING no debouncer is read, so that the debouncers stay sound in any station state. -/
theorem ofDeaf (reading : s.Reading) (deaf : s.listening = false) (sensors : t.sensors = s.sensors)
    (sampled : t.loader.sampled.length ≤ 1072) : t.Reading := by
  simp only [State.sensors, Sensors.mk.injEq] at sensors
  obtain ⟨swA, swB, door, key, infeed, pitch, confirm, faults⟩ := sensors
  have still {d e : Debouncer} (same : e = d) (sound : d.Sound s.listening) (reads : Bool) : e.Sound reads := by
    rw [deaf] at sound
    exact .ofStopped (same ▸ sound.stopped) reads
  have inputs := reading.inputs
  refine ⟨⟨still swA inputs.swA _, still swB inputs.swB _, still door inputs.door _, still key inputs.key _, still infeed inputs.infeed _,
    still pitch inputs.pitch _, ?_, fun h inside => ?_⟩, sampled⟩
  · have sound := inputs.confirm
    simp only [State.readsConfirm, deaf, Bool.false_and] at sound
    exact .ofStopped (confirm ▸ sound.stopped) _
  · have sound := inputs.faults h inside
    simp only [deaf, Bool.false_and] at sound
    refine .ofStopped ?_ _
    rw [State.head_fault, faults, ← State.head_fault]
    exact sound.stopped

/-- After a reset every debouncer is at rest (R32). -/
theorem takeReset (s : State) (hold : Timer) (rstLow heldLock : Bool) : (s.takeReset hold rstLow heldLock).Reading := by
  refine ⟨⟨.start _ _, .start _ _, .start _ _, .start _ _, .start _ _, .start _ _, .start _ _, fun h inside => .ofStopped ?_ _⟩,
    Nat.zero_le _⟩
  have faults : (s.takeReset hold rstLow heldLock).heads.map Head.fault = s.heads.map fun x => Debouncer.start x.fault.raw := by
    simp only [State.takeReset, List.map_map]
    rfl
  rw [State.head_fault, faults]
  simp only [List.getD_eq_getElem?_getD, List.getElem?_map]
  cases s.heads[h]? <;> rfl

/-- The debouncers that JOINING reads start at its beginning (R33, R195). -/
theorem entering (reading : s.Reading) (image : List Byte) (deaf : s.listening = false) (eight : s.heads.length = 8) :
    (s.entering image).Reading := by
  have parts := s.entering_eq image
  have listens : (s.entering image).listening = true := by
    rw [parts]
    rfl
  have cfg : (s.entering image).cfg = recordOf image := by
    rw [parts]
    rfl
  have confirm := reading.inputs.confirm
  simp only [State.readsConfirm, deaf, Bool.false_and] at confirm
  refine ⟨⟨?_, ?_, ?_, ?_, ?_, ?_, ?_, fun h inside => ?_⟩, ?_⟩
  case refine_7 =>
    rw [State.readsConfirm, listens, cfg, parts]
    simp only [Bool.true_and]
    split
    next fitted =>
      rw [fitted]
      exact .enterJoining _
    · exact .ofStopped confirm.stopped _
  case refine_8 =>
    have fault := reading.inputs.faults h inside
    simp only [deaf, Bool.false_and] at fault
    have head : (s.entering image).head h = if (h < (recordOf image).track.heads : Bool) then
        { s.head h with fault := (s.head h).fault.enterJoining } else s.head h := by
      refine State.head_mapIdx (s := s) (f := fun i x => if (i < (recordOf image).track.heads : Bool) then
        { x with fault := x.fault.enterJoining } else x) ?_ (by rw [eight]; exact inside)
      rw [parts]
      exact withIndex_eq_mapIdx _ _
    rw [listens, State.fitted, cfg, head]
    split
    next fitted =>
      rw [fitted]
      exact .enterJoining _
    · exact .ofStopped fault.stopped _
  case refine_9 => rw [parts]; exact Nat.zero_le _
  all_goals
    rw [listens, parts]
    exact .enterJoining _

/-- A local microsecond lets the timers run on, and samples at most the whole image (R5, R188). -/
theorem tick (reading : s.Reading) (pins : PinSamples) (eight : s.heads.length = 8) : (s.tick pins).Reading := by
  have inputs := reading.inputs
  refine ⟨⟨inputs.swA.tick, inputs.swB.tick, inputs.door.tick, inputs.key.tick, inputs.infeed.tick, inputs.pitch.tick, inputs.confirm.tick,
    fun h inside => ?_⟩, ?_⟩
  · have head : (s.tick pins).head h = (s.head h).tick (inSet pins.ready h) (inSet pins.meter h) :=
      State.head_mapIdx (f := fun i x => x.tick (inSet pins.ready i) (inSet pins.meter i)) (withIndex_eq_mapIdx _ _)
        (by rw [eight]; exact inside)
    rw [head]
    exact (inputs.faults h inside).tick
  · show (sampleMemory s.loader.readTimer s.loader.sampled pins.memory).length ≤ 1072
    unfold sampleMemory
    split
    next room =>
      simp only [Bool.and_eq_true, decide_eq_true_eq] at room
      rw [List.length_append, List.length_singleton]
      exact room.2
    · exact reading.sampled

/-- A drive fault that acts settles its debouncer (R80, R98). -/
theorem driveFaults (reading : s.Reading) (h : Nat) : (s.driveFaults h).Reading := by
  have ended : ((s.endDose h .driveFault (s.head h).faultMeter).endJog h .driveFault).Reading :=
    reading.congr (by rw [State.endJog_sensors, State.endDose_sensors]) (by simp) (by simp) (by simp)
  have settled := ended.setHead h (f := Head.becomeFaulted) fun _ _ => .settle _ _
  exact settled.congr (State.testReady_sensors _ _) (by simp [State.driveFaults]) (by simp [State.driveFaults]) (by simp [State.driveFaults])

/-- A drive fault that clears settles its debouncer (R80, R98). -/
theorem driveFaultClears (reading : s.Reading) (h : Nat) : (s.driveFaultClears h).Reading := by
  have settled := reading.setHead h (f := fun x => { x with
      fault := x.fault.settle
      production := if x.production = .faulted then (if s.covered h then .out else .inProduction) else x.production })
    fun _ _ => .settle _ _
  exact settled.congr (State.testReady_sensors _ _) (by simp [State.driveFaultClears]) (by simp [State.driveFaultClears])
    (by simp [State.driveFaultClears])

/-- A report of a peer keeps the debouncers (R30, R44). -/
theorem takeReport (reading : s.Reading) (src : Byte) (values : CabinetCodes) : (s.takeReport src values).Reading := by
  have written : (s.setPeer src.toNat fun p => { p with report := readCabinet values }).Reading := reading.same rfl rfl rfl rfl rfl
  exact written.followConditions

/-- A state in which nothing runs and that is not joining does not listen. -/
theorem deaf_of {station : Station} (is : s.loader.station = station) (quiet : station ≠ .joining ∧ station ≠ .running) :
    s.listening = false := by
  simp [State.listening, is, quiet.1, quiet.2]

/-- Every command keeps the debounced inputs and the samples of the memory. -/
theorem command (reading : s.Reading) (eight : s.heads.length = 8) {i : Instr} (stands : occasion i s = true) : (effect i s).Reading := by
  cases i
  case powerOnReset | resetPin => exact State.Reading.takeReset s _ _ _
  case resetRelease rstHigh =>
    have deaf := deaf_of (s := s) (of_decide_eq_true stands) (by decide)
    simp only [effect]
    split
    · exact reading.ofDeaf deaf rfl (Nat.zero_le _)
    · exact reading.ofDeaf deaf rfl reading.sampled
  case imageRejected image =>
    exact reading.ofDeaf (deaf_of (State.rejects_loading stands) (by decide)) rfl (Nat.zero_le _)
  case localMicrosecond pins => exact reading.tick pins eight
  case endOfLoading image =>
    rw [effect_endOfLoading]
    exact settles.atOnce (reading.entering image (deaf_of (State.accepts_loading stands) (by decide)) eight)
  case endOfJoining =>
    rw [effect_endOfJoining]
    refine State.Reading.followConditions ⟨reading.inputs.congr ?_ ?_ ?_, ?_⟩
    all_goals rw [State.joined_eq]
    · rfl
    · simp [State.listening, State.joiningDue_joining stands]
    · exact reading.sampled
  case roundEnd =>
    show s.endRound.Reading
    rw [State.endRound_eq]
    refine State.Reading.followConditions (reading.same ?_ ?_ ?_ ?_ ?_)
    all_goals rw [State.silenced_rest]
  case rawInputChange input =>
    have inputs := reading.inputs
    exact settles.rawInput
      (fun _ _ _ _ => ⟨reading.withCabinet (inputs.swA.rawTo _) (inputs.swB.rawTo _) inputs.door inputs.key,
        reading.withCabinet inputs.swA inputs.swB (inputs.door.rawTo _) inputs.key,
        reading.withCabinet inputs.swA inputs.swB inputs.door (inputs.key.rawTo _)⟩)
      (fun _ _ => ⟨reading.withTracking (inputs.infeed.rawTo _) inputs.pitch, reading.withTracking inputs.infeed (inputs.pitch.rawTo _)⟩)
      (fun _ => reading.withGate (inputs.confirm.rawTo _)) (fun h _ => reading.setHead h fun _ sound => sound.rawTo _) input
  case frameDiscarded dest src kind payload => exact receives.discarded reading dest src
  case crp dest src payload | evt dest src payload | arp dest src payload | ans dest src payload =>
    exact receives.receiveIdle reading _ dest src payload
  case bcn dest src b =>
    exact receives.receive (owner := fun u => (u.takeTime src (s.offsetOf b.stamp s.startStamp) b.quality).takeReport src b.cabinet)
      reading dest src fun u kept =>
        (kept.same rfl rfl rfl rfl rfl : (u.takeTime src (s.offsetOf b.stamp s.startStamp) b.quality).Reading).takeReport src _
  case cab dest src v => exact receives.receive (owner := fun u => u.takeReport src v) reading dest src fun u kept => kept.takeReport src v
  case lck dest src =>
    exact receives.receive (owner := fun u => u.lockOut src) reading dest src fun u kept =>
      kept.congr (u.lockOut_sensors src) (by simp) (by simp) (by simp)
  case hnd dest src h =>
    exact receives.ownFrame reading dest src dest fun u kept _ => kept.congr (u.takeHandover_sensors src h) (by simp) (by simp) (by simp)
  case arq dest src level span seconds =>
    exact receives.ownFrame reading dest src dest fun u kept _ =>
      kept.congr (u.requestAccess_sensors src level span seconds.toNat) (by simp) (by simp) (by simp)
  case arl dest src number =>
    exact receives.ownFrame reading dest src dest fun u kept _ => kept.congr (u.releaseGrant_sensors src number) (by simp) (by simp) (by simp)
  case jog dest src head count =>
    exact receives.ownFrame reading dest src dest fun u kept _ => kept.congr (u.requestJog_sensors src head count) (by simp) (by simp) (by simp)
  case qry dest src table start count clear =>
    exact receives.ownFrame reading dest src dest fun u kept _ => kept.same (by simp) (by simp) (by simp) (by simp) (by simp)
  case switchChannelChange => exact reading.takeSwitch
  case discrepancy =>
    have latched : (s.occur .discrepancy s.discrepancyDetail).Reading := reading.same rfl rfl rfl rfl rfl
    exact latched.moveSwitch _ _
  case restoreTimerExpiry =>
    exact reading.congr s.permissionRises_sensors (by simp [effect, State.permissionRises_eq]) (by simp [effect, State.permissionRises_eq])
      (by simp [effect, State.permissionRises_eq])
  case doorChange => exact reading.takeDoor
  case keyChange => exact reading.takeKey
  case debounceTimerExpiry input => exact settles.takeQuiet reading input
  case capture => exact reading.takeInfeed
  case pitch => exact reading.takePitch
  case confirmEdge => exact reading.takeConfirm
  case arrivalLost position =>
    have loader : (s.loseArrival position).loader = s.loader := by
      unfold State.loseArrival
      repeat' split
      all_goals rfl
    exact reading.congr (s.loseArrival_sensors position) (by rw [effect, loader]) (by rw [effect, loader]) (by rw [effect, loader])
  case decide =>
    have loader : s.decide.loader = s.loader := by
      unfold State.decide
      repeat' split
      all_goals simp
    exact reading.congr s.decide_sensors (by rw [effect, loader]) (by rw [effect, loader]) (by rw [effect, loader])
  case doseStart h => exact reading.congr (s.startDose_sensors h) (by simp [effect]) (by simp [effect]) (by simp [effect])
  case lowPhaseEnd h => exact reading.congr (s.setHead_sensors h fun _ => rfl) rfl rfl rfl
  case pulseEmitted h => exact reading.congr (s.emitPulse_sensors h) (by simp [effect]) (by simp [effect]) (by simp [effect])
  case driveReadyChange h high =>
    refine reading.congr (s.setHead_sensors h fun x => ?_) rfl rfl rfl
    unfold Head.readyChanges
    repeat' split
    all_goals rfl
  case meterPulse h => exact reading.congr (s.setHead_sensors h fun _ => rfl) rfl rfl rfl
  case doseTimeout h | resumeLimit h | settleEnd h =>
    exact reading.congr (s.endDose_sensors h _ _) (by simp [effect]) (by simp [effect]) (by simp [effect])
  case driveFaultActive h => exact reading.driveFaults h
  case driveFaultInactive h => exact reading.driveFaultClears h
  case grantExpiry number => exact reading.congr (s.expireGrant_sensors number) (by simp [effect]) (by simp [effect]) (by simp [effect])
  case triggerTime p busy =>
    simp only [effect]
    split
    · exact reading
    · exact reading.congr (s.trigger_sensors p busy _) (by simp) (by simp) (by simp)
  case triggerPulseEnd p | guardEnd p | strobeEnd p | strobeOffExpiry p =>
    exact reading.congr (s.setPort_sensors p _) (by simp [effect]) (by simp [effect]) (by simp [effect])
  case strobeDue p => exact reading.congr (s.strobeDue_sensors p) (by simp [effect]) (by simp [effect]) (by simp [effect])
  case resultByte p b | resultMessage p b =>
    have loader : (s.handOn p fun u => u.takeByte p b).loader = s.loader := by
      unfold State.handOn
      simp only
      split <;> simp
    exact reading.congr (s.handOn_sensors p fun u => u.takeByte_sensors p b) (by rw [effect, loader]) (by rw [effect, loader])
      (by rw [effect, loader])
  case framingError p =>
    have loader : (s.handOn p fun u => u.abandon p).loader = s.loader := by
      unfold State.handOn
      simp only
      split <;> simp
    exact reading.congr (s.handOn_sensors p fun u => u.abandon_sensors p) (by rw [effect, loader]) (by rw [effect, loader])
      (by rw [effect, loader])
  case interByteTimeout p => exact reading.congr (s.abandon_sensors p) (by simp [effect]) (by simp [effect]) (by simp [effect])
  case firingStart => exact reading.congr rfl rfl rfl rfl
  case firingEnd => exact reading.congr s.gate_sensors.1 (by simp [effect]) (by simp [effect]) (by simp [effect])
  case confirmWindowEnd => exact reading.congr s.gate_sensors.2 (by simp [effect]) (by simp [effect]) (by simp [effect])
  case startMark | checkError => exact reading.same rfl rfl rfl rfl rfl
  case transmitStart =>
    simp only [effect]
    split
    · exact reading.same (by simp) (by simp) (by simp) (by simp) (by simp)
    · exact reading
  case frameSent =>
    simp only [effect]
    split
    · refine reading.same ?_ ?_ ?_ ?_ ?_
      all_goals simp [State.endSent]
    · exact reading
  case collision =>
    simp only [effect]
    split
    · refine reading.same ?_ ?_ ?_ ?_ ?_
      all_goals simp [State.endCollided]
    · exact reading

end State.Reading

end

end Sys2Proof.Machine

/-! PROOFS of what every command keeps, nineteenth part: every command keeps the Access Unit and the heads (R77 to R100, R136 to R153). -/

namespace Sys2Proof.Machine

section
variable {s t : State}

/-- The table of R93 gives no drive fault. -/
theorem evaluateDose_ordinary (m expected tol : Nat) : evaluateDose m expected tol ≠ .driveFault := by
  unfold evaluateDose
  repeat' split
  all_goals decide

namespace State.Driving

/-- A change of the Cabinet Monitor but for run permission keeps what is kept. -/
theorem withCabinet (driving : s.Driving) {c : Cabinet} (permission : c.permission = s.cabinet.permission) :
    ({ s with cabinet := c } : State).Driving := driving.congr rfl rfl permission rfl rfl

/-- The announcement of the cabinet keeps what is kept (R39). -/
theorem announce (driving : s.Driving) : s.announce.Driving :=
  driving.congr (by simp) (by simp) (by simp) (by simp) (by simp)

/-- A change of the switch keeps what is kept (R34). -/
theorem moveSwitch (driving : s.Driving) (next : SwitchState) (discrepancy : Timer) : (s.moveSwitch next discrepancy).Driving := by
  have moved := driving.withCabinet (c := { s.cabinet with switch := next, discrepancy := discrepancy }) rfl
  unfold State.moveSwitch
  simp only
  split
  · exact moved
  · exact moved.announce.followConditions

/-- The switch keeps what is kept (R34). -/
theorem takeSwitch (driving : s.Driving) : s.takeSwitch.Driving := by
  unfold State.takeSwitch
  simp only
  split
  · have settled := driving.withCabinet (c := { s.cabinet with
      swA := s.cabinet.swA.settleIfDue s.switchDebounce, swB := s.cabinet.swB.settleIfDue s.switchDebounce }) rfl
    exact settled.moveSwitch _ _
  · exact driving

/-- The door keeps what is kept (R37, R153). -/
theorem takeDoor (driving : s.Driving) : s.takeDoor.Driving := by
  have moved := (driving.withCabinet (c := { s.cabinet with door := s.cabinet.door.settle }) rfl).announce.followConditions
  unfold State.takeDoor
  split
  · simp only
    split
    · exact moved
    · exact moved.judgeDoorOpen
  · exact driving

/-- The key keeps what is kept (R37, R138). -/
theorem takeKey (driving : s.Driving) : s.takeKey.Driving := by
  have moved := (driving.withCabinet (c := { s.cabinet with key := s.cabinet.key.settle }) rfl).announce
  unfold State.takeKey
  split
  · simp only
    split
    · exact moved.endAllGrants _
    · exact moved
  · exact driving

/-- A record opened keeps what is kept (R55, R83). -/
theorem openRecord (driving : s.Driving) (runs : s.running = true) (capture : Time) : (s.openRecord capture).Driving := by
  have matched : (s.matchArrival capture).2.Driving := driving.congr (by simp) (by simp) (by simp) (by simp) (by simp)
  have stays : (s.matchArrival capture).2.running = true := (State.running_congr (by simp)).trans runs
  have asked : ((s.matchArrival capture).2.requestPocketDose capture).Driving := by
    unfold State.requestPocketDose
    split
    · exact matched
    · exact matched.requestDose stays _ _ _
  unfold State.openRecord
  exact asked.congr (by simp) (by simp) (by simp) (by simp) (by simp)

/-- A capture keeps what is kept (R50). -/
theorem capture (driving : s.Driving) : s.capture.Driving := by
  unfold State.capture State.blindFiring
  simp only
  split
  next runs =>
    have counted : (s.count .captures).Driving := driving.congr rfl rfl rfl rfl rfl
    split
    · exact counted.openRecord runs _
    · split
      · exact driving.congr (by simp) (by simp) (by simp) (by simp) (by simp)
      · exact driving.congr rfl rfl rfl rfl rfl
  · exact driving.congr rfl rfl rfl rfl rfl

/-- The infeed keeps what is kept (R48). -/
theorem takeInfeed (driving : s.Driving) : s.takeInfeed.Driving := by
  unfold State.takeInfeed
  split
  · have moved (k : Tracking) : ({ s with tracking := k } : State).Driving := driving.congr rfl rfl rfl rfl rfl
    simp only
    split
    · exact (moved _).capture
    · exact moved _
  · exact driving

/-- The change of every debounced input keeps what is kept. -/
theorem settles : Settles State.Driving :=
  ⟨fun _ => takeSwitch, fun _ => takeDoor, fun _ => takeKey, fun _ => takeInfeed,
    fun _ kept => kept.congr (by simp) (by simp) (by simp) (by simp) (by simp),
    fun _ kept => kept.congr (by simp) (by simp) (by simp) (by simp) (by simp)⟩

/-- Receiving a frame keeps what is kept. -/
theorem receives : Receives State.Driving :=
  ⟨fun _ kept => kept.congr rfl rfl rfl rfl rfl, fun _ _ kept => kept.congr (by simp) (by simp) (by simp) (by simp) (by simp),
    fun _ _ kept => kept.congr rfl rfl rfl rfl rfl, fun _ _ _ kept => kept.congr rfl rfl rfl rfl rfl⟩

/-- A report of a peer keeps what is kept (R30, R44). -/
theorem takeReport (driving : s.Driving) (src : Byte) (values : CabinetCodes) : (s.takeReport src values).Driving := by
  have written : (s.setPeer src.toNat fun p => { p with report := readCabinet values }).Driving := driving.congr rfl rfl rfl rfl rfl
  exact written.followConditions

/-! ## The station states -/

/-- Outside RUNNING the station state may change with the heads as they are. -/
theorem moves (driving : s.Driving) (stopped : s.running = false) (heads : t.heads = s.heads) (access : t.access = s.access)
    (record : t.loader.record = s.loader.record) : t.Driving := by
  refine driving.ofStill (f := fun _ x => x) stopped ?_ (fun _ _ _ fits => fits) ?_ ?_ ?_ ?_
  · rw [heads]
    exact List.ext_getElem (by simp) fun i _ _ => by simp
  · rw [access]; exact driving.grants.outside stopped
  · rw [access]; exact driving.grants.next
  · rw [access]; exact driving.grants.held
  · rw [record]; exact driving.pulses

/-- The entry to JOINING sets the lock mode and starts the debouncers of the heads (R135, R195). -/
theorem entering (driving : s.Driving) {image : List Byte} (accepted : s.accepts image = true) : (s.entering image).Driving := by
  have stopped := State.stopped_of (State.accepts_loading accepted) (by decide)
  refine driving.ofStill (f := fun i x => if (i < (recordOf image).track.heads : Bool) then
    { x with fault := x.fault.enterJoining } else x) stopped ?_ (fun h x _ fits => ?_) ?_ ?_ ?_ fun r is => ?_
  · rw [State.entering_eq]
    exact withIndex_eq_mapIdx _ _
  · split
    · exact fits.faultMoves rfl
    · exact fits
  · rw [State.entering_eq]
    exact driving.grants.outside stopped
  · rw [State.entering_eq]
    exact driving.grants.next
  · rw [State.entering_eq]
    intro held
    by_cases kept : s.access.heldLock = true
    · exact kept
    · simp only [kept] at held
      exact absurd (Option.some.inj held) (recordOf_accessMode image)
  · rw [State.entering_eq] at is
    obtain rfl : recordOf image = r := Option.some.inj is
    exact recordOf_pulses image

/-- The end of LOADING keeps what is kept (R195). -/
theorem endOfLoading (driving : s.Driving) {image : List Byte} (accepted : s.accepts image = true) :
    (effect (.endOfLoading image) s).Driving := settles.atOnce (driving.entering accepted)

/-- The end of JOINING keeps what is kept (R196). -/
theorem endOfJoining (driving : s.Driving) (due : s.joiningDue = true) : (effect .endOfJoining s).Driving := by
  rw [effect_endOfJoining]
  refine State.Driving.followConditions (driving.moves (State.stopped_of (State.joiningDue_joining due) (by decide)) ?_ ?_ ?_)
  all_goals rw [State.joined_eq]

/-- A round end keeps what is kept (R11). -/
theorem endRound (driving : s.Driving) : s.endRound.Driving := by
  rw [State.endRound_eq]
  refine State.Driving.followConditions (driving.congr ?_ ?_ ?_ ?_ ?_)
  all_goals rw [State.silenced_rest]

/-- Every command keeps the Access Unit and the heads. -/
theorem command (driving : s.Driving) (inputs : s.InputsSound) {i : Instr} (stands : occasion i s = true) : (effect i s).Driving := by
  cases i
  case powerOnReset | resetPin => exact State.Driving.takeReset driving.heads _ _ _
  case resetRelease rstHigh =>
    have stopped := State.stopped_of (s := s) (of_decide_eq_true stands) (by decide)
    simp only [effect]
    split
    all_goals exact driving.moves stopped rfl rfl rfl
  case imageRejected image => exact driving.moves (State.stopped_of (State.rejects_loading stands) (by decide)) rfl rfl rfl
  case endOfLoading image => exact driving.endOfLoading stands
  case endOfJoining => exact driving.endOfJoining stands
  case localMicrosecond pins => exact driving.tick pins
  case roundEnd => exact driving.endRound
  case rawInputChange input =>
    exact settles.rawInput (fun _ _ _ _ => ⟨driving.withCabinet rfl, driving.withCabinet rfl, driving.withCabinet rfl⟩)
      (fun _ _ => ⟨driving.congr rfl rfl rfl rfl rfl, driving.congr rfl rfl rfl rfl rfl⟩) (fun _ => driving.congr rfl rfl rfl rfl rfl)
      (fun h f => driving.rawFault h _ f) input
  case frameDiscarded dest src kind payload => exact receives.discarded driving dest src
  case crp dest src payload | evt dest src payload | arp dest src payload | ans dest src payload =>
    exact receives.receiveIdle driving _ dest src payload
  case bcn dest src b =>
    exact receives.receive (owner := fun u => (u.takeTime src (s.offsetOf b.stamp s.startStamp) b.quality).takeReport src b.cabinet)
      driving dest src fun u kept =>
        (kept.congr rfl rfl rfl rfl rfl : (u.takeTime src (s.offsetOf b.stamp s.startStamp) b.quality).Driving).takeReport src _
  case cab dest src v => exact receives.receive (owner := fun u => u.takeReport src v) driving dest src fun u kept => kept.takeReport src v
  case lck dest src => exact receives.receive (owner := fun u => u.lockOut src) driving dest src fun u kept => kept.lockOut src
  case hnd dest src h =>
    exact receives.ownFrame driving dest src dest fun u kept _ => kept.congr (by simp) (by simp) (by simp) (by simp) (by simp)
  case arq dest src level span seconds =>
    exact receives.ownFrame driving dest src dest fun u kept runs => kept.requestAccess runs src level span seconds.toNat
  case arl dest src number => exact receives.ownFrame driving dest src dest fun u kept _ => kept.releaseGrant src number
  case jog dest src head count => exact receives.ownFrame driving dest src dest fun u kept runs => kept.requestJog runs src head count
  case qry dest src table start count clear =>
    exact receives.ownFrame driving dest src dest fun u kept _ => kept.congr (by simp) (by simp) (by simp) (by simp) (by simp)
  case switchChannelChange => exact driving.takeSwitch
  case discrepancy =>
    have latched : (s.occur .discrepancy s.discrepancyDetail).Driving := driving.congr rfl rfl rfl rfl rfl
    exact latched.moveSwitch _ _
  case restoreTimerExpiry => exact driving.permissionRises
  case doorChange => exact driving.takeDoor
  case keyChange => exact driving.takeKey
  case debounceTimerExpiry input => exact settles.takeQuiet driving input
  case capture => exact driving.takeInfeed
  case doseStart h => exact driving.startDose stands
  case lowPhaseEnd h => exact driving.lowPhaseEnds stands
  case pulseEmitted h => exact driving.emitPulse stands
  case driveReadyChange h high => exact driving.readyTurns stands
  case meterPulse h => exact driving.meterPulse h
  case doseTimeout h | resumeLimit h => exact driving.endDose h (by decide) _
  case settleEnd h => exact driving.endDose h (evaluateDose_ordinary _ _ _) _
  case driveFaultActive h => exact driving.driveFaults stands
  case driveFaultInactive h =>
    refine driving.driveFaultClears stands fun runs => ?_
    by_cases inside : h < 8
    · exact (inputs.faults h inside runs).2
    · have absent : s.head h = Head.atReset false false false := by
        rw [State.head, List.getD_eq_default _ _ (by rw [driving.heads]; omega)]
      rw [absent] at runs
      simp [Head.atReset, Debouncer.start] at runs
  case grantExpiry number => exact driving.expireGrant number
  case arrivalLost position =>
    simp only [effect, State.loseArrival]
    repeat' split
    all_goals exact driving.congr rfl rfl rfl rfl rfl
  case decide =>
    simp only [effect, State.decide]
    repeat' split
    all_goals exact driving.congr (by simp) (by simp) (by simp) (by simp) (by simp)
  case resultByte p b | resultMessage p b | framingError p =>
    simp only [effect, State.handOn]
    split <;> exact driving.congr (by simp) (by simp) (by simp) (by simp) (by simp)
  case frameSent =>
    simp only [effect]
    split
    · refine driving.congr ?_ ?_ ?_ ?_ ?_
      all_goals simp [State.endSent]
    · exact driving
  case collision =>
    simp only [effect]
    split
    · refine driving.congr ?_ ?_ ?_ ?_ ?_
      all_goals simp [State.endCollided]
    · exact driving
  case transmitStart | triggerTime =>
    simp only [effect]
    split <;> exact driving.congr (by simp) (by simp) (by simp) (by simp) (by simp)
  all_goals
    refine driving.congr ?_ ?_ ?_ ?_ ?_
    all_goals simp [effect]

end State.Driving

end

end Sys2Proof.Machine

/-! PROOFS of what every command keeps, twentieth part: the Line Port, the latches and the counters through the commands of RUNNING. -/

namespace Sys2Proof.Machine

section
variable {s t : State}

/-- A sound state keeps its Line Port, its latches and its Counter Bank. -/
theorem State.Sound.reporting (sound : s.Sound) : s.Reporting :=
  ⟨sound.bounded.latches, sound.bounded.counters, sound.bounded.counts, sound.bounded.gathered, sound.bounded.queue,
    sound.bounded.readBack, sound.line,
    fun stopped => ⟨sound.quiet.transmitter stopped, sound.quiet.cab stopped, sound.quiet.beacon stopped, sound.quiet.queue stopped⟩⟩

namespace State.Live

/-- What is live stays while the line, the latches, the counters, the clock and the Loader stay. -/
theorem same (live : s.Live) (line : t.line = s.line) (latches : t.latches = s.latches) (counters : t.counters = s.counters)
    (clock : t.clock = s.clock) (loader : t.loader = s.loader) : t.Live :=
  live.congr line latches counters clock (State.running_congr loader)

/-! ## Access and heads -/

/-- Entry to HELD (R136). -/
theorem enterHeld (live : s.Live) (detail : Byte) : (s.enterHeld detail).Live := by
  unfold State.enterHeld
  split
  · exact live
  · exact (State.Live.same (t := { s.endAllGrants .locked with
      access := { (s.endAllGrants .locked).access with lockMode := some .held, heldLock := true } }) (live.endAllGrants .locked) rfl rfl rfl
      rfl rfl).occur _ _

/-- An open door judged (R153). -/
theorem judgeDoorOpen (live : s.Live) : s.judgeDoorOpen.Live := by
  unfold State.judgeDoorOpen
  split
  · exact live
  · simp only
    split
    · exact (live.enterHeld 0).occur _ _
    · exact live.occur _ _

/-- A request for access (R142). -/
theorem requestAccess (live : s.Live) (src level span : Byte) (seconds : Nat) : (s.requestAccess src level span seconds).Live := by
  unfold State.requestAccess State.extendGrant State.giveGrant
  split
  · exact live.reply _ _
  · simp only
    refine State.Live.reply ?_ _ _
    exact live.same rfl rfl rfl rfl rfl
  · simp only
    exact State.Live.reply (live.same (by simp) (by simp) (by simp) (by simp) (by simp)) _ _

/-- A released grant (R148). -/
theorem releaseGrant (live : s.Live) (src number : Byte) : (s.releaseGrant src number).Live := by
  unfold State.releaseGrant
  repeat' split
  · exact live.reply _ _
  · exact live.endGrant _ _
  · exact live.reply _ _

/-- An expired grant (R150). -/
theorem expireGrant (live : s.Live) (number : Nat) : (s.expireGrant number).Live := by
  unfold State.expireGrant
  repeat' split
  · exact live
  · exact live.endGrant _ _
  · exact live

/-- A lock-out (R136). -/
theorem lockOut (live : s.Live) (src : Byte) : (s.lockOut src).Live := by
  unfold State.lockOut State.discard
  split
  · exact (live.enterHeld _).reply _ _
  · exact live.count _

/-- A request for a jog (R151). -/
theorem requestJog (live : s.Live) (src head count : Byte) : (s.requestJog src head count).Live := by
  have stops (h : Nat) (j : JogInHand) : (s.stopJog h j).Live := by
    unfold State.stopJog
    refine State.Live.endJog ?_ _ _
    split
    · exact live.setHead _ _
    · exact live
  have refuses (code : JogRefused) : (s.refuseJog src code head count).Live := live.reply _ _
  have jogs : (s.jogHead src head count).Live := by
    unfold State.jogHead
    repeat' split
    · exact stops _ _
    · exact live
    · exact refuses _
    · exact live
    · exact (live.reply _ _).setHead _ _
  unfold State.requestJog
  repeat' split
  · exact refuses _
  · exact refuses _
  · exact refuses _
  · exact refuses _
  · exact jogs

/-- A pulse emitted (R91, R96). -/
theorem emitPulse (live : s.Live) (h : Nat) : (s.emitPulse h).Live := by
  unfold State.emitPulse State.jogPulse State.dosePulse
  split
  · simp only
    split
    · exact (live.setHead _ _).endJog _ _
    · exact live.setHead _ _
  · split
    · exact live.setHead _ _
    · exact live.setHead _ _
  · exact live

/-- The start of a dose (R84). -/
theorem startDose (live : s.Live) (h : Nat) : (s.startDose h).Live := by
  unfold State.startDose
  split
  · exact live.setHead _ _
  · exact live.endDose _ _ _

/-- A drive fault that acts (R80, R98). -/
theorem driveFaults (live : s.Live) (h : Nat) : (s.driveFaults h).Live :=
  (((((live.endDose h _ _).endJog h _).setHead h _).occur _ _).testReady h)

/-- A drive fault that clears (R80, R98). -/
theorem driveFaultClears (live : s.Live) (h : Nat) : (s.driveFaultClears h).Live := (live.setHead h _).testReady h

/-! ## Frames -/

/-- A query answered (R180 to R185). -/
theorem query (live : s.Live) (src table start count clear : Byte) : (s.query src table start count clear).Live := by
  have clears (u : State) (kept : u.Live) (indices : List Nat) : (u.clearCounters indices).Live := by
    have zeroed : (indices.foldl (fun cs i => cs.set i 0) u.counters).length = 20 ∧
        ∀ n ∈ indices.foldl (fun cs i => cs.set i 0) u.counters, n ≤ 65535 := by
      refine foldl_preserves (P := fun cs : List Nat => cs.length = 20 ∧ ∀ n ∈ cs, n ≤ 65535) (fun cs i holds => ?_) indices
        ⟨kept.reporting.counters, kept.reporting.counts⟩
      refine ⟨(List.length_set).trans holds.1, fun n listed => ?_⟩
      rcases List.mem_or_eq_of_mem_set listed with old | rfl
      · exact holds.2 n old
      · exact Nat.zero_le _
    exact ⟨kept.reporting.withCounters _ zeroed.1 zeroed.2, kept.runs⟩
  unfold State.query State.answer State.discard
  split
  · exact live.count _
  · simp only
    split
    · exact clears _ (live.handOver _ (.inr rfl)) _
    · exact live.handOver _ (.inr rfl)

/-- An HND listed or refused (R61 to R63). -/
theorem takeHandover (live : s.Live) (src : Byte) (h : HndBody) : (s.takeHandover src h).Live := by
  unfold State.takeHandover State.listArrival State.discard
  split
  · exact live.count _
  · split
    · exact (live.count _).occur _ _
    · split
      · exact (live.count _).occur _ _
      · exact (live.count .hndReceived).same rfl rfl rfl rfl rfl

/-- A report of a peer (R30, R44). -/
theorem takeReport (live : s.Live) (src : Byte) (values : CabinetCodes) : (s.takeReport src values).Live := by
  have written : (s.setPeer src.toNat fun p => { p with report := readCabinet values }).Live := live.same rfl rfl rfl rfl rfl
  exact written.followConditions

/-! ## The Reject Gate -/

/-- A firing handed to the gate (R121 to R123). -/
theorem handFiring (live : s.Live) (capture : Time) (detail : Byte) : (s.handFiring capture detail).2.Live := by
  unfold State.handFiring
  simp only
  repeat' split
  · exact live.same rfl rfl rfl rfl rfl
  · exact live.occur _ _
  · exact live.same rfl rfl rfl rfl rfl

/-- An unconfirmed firing (R127). -/
theorem firingUnconfirmed (live : s.Live) (count : Nat) : (s.firingUnconfirmed count).Live := by
  have latched := live.occur .gateUnconfirmed (byte count)
  unfold State.firingUnconfirmed
  simp only
  split
  · refine State.Live.occur ?_ _ _
    exact latched.same rfl rfl rfl rfl rfl
  · exact latched.same rfl rfl rfl rfl rfl

/-- The end of a confirm window (R127). -/
theorem confirmWindowEnds (live : s.Live) : s.confirmWindowEnds.Live := by
  unfold State.confirmWindowEnds
  repeat' split
  · exact live
  · refine State.Live.firingUnconfirmed ?_ _
    exact live.same rfl rfl rfl rfl rfl
  · exact live

/-! ## The Tracking Unit -/

/-- The matching of a capture (R58, R64 to R67). -/
theorem matchArrival (live : s.Live) (capture : Time) : (s.matchArrival capture).2.Live := by
  have latched : ((s.tracking.arrivals.takeWhile fun a => a.passed capture).foldl State.latchLost s).Live :=
    foldl_preserves (fun u a kept => kept.occur _ _) _ live
  have cleared : (s.clearPassed capture).Live := latched.same rfl rfl rfl rfl rfl
  unfold State.matchArrival
  split
  · exact live
  · simp only
    split
    · exact cleared.count _
    · split
      · refine State.Live.count ?_ _
        exact cleared.same rfl rfl rfl rfl rfl
      · exact cleared.count _

/-- A record opened (R52 to R58). -/
theorem openRecord (live : s.Live) (capture : Time) : (s.openRecord capture).Live := by
  have asked : ((s.matchArrival capture).2.requestPocketDose capture).advancePattern.Live :=
    (live.matchArrival capture).same (by simp) (by simp) (by simp) (by simp) (by simp)
  unfold State.openRecord
  refine State.Live.count ?_ _
  exact asked.same rfl rfl rfl rfl rfl

/-- The decide (R68 to R73). -/
theorem decide (live : s.Live) : s.decide.Live := by
  have reports (u : State) (kept : u.Live) (r : Record) (o : CrpOutcome) : (u.report r o).Live := by
    unfold State.report
    split
    · exact kept
    · exact kept.handOver _ (.inl rfl)
  have reportsAll (u : State) (kept : u.Live) (r : Record) (o : CrpOutcome) : (u.reportIfAll r o).Live := by
    unfold State.reportIfAll
    split
    · exact reports u kept r o
    · exact kept
  have hands (u : State) (kept : u.Live) (r : Record) (pending : Bool) : (u.handDownstream r pending).Live := kept.handOver _ (.inl rfl)
  have routes (u : State) (kept : u.Live) (r : Record) : (u.routeRejected r).Live ∧ (u.routePassed r).Live := by
    constructor
    · unfold State.routeRejected
      split
      · exact reports _ (kept.handFiring _ _) _ _
      · split
        · exact reportsAll _ (hands _ kept _ _) _ _
        · exact reports _ (kept.count _) _ _
    · unfold State.routePassed
      refine reportsAll _ ?_ _ _
      split
      · exact hands _ kept _ _
      · exact kept
  unfold State.decide
  split
  · exact live
  next r rest _ =>
    split
    · have dropped : ((s.dropPending .a r).dropPending .b r).Live := live.same (by simp) (by simp) (by simp) (by simp) (by simp)
      have routed : (s.routeDecided r).Live := by
        unfold State.routeDecided
        simp only
        split
        · exact (routes _ (dropped.count _) _).1
        · exact (routes _ (dropped.count _) _).2
      exact routed.same rfl rfl rfl rfl rfl
    · exact live

end State.Live

end

end Sys2Proof.Machine

/-! PROOFS of what every command keeps, twenty-first part: every command keeps the Line Port, the latches and the counters (R39, R40, R159
to R170, R174, R179). -/

namespace Sys2Proof.Machine

/-- What is kept of the Line Port, the latches and the counters, with what is kept of run permission, the grants and the heads: outside
RUNNING nothing of those has anything to report. -/
structure State.Talking (s : State) : Prop where
  reporting : s.Reporting
  allowing : s.Allowing
  driving : s.Driving

section
variable {s t : State}

namespace State.Reporting

/-- What is kept of the line, the latches and the counters stays while they, the clock and the Loader stay. -/
theorem same (reporting : s.Reporting) (line : t.line = s.line) (latches : t.latches = s.latches) (counters : t.counters = s.counters)
    (clock : t.clock = s.clock) (loader : t.loader = s.loader) : t.Reporting :=
  reporting.congr line latches counters (by rw [clock]) (State.running_congr loader)

/-- Run permission following reports in RUNNING; elsewhere it is down and stays so (R43, R44). -/
theorem followConditions (reporting : s.Reporting) (down : s.running = false → s.cabinet.permission = false) :
    s.followConditions.Reporting := by
  cases runs : s.running with
  | true => exact (State.Live.followConditions ⟨reporting, runs⟩).reporting
  | false =>
    rw [(State.followConditions_fails (by simp [State.runConditions, runs])).1 (down runs)]
    exact reporting.same rfl rfl rfl rfl rfl

/-- Every grant that ends reports in RUNNING; elsewhere none stands (R141). -/
theorem endAllGrants (reporting : s.Reporting) (free : s.running = false → s.access.grants = []) (reason : EndReason) :
    (s.endAllGrants reason).Reporting := by
  cases runs : s.running with
  | true => exact (State.Live.endAllGrants ⟨reporting, runs⟩ reason).reporting
  | false =>
    unfold State.endAllGrants
    rw [free runs]
    exact reporting

/-- An open door judged (R153). -/
theorem judgeDoorOpen (reporting : s.Reporting) (free : s.running = false → s.access.grants = []) : s.judgeDoorOpen.Reporting := by
  have held (detail : Byte) : (s.enterHeld detail).Reporting := by
    unfold State.enterHeld
    split
    · exact reporting
    · exact ((reporting.endAllGrants free .locked).same (t := { s.endAllGrants .locked with
        access := { (s.endAllGrants .locked).access with lockMode := some .held, heldLock := true } }) rfl rfl rfl rfl rfl).occur _ _
  unfold State.judgeDoorOpen
  split
  · exact reporting
  · simp only
    split
    · exact (held 0).occur _ _
    · exact reporting.occur _ _

/-- The readiness test reports in RUNNING; elsewhere no grant stands (R146). -/
theorem testReady (reporting : s.Reporting) (free : s.running = false → s.access.grants = []) (h : Nat) : (s.testReady h).Reporting := by
  cases runs : s.running with
  | true => exact (State.Live.testReady ⟨reporting, runs⟩ h).reporting
  | false =>
    have none : s.unreadyGrant h = Option.none := by simp [State.unreadyGrant, free runs]
    unfold State.testReady
    rw [none]
    exact reporting

/-- Receiving a frame keeps what is kept of the line, the latches and the counters. -/
theorem receives : Receives State.Reporting :=
  ⟨fun _ kept => kept.releaseFrame, fun u src kept => by
    unfold State.peerHeard
    have marked : (u.setPeer src.toNat Peer.isHeard).Reporting := kept.same rfl rfl rfl rfl rfl
    simp only
    split
    · exact marked.occur _ _
    · exact marked, fun _ c kept => kept.count c, fun _ e d kept => kept.occur e d⟩

end State.Reporting

namespace State.Talking

/-- Outside RUNNING no grant stands. -/
theorem free (talking : s.Talking) (stopped : s.running = false) : s.access.grants = [] := talking.driving.grants.outside stopped

/-- Outside RUNNING run permission is down. -/
theorem down (talking : s.Talking) (stopped : s.running = false) : s.cabinet.permission = false := (talking.allowing.down stopped).1

/-! ## The debounced inputs -/

/-- A change of the switch is announced (R34, R39). -/
theorem moveSwitch (talking : s.Talking) (next : SwitchState) (discrepancy : Timer) : (s.moveSwitch next discrepancy).Reporting := by
  have moved : ({ s with cabinet := { s.cabinet with switch := next, discrepancy := discrepancy } } : State).Reporting :=
    talking.reporting.same rfl rfl rfl rfl rfl
  unfold State.moveSwitch
  simp only
  split
  · exact moved
  · refine moved.announce.followConditions fun stopped => ?_
    rw [State.announce_cabinet]
    exact talking.down ((State.running_congr (by simp)).symm.trans stopped)

/-- The change of every debounced input keeps what is kept. -/
theorem settles : Settles State.Talking := by
  refine ⟨fun u talking => ⟨?_, talking.allowing.takeSwitch, talking.driving.takeSwitch⟩,
    fun u talking => ⟨?_, talking.allowing.takeDoor, talking.driving.takeDoor⟩,
    fun u talking => ⟨?_, talking.allowing.takeKey, talking.driving.takeKey⟩,
    fun u talking => ⟨?_, State.Allowing.settles.infeed u talking.allowing, talking.driving.takeInfeed⟩,
    fun u talking => ⟨?_, State.Allowing.settles.pitch u talking.allowing, State.Driving.settles.pitch u talking.driving⟩,
    fun u talking => ⟨?_, State.Allowing.settles.confirm u talking.allowing, State.Driving.settles.confirm u talking.driving⟩⟩
  · unfold State.takeSwitch
    simp only
    split
    · have settled (c : Cabinet) (permission : c.permission = u.cabinet.permission) (restore : c.restore = u.cabinet.restore)
          (switch : c.switch = u.cabinet.switch) (door : c.door.state = u.cabinet.door.state) : ({ u with cabinet := c } : State).Talking :=
        ⟨talking.reporting.same rfl rfl rfl rfl rfl, talking.allowing.withCabinet permission restore switch door,
          talking.driving.withCabinet permission⟩
      exact (settled { u.cabinet with swA := u.cabinet.swA.settleIfDue u.switchDebounce
                                      swB := u.cabinet.swB.settleIfDue u.switchDebounce } rfl rfl rfl rfl).moveSwitch _ _
    · exact talking.reporting
  · unfold State.takeDoor
    split
    · have settled : ({ u with cabinet := { u.cabinet with door := u.cabinet.door.settle } } : State).Reporting :=
        talking.reporting.same rfl rfl rfl rfl rfl
      have moved := settled.announce.followConditions fun stopped => by
        rw [State.announce_cabinet]
        exact talking.down ((State.running_congr (by simp)).symm.trans stopped)
      have driven := (talking.driving.withCabinet (c := { u.cabinet with door := u.cabinet.door.settle }) rfl).announce.followConditions
      simp only
      split
      · exact moved
      · exact moved.judgeDoorOpen driven.grants.outside
    · exact talking.reporting
  · unfold State.takeKey
    split
    · have settled : ({ u with cabinet := { u.cabinet with key := u.cabinet.key.settle } } : State).Reporting :=
        talking.reporting.same rfl rfl rfl rfl rfl
      have driven := (talking.driving.withCabinet (c := { u.cabinet with key := u.cabinet.key.settle }) rfl).announce
      simp only
      split
      · exact settled.announce.endAllGrants driven.grants.outside _
      · exact settled.announce
    · exact talking.reporting
  · have captures (v : State) (kept : v.Reporting) : v.capture.Reporting := by
      unfold State.capture State.blindFiring
      simp only
      split
      next runs =>
        have live : v.Live := ⟨kept, runs⟩
        split
        · exact ((live.count _).openRecord _).reporting
        · split
          · exact ((((live.count _).count _).occur _ _).handFiring _ _).reporting
          · exact (((live.count _).count _).occur _ _).reporting
      · exact (kept.count _).count _
    have moved : ({ u with tracking := { u.tracking with infeed := u.tracking.infeed.settle } } : State).Reporting :=
      talking.reporting.same rfl rfl rfl rfl rfl
    unfold State.takeInfeed
    split
    · simp only
      split
      · exact captures _ moved
      · exact moved
    · exact talking.reporting
  · exact talking.reporting.same (by simp) (by simp) (by simp) (by simp) (by simp)
  · exact talking.reporting.same (by simp) (by simp) (by simp) (by simp) (by simp)

/-- Receiving a frame keeps what is kept. -/
theorem receives : Receives State.Talking :=
  ⟨fun u kept => ⟨State.Reporting.receives.free u kept.reporting, State.Allowing.receives.free u kept.allowing,
      State.Driving.receives.free u kept.driving⟩,
    fun u src kept => ⟨State.Reporting.receives.heard u src kept.reporting, State.Allowing.receives.heard u src kept.allowing,
      State.Driving.receives.heard u src kept.driving⟩,
    fun u c kept => ⟨kept.reporting.count c, State.Allowing.receives.count u c kept.allowing, State.Driving.receives.count u c kept.driving⟩,
    fun u e d kept =>
      ⟨kept.reporting.occur e d, State.Allowing.receives.occur u e d kept.allowing, State.Driving.receives.occur u e d kept.driving⟩⟩

/-- What is live in RUNNING. -/
theorem live (talking : s.Talking) (runs : s.running = true) : s.Live := ⟨talking.reporting, runs⟩

/-- A report of a peer lets run permission follow (R30, R44). -/
theorem takeReport (talking : s.Talking) (src : Byte) (values : CabinetCodes) : (s.takeReport src values).Talking := by
  refine ⟨?_, talking.allowing.takeReport src values, talking.driving.takeReport src values⟩
  have written : (s.setPeer src.toNat fun p => { p with report := readCabinet values }).Reporting :=
    talking.reporting.same rfl rfl rfl rfl rfl
  exact written.followConditions talking.down

end State.Talking

end

end Sys2Proof.Machine

/-! PROOFS of what every command keeps, twenty-second part: the Line Port, the latches and the counters through the station states and at
the camera ports. -/

namespace Sys2Proof.Machine

section
variable {s t : State}

namespace State.Reporting

/-! ## The station states -/

/-- Outside RUNNING the line holds nothing to send, so the station state may change. -/
theorem moves (reporting : s.Reporting) (stopped : s.running = false) (line : t.line = s.line) (latches : t.latches = s.latches)
    (counters : t.counters = s.counters) (clock : t.clock = s.clock) : t.Reporting := by
  refine ⟨latches ▸ reporting.latches, counters ▸ reporting.counters, counters ▸ reporting.counts, latches ▸ reporting.gathered,
    line ▸ reporting.queue, line ▸ reporting.readBack, ?_, fun _ => ?_⟩
  · refine reporting.line.congr line (fun i _ => by rw [State.latch_congr latches]) (fun l listed => ?_) (by rw [clock])
    rw [clock]
    exact reporting.line.latches l (latches ▸ listed)
  · rw [line]
    exact reporting.silent stopped

/-- A reset leaves the line silent, the latches clear and the counters at 0 (R4, R173). -/
theorem takeReset (s : State) (hold : Timer) (rstLow heldLock : Bool) : (s.takeReset hold rstLow heldLock).Reporting := by
  have clear : ∀ l ∈ (s.takeReset hold rstLow heldLock).latches, ∃ cls, l = Latch.clear cls := fun l listed => by
    obtain ⟨i, -, rfl⟩ := List.mem_map.mp (show l ∈ latchesAtReset from listed)
    exact ⟨_, rfl⟩
  have unblocked (i : Nat) : ((s.takeReset hold rstLow heldLock).latch i).blocked = false := by
    by_cases inside : i < latchesAtReset.length
    · obtain ⟨cls, is⟩ := clear ((s.takeReset hold rstLow heldLock).latch i) (State.latch_mem rfl inside)
      rw [is]
      rfl
    · have absent : (s.takeReset hold rstLow heldLock).latch i = Latch.clear 2 := List.getD_eq_default _ _ (Nat.le_of_not_lt inside)
      rw [absent]
      rfl
  have unsent {p : Prop} {a : Attempt} (sends : (s.takeReset hold rstLow heldLock).line.tx = some a) : p := nomatch (sends : none = some a)
  refine ⟨rfl, rfl, fun n listed => ?_, fun l listed => ?_, Nat.zero_le _, fun a sends => unsent sends, ?_, fun _ => ⟨rfl, rfl, rfl, rfl⟩⟩
  · rw [List.eq_of_mem_replicate listed]
    exact Nat.zero_le _
  · obtain ⟨cls, rfl⟩ := clear l listed
    exact ⟨Nat.zero_le _, Nat.zero_le _⟩
  · refine ⟨List.Pairwise.nil, fun e listed => absurd listed List.not_mem_nil, ⟨Nat.zero_le _, Nat.zero_le _⟩,
      iff_of_false nofun fun ⟨_, _, sends⟩ => unsent sends, nofun, fun ⟨_, _, sends⟩ => unsent sends,
      fun i _ => iff_of_false (by simp [unblocked]) fun ⟨_, _, sends⟩ => unsent sends, fun ⟨_, _, _, sends⟩ => unsent sends,
      fun _ e listed => absurd listed List.not_mem_nil, fun l listed => ?_, nofun, nofun⟩
    obtain ⟨cls, rfl⟩ := clear l listed
    exact Tests.clear_sound _ _

/-- The entry to JOINING gives the latches their classes, and ACCESS_HELD where the held lock stands (R137, R177, R195). -/
theorem entering (reporting : s.Reporting) {image : List Byte} (accepted : s.accepts image = true) : (s.entering image).Reporting := by
  have stopped := State.stopped_of (State.accepts_loading accepted) (by decide)
  have classed : (s.takeItems image).Reporting := by
    have classes : (s.takeItems image).latches = s.latches.mapIdx fun i l => { l with cls := (recordOf image).classes.getD i 2 } :=
      withIndex_eq_mapIdx _ _
    refine reporting.withLatches rfl rfl (by rw [classes, List.length_mapIdx]) (fun i inside => ?_) (fun l listed => ?_) (Nat.le_refl _) rfl
    · rw [State.latch, State.latch, classes, List.getD_eq_getElem _ _ (by simp [reporting.latches, inside]),
        List.getD_eq_getElem _ _ (by simp [reporting.latches, inside]), List.getElem_mapIdx]
    · rw [classes] at listed
      obtain ⟨i, inside, rfl⟩ := List.mem_mapIdx.mp listed
      have sound := reporting.line.latches _ (List.getElem_mem inside)
      exact ⟨⟨sound.gathered, sound.content, sound.sending, sound.blocked, sound.idle, sound.ready, sound.attempts⟩,
        (reporting.gathered s.latches[i] (List.getElem_mem inside) :)⟩
  have locked : (s.takeItems image).setLockMode.Reporting := by
    have written (a : Access) : ({ s.takeItems image with access := a } : State).Reporting := classed.same rfl rfl rfl rfl rfl
    unfold State.setLockMode
    split
    · exact (written _).occur _ _
    · exact written _
  have still : (s.takeItems image).setLockMode.running = false := by
    rw [State.setLockMode_eq]
    exact stopped
  exact locked.moves still rfl rfl rfl rfl

/-- A change of quality is latched (R17). -/
theorem setQuality (reporting : s.Reporting) (next : Quality) : (s.setQuality next).Reporting := by
  have written : ({ s with clock := { s.clock with quality := next } } : State).Reporting :=
    reporting.congr rfl rfl rfl (Nat.le_refl _) rfl
  unfold State.setQuality
  simp only
  split
  · exact written
  · exact written.occur _ _

/-- A step of hall time moves the stamp of a frame in collection (R19). -/
theorem stepTime (reporting : s.Reporting) (c : Int) : (s.stepTime c).Reporting := by
  have moved := reporting.withReceiver (s.line.rx.movedBy c) fun stamp frame is => by
    cases rx : s.line.rx with
    | collecting old collected =>
      rw [rx] at is
      cases is
      exact reporting.line.receiver _ _ rx
    | watching | waitRecessive =>
      rw [rx] at is
      cases is
  exact moved.congr rfl rfl rfl (Nat.le_refl _) rfl

/-- RUNNING begins with a beacon and a CAB to send, and nothing in an attempt (R8, R41, R196). -/
theorem enterRunning (reporting : s.Reporting) (stopped : s.running = false) : s.enterRunning.Reporting := by
  obtain ⟨tx, slot, -, -⟩ := reporting.silent stopped
  have unsent {c : Candidate} : ¬∃ b r, s.line.tx = some ⟨c, b, r⟩ := by simp [tx]
  have line := reporting.line
  rw [State.enterRunning_eq]
  exact ⟨reporting.latches, reporting.counters, reporting.counts, reporting.gathered, reporting.queue, reporting.readBack,
    ⟨line.order, line.entries, line.counts, iff_of_false nofun unsent, fun renew => absurd ((line.renew renew).symm.trans slot) nofun,
      fun _ => rfl, line.blocked, line.marked, line.unmarked, line.latches, line.receiver, line.startMark⟩, nofun⟩

/-- The entry to RUNNING (R22, R196). -/
theorem joined (reporting : s.Reporting) (stopped : s.running = false) : s.joined.Reporting := by
  have converged : s.convergeJoining.Reporting := by
    have stepped : s.joiningConvergence.Reporting := by
      unfold State.joiningConvergence
      split
      · exact reporting
      · exact (reporting.stepTime _).setQuality _
    exact stepped.congr rfl rfl rfl (Nat.le_refl _) rfl
  have still : s.convergeJoining.running = false := by
    rw [State.convergeJoining_eq]
    exact stopped
  have clamps : (s.convergeJoining.enterRunning.loader.clampRecord.foldl (fun u field => u.occur .configClamped (byte field))
      s.convergeJoining.enterRunning).Reporting :=
    foldl_preserves (fun _ _ kept => kept.occur _ _) _ (converged.enterRunning still)
  exact clamps.congr rfl rfl rfl (Nat.le_refl _) rfl

/-- A convergence is latched where the quality moves or the stations disagree (R17). -/
theorem converge (reporting : s.Reporting) : s.converge.Reporting := by
  have moved (outcome : Option Int) (included : Nat) : (s.moveQuality outcome included).Reporting := by
    have counted (good empty : Nat) : ({ s with clock := { s.clock with goodRounds := good, emptyRounds := empty } } : State).Reporting :=
      reporting.congr rfl rfl rfl (Nat.le_refl _) rfl
    unfold State.moveQuality
    simp only
    split
    · exact ((counted _ _).setQuality _).occur _ _
    · exact (counted _ _).setQuality _
  unfold State.converge
  simp only
  split
  · exact moved _ _
  · unfold State.correctTime
    split
    · exact (moved _ _).stepTime _
    · exact (moved _ _).congr rfl rfl rfl (Nat.le_refl _) rfl

/-- A round end (R8, R11, R28). -/
theorem silenced (reporting : s.Reporting) (runs : s.running = true) : s.silenced.Reporting := by
  have due : s.placeBeacon.converge.clearMarks.advanceDue.Reporting :=
    (reporting.placeBeacon runs).converge.congr rfl rfl rfl (Nat.le_refl _) rfl
  have latched (entries : List Peer) (limit : Nat) (n : Nat) : ((List.range n).foldl (fun u i => u.latchAbsent entries limit i)
      s.placeBeacon.converge.clearMarks.advanceDue).Reporting :=
    foldl_preserves (fun u i kept => by
      unfold State.latchAbsent
      split
      · exact kept.occur _ _
      · exact kept) _ due
  exact (latched _ _ _).congr rfl rfl rfl (Nat.le_refl _) rfl

/-! ## The camera ports -/

/-- A message abandoned (R113). -/
theorem abandon (reporting : s.Reporting) (p : Port) : (s.abandon p).Reporting :=
  State.Reporting.occur (reporting.same (by simp) (by simp) (by simp) (by simp) (by simp)) _ _

/-- A character handed on (R112). -/
theorem handOn (reporting : s.Reporting) (p : Port) {act : State → State} (acts : ∀ u, u.Reporting → (act u).Reporting) :
    (s.handOn p act).Reporting := by
  have freed : (s.setPort p fun c => { c with receiver := c.receiver.handedOn }).Reporting :=
    reporting.same (by simp) (by simp) (by simp) (by simp) (by simp)
  unfold State.handOn
  simp only
  split
  · exact acts _ (freed.abandon p)
  · exact acts _ freed

/-- A verdict written to a record. -/
theorem updateRecord (reporting : s.Reporting) (sequence : Word32) (f : Record → Record) : (s.updateRecord sequence f).Reporting :=
  reporting.same rfl rfl rfl rfl rfl

/-- A byte of a result message (R112, R114 to R116). -/
theorem takeByte (reporting : s.Reporting) (p : Port) (b : Byte) : (s.takeByte p b).Reporting := by
  have set (f : CameraPort → CameraPort) : (s.setPort p f).Reporting :=
    reporting.same (by simp) (by simp) (by simp) (by simp) (by simp)
  unfold State.takeByte
  split
  · split
    · exact set _
    · exact reporting
  · exact set _
  · exact set _
  · unfold State.takeCheck State.matchResult
    split
    · split
      · exact (State.Reporting.occur (set _) _ _).count _
      next passed hit later _ =>
        have hunts := set fun c => { c with assembler := .hunt, interByte := none }
        have retired : (passed.foldl (fun u e => u.retire p e)
            (s.setPort p fun c => { c with assembler := .hunt, interByte := none })).Reporting :=
          foldl_preserves (fun _ _ kept => kept.updateRecord _ _) _ hunts
        have left := retired.same (t := (passed.foldl (fun u e => u.retire p e)
            (s.setPort p fun c => { c with assembler := .hunt, interByte := none })).setPort p fun c => { c with pending := later })
          (by simp) (by simp) (by simp) (by simp) (by simp)
        exact (left.updateRecord _ _).count _
    · exact reporting.abandon p

end State.Reporting

end

end Sys2Proof.Machine

/-! PROOFS of what every command keeps, twenty-third part: every command keeps the Line Port, the latches and the counters. -/

namespace Sys2Proof.Machine

section
variable {s t : State}

/-- Outside RUNNING a head has nothing in hand and no jog (R91, R97). -/
theorem State.Driving.idleHead (driving : s.Driving) (stopped : s.running = false) (h : Nat) :
    (s.head h).hand = none ∧ (s.head h).jog = none := by
  by_cases inside : h < 8
  · exact driving.still stopped _ (by
      rw [State.head, List.getD_eq_getElem _ _ (by rw [driving.heads]; exact inside)]
      exact List.getElem_mem _)
  · have absent : s.head h = Head.atReset false false false := List.getD_eq_default _ _ (by rw [driving.heads]; omega)
    rw [absent]
    exact ⟨rfl, rfl⟩

/-- A head with nothing in hand ends no dose, and one without a jog ends none (R94, R97). -/
theorem State.endNothing {h : Nat} (hand : (s.head h).hand = none) (jog : (s.head h).jog = none) (result : FillResult) (meter : Nat)
    (cause : JogCause) : (s.endDose h result meter).endJog h cause = s := by
  have kept : s.endDose h result meter = s := by
    unfold State.endDose
    rw [hand]
  rw [kept]
  unfold State.endJog
  rw [jog]

namespace State.Talking

/-- A drive fault is latched (R80); outside RUNNING no dose and no jog ends. -/
theorem driveFaults (talking : s.Talking) (h : Nat) : (s.driveFaults h).Reporting := by
  cases runs : s.running with
  | true => exact (talking.live runs).driveFaults h |>.reporting
  | false =>
    obtain ⟨hand, jog⟩ := talking.driving.idleHead runs h
    unfold State.driveFaults
    rw [State.endNothing hand jog]
    have faulted : (s.setHead h Head.becomeFaulted).Reporting := talking.reporting.same rfl rfl rfl rfl rfl
    exact (faulted.occur _ _).testReady (fun _ => talking.free runs) h

/-- A station that sends is in RUNNING (R163). -/
theorem sending (talking : s.Talking) {a : Attempt} (sends : s.line.tx = some a) : s.running = true := by
  by_contra stopped
  have silent := (talking.reporting.silent (Bool.eq_false_iff.mpr stopped)).1
  exact nomatch sends.symm.trans silent

end State.Talking

/-- A lock-out is answered in RUNNING and discarded in JOINING (R139, R172). -/
theorem State.Reporting.lockOut (reporting : s.Reporting) (src : Byte) : (s.lockOut src).Reporting := by
  cases runs : s.running with
  | true => exact (State.Live.lockOut ⟨reporting, runs⟩ src).reporting
  | false =>
    unfold State.lockOut
    simp only [runs]
    exact reporting.count _

/-- A candidate starts in RUNNING, with no attempt under way (R163). -/
theorem State.startCandidate_some {c : Candidate} (starts : s.startCandidate = some c) :
    s.running = true ∧ s.line.tx = none ∧ s.pick = some c := by
  unfold State.startCandidate at starts
  split at starts
  next may =>
    simp only [State.mayStart, Bool.and_eq_true, Option.isNone_iff_eq_none] at may
    exact ⟨may.1.1, may.1.2, starts⟩
  · exact nomatch starts

/-- A start mark begins a frame (R9, R161). -/
theorem State.Reporting.startMark (reporting : s.Reporting) :
    ({ s with line := { s.line with rx := .collecting s.now .begun, idle := 0, startMark := false } } : State).Reporting := by
  have line := reporting.line
  refine ⟨reporting.latches, reporting.counters, reporting.counts, reporting.gathered, reporting.queue, reporting.readBack,
    ⟨line.order, line.entries, line.counts, line.cab, line.renew, line.beacon, line.blocked, line.marked, line.unmarked, line.latches,
      fun stamp frame is => ?_, nofun⟩, reporting.silent⟩
  obtain ⟨-, rfl⟩ := Receiver.collecting.inj is
  exact Collecting.begun_sound

/-- The time fields of a beacon (R10). -/
theorem State.Talking.takeTime (talking : s.Talking) (src : Byte) (offset : Int) (quality : Byte) : (s.takeTime src offset quality).Talking :=
  ⟨talking.reporting.same rfl rfl rfl rfl rfl, talking.allowing.takeTime src offset quality, talking.driving.congr rfl rfl rfl rfl rfl⟩

/-- A new level on an input (R32, R33). -/
theorem State.Talking.rawInput (talking : s.Talking) (input : RawInput) : (s.rawInput input).Talking := by
  have reporting := talking.reporting
  have cabinet (c : Cabinet) (permission : c.permission = s.cabinet.permission) (restore : c.restore = s.cabinet.restore)
      (switch : c.switch = s.cabinet.switch) (door : c.door.state = s.cabinet.door.state) : ({ s with cabinet := c } : State).Talking :=
    ⟨reporting.same rfl rfl rfl rfl rfl, talking.allowing.withCabinet permission restore switch door, talking.driving.withCabinet permission⟩
  have tracking (k : Tracking) : ({ s with tracking := k } : State).Talking :=
    ⟨reporting.same rfl rfl rfl rfl rfl, talking.allowing.same rfl rfl rfl, talking.driving.congr rfl rfl rfl rfl rfl⟩
  have gate (g : Gate) : ({ s with gate := g } : State).Talking :=
    ⟨reporting.same rfl rfl rfl rfl rfl, talking.allowing.same rfl rfl rfl, talking.driving.congr rfl rfl rfl rfl rfl⟩
  exact State.Talking.settles.rawInput (fun _ _ _ _ => ⟨cabinet _ rfl rfl rfl rfl,
      cabinet _ rfl rfl rfl (State.Allowing.rawTo_state _ _ _), cabinet _ rfl rfl rfl rfl⟩)
    (fun _ _ => ⟨tracking _, tracking _⟩) (fun _ => gate _)
    (fun h f => ⟨reporting.same rfl rfl rfl rfl rfl, talking.allowing.same rfl rfl rfl, talking.driving.rawFault h _ f⟩) input

/-- Every command keeps the Line Port, the latches and the counters. -/
theorem State.Talking.command (talking : s.Talking) {i : Instr} (stands : occasion i s = true) : (effect i s).Reporting := by
  have reporting := talking.reporting
  cases i
  case powerOnReset | resetPin => exact State.Reporting.takeReset _ _ _ _
  case resetRelease rstHigh =>
    have stopped := State.stopped_of (s := s) (of_decide_eq_true stands) (by decide)
    simp only [effect]
    split
    all_goals exact reporting.moves stopped rfl rfl rfl rfl
  case imageRejected image =>
    exact reporting.moves (State.stopped_of (State.rejects_loading stands) (by decide)) rfl rfl rfl rfl
  case endOfLoading image =>
    have entered : (s.entering image).Talking :=
      ⟨reporting.entering stands, talking.allowing.entering stands, talking.driving.entering stands⟩
    exact (State.Talking.settles.atOnce entered).reporting
  case endOfJoining =>
    have joined := reporting.joined (State.stopped_of (State.joiningDue_joining stands) (by decide))
    exact joined.followConditions fun stopped => by
      rw [State.joined_eq] at stopped
      exact nomatch (show true = false from stopped)
  case localMicrosecond pins => exact reporting.tick pins
  case roundEnd =>
    have runs : s.running = true := by
      simp only [occasion, State.roundDue, Bool.and_eq_true] at stands
      exact stands.1
    have silenced := reporting.silenced runs
    rw [effect, State.endRound_eq]
    refine silenced.followConditions fun stopped => ?_
    rw [State.silenced_rest] at stopped
    exact absurd (runs.symm.trans stopped) (by decide)
  case startMark => exact reporting.startMark
  case checkError failure =>
    refine State.Reporting.count (reporting.withReceiver _ fun stamp frame is => ?_) _
    unfold receiverAfter at is
    repeat' split at is
    all_goals exact nomatch is
  case frameDiscarded dest src kind payload => exact State.Reporting.receives.discarded reporting dest src
  case crp dest src payload | evt dest src payload | arp dest src payload | ans dest src payload =>
    exact State.Reporting.receives.receiveIdle reporting _ dest src payload
  case bcn dest src b =>
    exact (State.Talking.receives.receive
      (owner := fun u => (u.takeTime src (s.offsetOf b.stamp s.startStamp) b.quality).takeReport src b.cabinet) talking dest src
      fun u kept => (kept.takeTime src (s.offsetOf b.stamp s.startStamp) b.quality).takeReport src b.cabinet).reporting
  case cab dest src v =>
    exact (State.Talking.receives.receive (owner := fun u => u.takeReport src v) talking dest src
      fun u kept => kept.takeReport src v).reporting
  case lck dest src =>
    exact State.Reporting.receives.receive (owner := fun u => u.lockOut src) reporting dest src fun u kept => kept.lockOut src
  case hnd dest src h =>
    exact State.Reporting.receives.ownFrame reporting dest src dest fun u kept runs => (State.Live.takeHandover ⟨kept, runs⟩ src h).reporting
  case arq dest src level span seconds =>
    exact State.Reporting.receives.ownFrame reporting dest src dest fun u kept runs =>
      (State.Live.requestAccess ⟨kept, runs⟩ src level span seconds.toNat).reporting
  case arl dest src number =>
    exact State.Reporting.receives.ownFrame reporting dest src dest fun u kept runs =>
      (State.Live.releaseGrant ⟨kept, runs⟩ src number).reporting
  case jog dest src head count =>
    exact State.Reporting.receives.ownFrame reporting dest src dest fun u kept runs =>
      (State.Live.requestJog ⟨kept, runs⟩ src head count).reporting
  case qry dest src table start count clear =>
    exact State.Reporting.receives.ownFrame reporting dest src dest fun u kept runs =>
      (State.Live.query ⟨kept, runs⟩ src table start count clear).reporting
  case transmitStart =>
    simp only [effect]
    split
    next c starts =>
      obtain ⟨runs, silent, picks⟩ := State.startCandidate_some starts
      exact reporting.startAttempt runs silent (State.pick_offers reporting.latches picks)
    · exact reporting
  case frameSent =>
    simp only [effect]
    split
    next a sent =>
      have sends := (Option.filter_eq_some_iff.mp sent).1
      exact reporting.endSent (talking.sending sends) sends
    · exact reporting
  case collision =>
    simp only [effect]
    split
    next a collided =>
      have sends := (Option.filter_eq_some_iff.mp collided).1
      exact reporting.endCollided (talking.sending sends) sends
    · exact reporting
  case rawInputChange input =>
    exact (talking.rawInput input).reporting
  case switchChannelChange => exact (State.Talking.settles.switch s talking).reporting
  case discrepancy => exact (State.Talking.receives.occur s .discrepancy _ talking).moveSwitch _ _
  case restoreTimerExpiry => 
    have runs : s.running = true := by
      have conditions := ((State.restoreDue_iff s).mp stands).1
      simp only [State.runConditions, Bool.and_eq_true] at conditions
      exact conditions.1.1.1
    exact (talking.live runs).permissionRises.reporting
  case doorChange => exact (State.Talking.settles.door s talking).reporting
  case keyChange => exact (State.Talking.settles.key s talking).reporting
  case capture => exact (State.Talking.settles.infeed s talking).reporting
  case debounceTimerExpiry input => exact (State.Talking.settles.takeQuiet talking input).reporting
  case arrivalLost position =>
    simp only [effect, State.loseArrival]
    split
    · exact reporting
    · split
      · exact State.Reporting.same (reporting.occur .arrivalLost _) rfl rfl rfl rfl rfl
      · exact reporting
  case decide => exact (talking.live stands).decide.reporting
  case doseStart h => exact ((talking.live ((State.doseStartDue_iff s h).mp stands).1.1).startDose h).reporting
  case pulseEmitted h => exact ((talking.live ((State.highPhaseOver_iff s h).mp stands).1.1).emitPulse h).reporting
  case doseTimeout h => exact ((talking.live ((State.doseTimedOut_iff s h).mp stands).1.1).endDose h _ _).reporting
  case resumeLimit h => exact ((talking.live ((State.resumeLimitDue_iff s h).mp stands).1.1).endDose h _ _).reporting
  case settleEnd h => exact ((talking.live ((State.settleDue_iff s h).mp stands).1.1).endDose h _ _).reporting
  case driveFaultActive h => exact talking.driveFaults h
  case driveFaultInactive h =>
    have cleared (f : Head → Head) : (s.setHead h f).Reporting := reporting.same rfl rfl rfl rfl rfl
    exact (cleared _).testReady talking.free h
  case grantExpiry number => exact ((talking.live stands).expireGrant number).reporting
  case triggerTime p busy =>
    simp only [effect, State.trigger]
    repeat' split
    all_goals exact reporting.same (by simp) (by simp) (by simp) (by simp) (by simp)
  case strobeDue p =>
    have left (f : CameraPort → CameraPort) : (s.setPort p f).Reporting := reporting.same (by simp) (by simp) (by simp) (by simp) (by simp)
    simp only [effect, State.strobeDue, State.strobe]
    split
    · exact reporting
    · split
      · split
        · exact ((left _).updateRecord _ _).occur _ _
        · exact reporting.same (by simp) (by simp) (by simp) (by simp) (by simp)
      · exact reporting
  case resultByte p b | resultMessage p b => exact reporting.handOn p fun u kept => kept.takeByte p b
  case framingError p => exact reporting.handOn p fun u kept => kept.abandon p
  case interByteTimeout p => exact reporting.abandon p
  case firingEnd =>
    simp only [effect, State.firingEnds, State.endFiring]
    repeat' split
    all_goals exact reporting.same rfl rfl rfl rfl rfl
  case confirmEdge => exact (State.Talking.settles.confirm s talking).reporting
  case confirmWindowEnd => exact (talking.live stands).confirmWindowEnds.reporting
  all_goals exact reporting.same (by simp [effect]) (by simp [effect]) (by simp [effect]) (by simp [effect]) (by simp [effect])

end

end Sys2Proof.Machine

/-! PROOFS of what every command keeps, twenty-fourth part: every step keeps a sound state sound. -/

namespace Sys2Proof.Machine

/-- A sound state, in the groups whose parts a command keeps together. -/
structure State.Kept (s : State) : Prop where
  handling : s.Handling
  clock : s.ClockSound
  allowing : s.Allowing
  reading : s.Reading
  driving : s.Driving
  reporting : s.Reporting

section
variable {s t : State}

/-- A sound state keeps every group. -/
theorem State.Sound.kept (sound : s.Sound) : s.Kept :=
  ⟨sound.handling, sound.clock, ⟨sound.permission, sound.bounded.peers⟩, ⟨sound.inputs, sound.bounded.sampled⟩, sound.driving,
    sound.reporting⟩

namespace State.Kept

/-- The tables, lists and counters of a state that keeps every group (R174, R179). -/
theorem bounded (kept : s.Kept) : s.Bounded where
  peers := kept.allowing.peers
  heads := kept.driving.heads
  latches := kept.reporting.latches
  counters := kept.reporting.counters
  records := kept.handling.records.1
  arrivals := kept.handling.arrivals.1
  firings := kept.handling.gate.few
  queue := kept.reporting.queue
  pendingA := (kept.handling.ports .a).few
  pendingB := (kept.handling.ports .b).few
  counts := kept.reporting.counts
  gathered := kept.reporting.gathered
  sampled := kept.reading.sampled
  readBack := kept.reporting.readBack

/-- Outside RUNNING a state that keeps every group is quiet. -/
theorem quiet (kept : s.Kept) : s.QuietOutside where
  transmitter stopped := (kept.reporting.silent stopped).1
  cab stopped := (kept.reporting.silent stopped).2.1
  beacon stopped := (kept.reporting.silent stopped).2.2.1
  queue stopped := (kept.reporting.silent stopped).2.2.2
  records := kept.handling.records.2
  arrivals := kept.handling.arrivals.2
  firings := kept.handling.gate.still
  grants := kept.driving.grants.outside
  heads := kept.driving.still
  cameras stopped := ⟨(kept.handling.ports .a).still stopped, (kept.handling.ports .b).still stopped⟩

/-- A state that keeps every group is sound. -/
theorem sound (kept : s.Kept) : s.Sound where
  bounded := kept.bounded
  clock := kept.clock
  permission := kept.allowing.permission
  grants := kept.driving.grants
  heads := kept.driving.headsSound
  drive := kept.driving.driveSafe
  outputs := kept.handling.outputsSound
  line := kept.reporting.line
  quiet := kept.quiet
  inputs := kept.reading.inputs
  tracking := kept.handling.tracking
  targets := kept.driving.targetsSound
  triggers := kept.handling.triggers

/-- The queue of commands is no part of what is kept. -/
theorem withPending (kept : s.Kept) (rest : List Instr) : ({ s with pending := rest } : State).Kept :=
  ⟨kept.handling.same rfl rfl rfl rfl rfl, kept.clock.congr rfl, kept.allowing.same rfl rfl rfl,
    kept.reading.congr rfl rfl rfl rfl, kept.driving.congr rfl rfl rfl rfl rfl, kept.reporting.same rfl rfl rfl rfl rfl⟩

/-- A command that acts keeps every group. -/
theorem effect (kept : s.Kept) {i : Instr} (stands : occasion i s = true) : (Machine.effect i s).Kept :=
  ⟨kept.handling.command stands, kept.clock.command i, kept.allowing.command stands,
    kept.reading.command kept.driving.heads stands, kept.driving.command kept.reading.inputs stands,
    State.Talking.command ⟨kept.reporting, kept.allowing, kept.driving⟩ stands⟩

/-- A reset that finds eight heads leaves every group as its invariant says. -/
theorem takeReset (eight : s.heads.length = 8) (hold : Timer) (rstLow heldLock : Bool) : (s.takeReset hold rstLow heldLock).Kept where
  handling := State.Handling.takeReset s hold rstLow heldLock
  clock := ⟨show -4096 ≤ (0 : Int) ∧ (0 : Int) ≤ 4096 by decide, show -19200 ≤ (0 : Int) ∧ (0 : Int) ≤ 19200 by decide, Nat.zero_le _, Nat.zero_le _⟩
  allowing := State.Allowing.ofDown rfl rfl rfl rfl
  reading := State.Reading.takeReset s hold rstLow heldLock
  driving := State.Driving.takeReset eight hold rstLow heldLock
  reporting := State.Reporting.takeReset s hold rstLow heldLock

end State.Kept

/-- Every command leaves a sound state sound. -/
theorem exec_keeps (kept : s.Kept) {i : Instr} (runs : exec i s = .next t) : t.Kept := by
  cases stands : occasion i s with
  | true =>
    obtain rfl : effect i s = t := by simpa [exec_effect stands] using runs
    exact kept.effect stands
  | false =>
    obtain rfl : s = t := by simpa [exec_idle stands] using runs
    exact kept

/-- Every step leaves a sound state sound. -/
theorem step_sound (sound : s.Sound) (runs : step s = .next t) : t.Sound := by
  unfold step at runs
  split at runs
  · obtain rfl : s = t := by simpa using runs
    exact sound
  next i rest _ => exact (exec_keeps (sound.kept.withPending rest) runs).sound

/-- Settles O53: the reset state is its own power-on reset. -/
theorem resetIsSound : Obligations.ResetIsSound := by
  have own : State.reset.takeReset (some 0) false false = State.reset := rfl
  have kept : State.reset.Kept := own ▸ State.Kept.takeReset (s := State.reset) rfl (some 0) false false
  exact ⟨kept.sound, List.Pairwise.nil, fun _ listed => absurd listed List.not_mem_nil, fun _ listed => absurd listed List.not_mem_nil,
    fun _ listed => absurd listed List.not_mem_nil⟩

/-- Settles O55: every step keeps the groups of run permission and of the grants. -/
theorem stepsKeepPermissionAndGrants : Obligations.StepsKeepPermissionAndGrants := fun _ _ sound runs =>
  have after := step_sound sound runs
  ⟨after.permission, after.grants⟩

/-- Settles O56: every step keeps the groups of the heads, the outputs, the triggers and the inputs. -/
theorem stepsKeepHeadsSound : Obligations.StepsKeepHeadsSound := fun _ _ sound runs =>
  have after := step_sound sound runs
  ⟨after.heads, after.drive, after.outputs, after.targets, after.triggers, after.inputs⟩

/-- Settles O57: every step keeps the group of the line. -/
theorem stepsKeepLineSound : Obligations.StepsKeepLineSound := fun _ _ sound runs => (step_sound sound runs).line

/-- Settles O58: every step keeps each group quiet outside RUNNING. -/
theorem stepsStayQuietOutsideRunning : Obligations.StepsStayQuietOutsideRunning := fun _ _ sound runs => (step_sound sound runs).quiet

end

end Sys2Proof.Machine

/-! PROOFS of what every command keeps, twenty-fifth part: the capture times of the Tracking Queue while the Hall Clock stands (R48, R54). -/

namespace Sys2Proof.Machine

/-- The capture times of the Tracking Queue, oldest first. -/
def State.captures (s : State) : List Time := s.tracking.records.map Record.capture

/-- A capture time that lies in the past, less than 2^46 µs back, and at least one local microsecond back where the infeed may open
another record. -/
structure Past (capture now : Time) (frac : BitVec 24) (infeed : Debouncer) : Prop where
  recent : 0 ≤ (now - capture).toInt ∧ (now - capture).toInt < 2 ^ 46
  apart : infeed.state = false ∨ infeed.moved = false → 16510976 ≤ (now - capture).toInt * 16777216 + frac.toNat
  passed : infeed.state = false → infeed.moved = false → 1 ≤ (now - capture).toInt

section
variable {s t : State}

/-- Ordered captures are told by the capture times, hall time and the infeed. -/
theorem State.capturesOrdered_iff (s : State) : s.CapturesOrdered ↔
    s.captures.Pairwise (fun c d => before c d = true) ∧ ∀ c ∈ s.captures, Past c s.now s.clock.frac s.tracking.infeed := by
  simp only [State.captures, List.pairwise_map, List.forall_mem_map]
  exact ⟨fun ⟨order, recent, apart, passed⟩ => ⟨order, fun r listed => ⟨recent r listed, apart r listed, passed r listed⟩⟩,
    fun ⟨order, each⟩ => ⟨order, fun r listed => (each r listed).recent, fun r listed => (each r listed).apart,
      fun r listed => (each r listed).passed⟩⟩

/-- What every command but LOCAL_MICROSECOND keeps of the capture times: their order, and that the infeed's timer runs only while its
input disagrees (R32, R48, R54). -/
structure State.Timed (s : State) : Prop where
  ordered : s.CapturesOrdered
  disagrees : s.tracking.infeed.timer.isSome = true → s.tracking.infeed.raw ≠ s.tracking.infeed.state

/-- A change of the records that keeps their capture times. -/
theorem State.updateRecord_captures (s : State) (n : Word32) {f : Record → Record} (same : ∀ r, (f r).capture = r.capture) :
    (s.updateRecord n f).captures = s.captures := by
  simp only [State.captures, State.updateRecord, List.map_map]
  refine List.map_congr_left fun r _ => ?_
  simp only [Function.comp]
  split
  · exact same r
  · rfl

namespace State.Timed

/-- What is kept rests on the capture times, hall time and the infeed; records may leave. -/
theorem congr (timed : s.Timed) (captures : t.captures.Sublist s.captures) (time : t.clock.time = s.clock.time)
    (frac : t.clock.frac = s.clock.frac) (infeed : t.tracking.infeed = s.tracking.infeed) : t.Timed := by
  obtain ⟨order, each⟩ := (State.capturesOrdered_iff s).mp timed.ordered
  refine ⟨(State.capturesOrdered_iff t).mpr ⟨order.sublist captures, fun c listed => ?_⟩, ?_⟩
  · rw [State.now, time, frac, infeed]
    exact each c (captures.subset listed)
  · rw [infeed]
    exact timed.disagrees

/-- What is kept stays while the Tracking Unit and the Hall Clock stay. -/
theorem same (timed : s.Timed) (tracking : t.tracking = s.tracking) (clock : t.clock = s.clock) : t.Timed :=
  timed.congr (by rw [State.captures, tracking]; exact .refl _) (by rw [clock]) (by rw [clock]) (by rw [tracking])

/-- Without records, only the infeed's timer counts. -/
theorem ofEmpty (records : t.tracking.records = [])
    (disagrees : t.tracking.infeed.timer.isSome = true → t.tracking.infeed.raw ≠ t.tracking.infeed.state) : t.Timed := by
  have none : t.captures = [] := by rw [State.captures, records]; rfl
  exact ⟨(State.capturesOrdered_iff t).mpr ⟨none ▸ List.Pairwise.nil, fun c listed => absurd (none ▸ listed) List.not_mem_nil⟩, disagrees⟩

/-- A change of a record that keeps its capture time. -/
theorem updateRecord (timed : s.Timed) (n : Word32) {f : Record → Record} (same : ∀ r, (f r).capture = r.capture) :
    (s.updateRecord n f).Timed :=
  timed.congr (by rw [State.updateRecord_captures s n same]) rfl rfl rfl

/-! ## Doses and run permission -/

/-- The end of a dose (R94). -/
theorem endDose (timed : s.Timed) (h : Nat) (result : FillResult) (meter : Nat) : (s.endDose h result meter).Timed := by
  have delivered (n : Word32) (fill : Fill) : (s.deliverFill h n fill).Timed := by
    unfold State.deliverFill
    split
    · exact timed.updateRecord n fun _ => rfl
    · exact timed.same rfl rfl
  unfold State.endDose
  split
  · exact timed
  next d _ =>
    simp only
    split
    · exact (delivered d.sequence ⟨result, meter⟩).same (by simp) (by simp)
    · exact (delivered d.sequence ⟨result, meter⟩).same rfl rfl

/-- A fall of run permission at a head (R89, R97). -/
theorem permissionLost (timed : s.Timed) (h : Nat) : (s.permissionLost h).Timed := by
  have set (f : Head → Head) : (s.setHead h f).Timed := timed.same rfl rfl
  unfold State.permissionLost State.suspend
  split
  · split
    · exact timed
    · simp only
      split
      · exact (set _).endDose _ _ _
      · exact set _
  · exact timed.same (by simp) (by simp)

/-- Run permission following its conditions (R44). -/
theorem followConditions (timed : s.Timed) : s.followConditions.Timed := by
  unfold State.followConditions
  split
  · split
    · exact timed
    · split
      · exact timed.same (by simp) (by simp)
      · exact timed.same rfl rfl
  · split
    · refine State.forHeads_preserves (fun h _ kept => kept.permissionLost h) ?_
      exact timed.same (by simp) (by simp)
    · exact timed.same rfl rfl

/-- A report of a peer (R30, R44). -/
theorem takeReport (timed : s.Timed) (src : Byte) (values : CabinetCodes) : (s.takeReport src values).Timed := by
  have written : (s.setPeer src.toNat fun p => { p with report := readCabinet values }).Timed := timed.same rfl rfl
  exact written.followConditions

/-! ## The inputs -/

/-- A change of the switch (R34). -/
theorem moveSwitch (timed : s.Timed) (next : SwitchState) (discrepancy : Timer) : (s.moveSwitch next discrepancy).Timed := by
  have moved (c : Cabinet) : ({ s with cabinet := c } : State).Timed := timed.same rfl rfl
  unfold State.moveSwitch
  simp only
  split
  · exact moved _
  · refine State.Timed.followConditions ((moved { s.cabinet with switch := next, discrepancy := discrepancy }).same ?_ ?_)
    all_goals simp

/-- A record opened now by an infeed that has just changed (R48, R52, R54). -/
theorem openRecord (timed : s.Timed) (up : s.tracking.infeed.state = true) (moved : s.tracking.infeed.moved = true)
    (later : ∀ c ∈ s.captures, 1 ≤ (s.now - c).toInt) : (s.openRecord s.now).Timed := by
  obtain ⟨order, each⟩ := (State.capturesOrdered_iff s).mp timed.ordered
  have tracking := s.openRecord_tracking s.now
  rw [State.matchArrival_tracking] at tracking
  have clock : (s.openRecord s.now).clock = s.clock := by simp
  have infeed : (s.openRecord s.now).tracking.infeed = s.tracking.infeed := by rw [tracking]
  have now : (s.openRecord s.now).now = s.now := congrArg HallClock.time clock
  have captures : (s.openRecord s.now).captures = s.captures ++ [s.now] := by
    rw [State.captures, tracking, State.captures, List.map_append]
    simp [State.openingRecord]
  refine ⟨(State.capturesOrdered_iff _).mpr ?_, by rw [infeed]; exact timed.disagrees⟩
  rw [captures, now, clock, infeed]
  refine ⟨List.pairwise_append.mpr ⟨order, List.pairwise_singleton _ _, fun c listed d here => ?_⟩, fun c listed => ?_⟩
  · obtain rfl := List.mem_singleton.mp here
    exact decide_eq_true (Int.lt_of_lt_of_le (by decide) (later c listed))
  · rcases List.mem_append.mp listed with old | new
    · exact each c old
    · obtain rfl := List.mem_singleton.mp new
      refine ⟨by simp, fun free => ?_, fun free => ?_⟩
      · simp [up, moved] at free
      · simp [up] at free

/-- The infeed settles: a capture comes at least one microsecond after the one before it (R48, R54). -/
theorem takeInfeed (timed : s.Timed) : s.takeInfeed.Timed := by
  obtain ⟨order, each⟩ := (State.capturesOrdered_iff s).mp timed.ordered
  unfold State.takeInfeed
  split
  next due =>
    simp only [Debouncer.due, Bool.and_eq_true, Bool.not_eq_true', Timer.hasReached_iff] at due
    obtain ⟨still, n, timer, -⟩ := due
    have differs := timed.disagrees (by rw [timer]; rfl)
    have moved : ({ s with tracking := { s.tracking with infeed := s.tracking.infeed.settle } } : State).Timed := by
      refine ⟨(State.capturesOrdered_iff _).mpr ⟨order, fun c listed => ?_⟩, nofun⟩
      exact ⟨(each c listed).recent, fun _ => (each c listed).apart (.inr still), fun _ => nofun⟩
    simp only
    split
    next high =>
      have low : s.tracking.infeed.state = false := by simpa [high] using differs
      unfold State.capture
      simp only
      split
      · split
        · have counted := moved.same (t := ({ s with tracking := { s.tracking with infeed := s.tracking.infeed.settle } } : State).count
            .captures) rfl rfl
          exact counted.openRecord high rfl fun c listed => (each c listed).passed low still
        · unfold State.blindFiring
          split
          · exact moved.same (by simp) (by simp)
          · exact moved.same rfl rfl
      · exact moved.same rfl rfl
    · exact moved
  · exact timed

end State.Timed

end

end Sys2Proof.Machine

/-! PROOFS of what every command keeps, twenty-sixth part: every command but LOCAL_MICROSECOND keeps the capture times of the Tracking Queue
in order (R48, R54). -/

namespace Sys2Proof.Machine

section
variable {s t : State}

/-- A step of hall time waits until nothing is tracked (R18). -/
theorem State.steps_free {c : Int} (steps : s.steps c = true) : s.tracking.records = [] := by
  simp only [State.steps, State.timedWork, Bool.and_eq_true, Bool.not_eq_true', Bool.or_eq_false_iff, Bool.not_eq_false'] at steps
  simpa using steps.2.1.1.1.1.1.1

/-- A convergence leaves hall time as it is where anything is tracked (R18). -/
theorem State.converge_time (tracks : s.tracking.records ≠ []) : s.converge.clock.time = s.clock.time ∧
    s.converge.clock.frac = s.clock.frac := by
  have quality (u : State) (next : Quality) : (u.setQuality next).clock = { u.clock with quality := next } := by
    unfold State.setQuality
    simp only
    split <;> rfl
  have moved (outcome : Option Int) (included : Nat) : (s.moveQuality outcome included).clock.time = s.clock.time ∧
      (s.moveQuality outcome included).clock.frac = s.clock.frac ∧ (s.moveQuality outcome included).tracking = s.tracking := by
    refine ⟨?_, ?_, by simp⟩
    all_goals
      unfold State.moveQuality
      simp only
      split <;> simp only [State.occur_clock, quality]
  unfold State.converge
  simp only
  split
  next none => exact ⟨(moved _ _).1, (moved _ _).2.1⟩
  next c some =>
    unfold State.correctTime
    split
    next steps => exact absurd ((congrArg Tracking.records (moved _ _).2.2).symm.trans (State.steps_free steps)) tracks
    · exact ⟨(moved _ _).1, (moved _ _).2.1⟩

namespace State.Timed

/-- The change of every debounced input keeps what is kept. -/
theorem settles : Settles State.Timed := by
  refine ⟨fun u timed => ?_, fun u timed => ?_, fun u timed => ?_, fun _ => takeInfeed, fun u timed => ?_,
    fun _ timed => timed.same (by simp) (by simp)⟩
  · unfold State.takeSwitch
    simp only
    split
    · have settled (c : Cabinet) : ({ u with cabinet := c } : State).Timed := timed.same rfl rfl
      exact (settled _).moveSwitch _ _
    · exact timed
  · unfold State.takeDoor
    split
    · have moved : (({ u with cabinet := { u.cabinet with door := u.cabinet.door.settle } } : State).announce).followConditions.Timed :=
        State.Timed.followConditions (timed.same (by simp) (by simp))
      simp only
      split
      · exact moved
      · exact moved.same (by simp) (by simp)
    · exact timed
  · unfold State.takeKey
    split
    · simp only
      split
      all_goals exact timed.same (by simp) (by simp)
    · exact timed
  · unfold State.takePitch
    repeat' split
    all_goals exact timed.congr (.refl _) rfl rfl rfl

/-- Receiving a frame keeps what is kept. -/
theorem receives : Receives State.Timed :=
  ⟨fun _ timed => timed.same rfl rfl, fun _ _ timed => timed.same (by simp) (by simp), fun _ _ timed => timed.same rfl rfl,
    fun _ _ _ timed => timed.same rfl rfl⟩

/-- A new level on an input changes no debounced state (R32). -/
theorem rawInput (timed : s.Timed) (inputs : s.InputsSound) (input : RawInput) : (s.rawInput input).Timed := by
  obtain ⟨order, each⟩ := (State.capturesOrdered_iff s).mp timed.ordered
  have infeed (high : Bool) : ({ s with tracking := { s.tracking with infeed := s.tracking.infeed.rawTo s.listening high } } : State).Timed := by
    have kept : (s.tracking.infeed.rawTo s.listening high).state = s.tracking.infeed.state ∧
        (s.tracking.infeed.rawTo s.listening high).moved = s.tracking.infeed.moved := by
      unfold Debouncer.rawTo Debouncer.rawChanges Debouncer.rawLevel
      repeat' split
      all_goals exact ⟨rfl, rfl⟩
    refine ⟨(State.capturesOrdered_iff _).mpr ⟨order, fun c listed => ?_⟩, fun runs => (inputs.infeed.rawTo high runs).2⟩
    obtain ⟨recent, apart, passed⟩ := each c listed
    exact ⟨recent, fun free => apart (by rwa [kept.1, kept.2] at free), fun down still => passed (kept.1 ▸ down) (kept.2 ▸ still)⟩
  exact settles.rawInput (fun _ _ _ _ => ⟨timed.same rfl rfl, timed.same rfl rfl, timed.same rfl rfl⟩)
    (fun i _ => ⟨infeed i, timed.congr (.refl _) rfl rfl rfl⟩) (fun _ => timed.same rfl rfl) (fun _ _ => timed.same rfl rfl) input

/-! ## The station states and the rounds -/

/-- The end of LOADING finds nothing tracked (R195). -/
theorem endOfLoading (handling : s.Handling) (reading : s.Reading) (eight : s.heads.length = 8) {image : List Byte}
    (accepted : s.accepts image = true) : (effect (.endOfLoading image) s).Timed := by
  have station := State.accepts_loading accepted
  have deaf : s.listening = false := by simp [State.listening, station]
  have entered := (reading.entering image deaf eight).inputs.infeed
  have records : (s.entering image).tracking.records = [] := by
    rw [State.entering_eq]
    exact handling.records.2 (State.stopped_of station (by decide))
  exact settles.atOnce (ofEmpty records fun runs => (entered runs).2)

/-- The end of JOINING finds nothing tracked (R196). -/
theorem endOfJoining (timed : s.Timed) (handling : s.Handling) (due : s.joiningDue = true) : (effect .endOfJoining s).Timed := by
  have tracking : s.joined.tracking = s.tracking := by rw [State.joined_eq]
  rw [effect_endOfJoining]
  refine State.Timed.followConditions (ofEmpty ?_ (by rw [tracking]; exact timed.disagrees))
  rw [tracking]
  exact handling.records.2 (State.stopped_of (State.joiningDue_joining due) (by decide))

/-- A round end steps hall time only where nothing is tracked (R18). -/
theorem endRound (timed : s.Timed) : s.endRound.Timed := by
  have tracking : s.silenced.tracking = s.tracking := by rw [State.silenced_rest]
  rw [State.endRound_eq]
  refine State.Timed.followConditions ?_
  by_cases tracks : s.tracking.records = []
  · exact ofEmpty (by rw [tracking]; exact tracks) (by rw [tracking]; exact timed.disagrees)
  · have placed : s.placeBeacon.tracking = s.tracking ∧ s.placeBeacon.clock = s.clock := by simp
    obtain ⟨time, frac⟩ := State.converge_time (s := s.placeBeacon) (by rw [placed.1]; exact tracks)
    have clock : s.silenced.clock = s.placeBeacon.converge.clearMarks.advanceDue.clock :=
      foldl_keeps State.clock _ (fun u i => by simp) _ _
    refine timed.congr (by rw [State.captures, tracking]; exact .refl _) ?_ ?_ (by rw [tracking])
    · rw [clock]
      exact time.trans (by rw [placed.2])
    · rw [clock]
      exact frac.trans (by rw [placed.2])

/-! ## The camera ports and the decide -/

/-- A trigger, taken or refused (R104, R105). -/
theorem triggerTime (timed : s.Timed) (p : Port) (busy : Bool) : (effect (.triggerTime p busy) s).Timed := by
  have set (f : CameraPort → CameraPort) : (s.setPort p f).Timed := timed.same (by simp) (by simp)
  simp only [effect]
  split
  · exact timed
  · unfold State.trigger
    simp only
    split
    · exact (set _).updateRecord _ fun r => by cases p <;> rfl
    · exact timed.same (by simp) (by simp)

/-- A strobe, lit or skipped (R108 to R110). -/
theorem strobeDue (timed : s.Timed) (p : Port) : (s.strobeDue p).Timed := by
  have left (f : CameraPort → CameraPort) : (s.setPort p f).Timed := timed.same (by simp) (by simp)
  unfold State.strobeDue State.strobe
  split
  · exact timed
  · split
    · simp only
      split
      · exact ((left _).updateRecord _ fun r => by cases p <;> rfl).same rfl rfl
      · exact timed.same (by simp) (by simp)
    · exact timed

/-- A byte of a result message writes verdicts alone (R112, R114 to R116). -/
theorem takeByte (timed : s.Timed) (p : Port) (b : Byte) : (s.takeByte p b).Timed := by
  have set (f : CameraPort → CameraPort) : (s.setPort p f).Timed := timed.same (by simp) (by simp)
  have judged (v : Verdict) (r : Record) : (r.withVerdict p v).capture = r.capture := by cases p <;> rfl
  unfold State.takeByte
  split
  · split
    · exact set _
    · exact timed
  · exact set _
  · exact set _
  · unfold State.takeCheck State.matchResult
    split
    · split
      · exact (set _).same rfl rfl
      next passed hit later _ =>
        have retired : (passed.foldl (fun u e => u.retire p e)
            (s.setPort p fun c => { c with assembler := .hunt, interByte := none })).Timed :=
          foldl_preserves (fun _ _ kept => kept.updateRecord _ (judged _)) _ (set _)
        have left := retired.same (t := (passed.foldl (fun u e => u.retire p e)
            (s.setPort p fun c => { c with assembler := .hunt, interByte := none })).setPort p fun c => { c with pending := later })
          (by simp) (by simp)
        exact (left.updateRecord _ (judged _)).same rfl rfl
    · exact timed.same (by simp) (by simp)

/-- A character handed on (R112). -/
theorem handOn (timed : s.Timed) (p : Port) {act : State → State} (acts : ∀ u, u.Timed → (act u).Timed) : (s.handOn p act).Timed := by
  have freed : (s.setPort p fun c => { c with receiver := c.receiver.handedOn }).Timed := timed.same (by simp) (by simp)
  unfold State.handOn
  simp only
  split
  · exact acts _ (freed.same (by simp) (by simp))
  · exact acts _ freed

/-- A decide takes the oldest record out (R68). -/
theorem decide (timed : s.Timed) : s.decide.Timed := by
  unfold State.decide
  cases records : s.tracking.records with
  | nil => exact timed
  | cons r rest =>
    simp only
    split
    · have left : (s.decideHead r rest).tracking = { s.tracking with records := rest } := by simp [State.decideHead]
      have clock : (s.decideHead r rest).clock = s.clock := by simp
      refine timed.congr ?_ (by rw [clock]) (by rw [clock]) (by rw [left])
      rw [State.captures, State.captures, left, records]
      exact List.sublist_cons_self _ _
    · exact timed

/-- Every command but LOCAL_MICROSECOND keeps the capture times in order. -/
theorem command (timed : s.Timed) (kept : s.Kept) {i : Instr} (stands : occasion i s = true)
    (other : ∀ pins, i ≠ .localMicrosecond pins) : (effect i s).Timed := by
  have handling := kept.handling
  cases i
  case localMicrosecond pins => exact absurd rfl (other pins)
  case powerOnReset | resetPin => exact ofEmpty rfl nofun
  case resetRelease rstHigh =>
    simp only [effect]
    split
    all_goals exact timed.same rfl rfl
  case endOfLoading image => exact endOfLoading handling kept.reading kept.driving.heads stands
  case endOfJoining => exact timed.endOfJoining handling stands
  case roundEnd => exact timed.endRound
  case rawInputChange input => exact timed.rawInput kept.reading.inputs input
  case frameDiscarded dest src kind payload => exact receives.discarded timed dest src
  case crp dest src payload | evt dest src payload | arp dest src payload | ans dest src payload =>
    exact receives.receiveIdle timed _ dest src payload
  case bcn dest src b =>
    exact receives.receive (owner := fun u => (u.takeTime src (s.offsetOf b.stamp s.startStamp) b.quality).takeReport src b.cabinet) timed
      dest src fun u kept =>
        (kept.same rfl rfl : (u.takeTime src (s.offsetOf b.stamp s.startStamp) b.quality).Timed).takeReport src b.cabinet
  case cab dest src v => exact receives.receive timed dest src fun u kept => kept.takeReport src v
  case lck dest src => exact receives.receive (owner := fun u => u.lockOut src) timed dest src fun u kept => kept.same (by simp) (by simp)
  case hnd dest src h =>
    refine receives.ownFrame timed dest src dest fun u kept _ => ?_
    unfold State.takeHandover State.discard State.listArrival
    repeat' split
    all_goals exact kept.congr (.refl _) rfl rfl rfl
  case arq dest src level span seconds => exact receives.ownFrame timed dest src dest fun u kept _ => kept.same (by simp) (by simp)
  case arl dest src number => exact receives.ownFrame timed dest src dest fun u kept _ => kept.same (by simp) (by simp)
  case jog dest src head count => exact receives.ownFrame timed dest src dest fun u kept _ => kept.same (by simp) (by simp)
  case qry dest src table start count clear =>
    exact receives.ownFrame timed dest src dest fun u kept _ => kept.same (by simp) (by simp)
  case transmitStart =>
    simp only [effect]
    split
    · exact timed.same (by simp) (by simp)
    · exact timed
  case frameSent =>
    simp only [effect]
    split
    · exact timed.same (by simp [State.endSent]) (by simp [State.endSent])
    · exact timed
  case collision =>
    simp only [effect]
    split
    · exact timed.same (by simp [State.endCollided]) (by simp [State.endCollided])
    · exact timed
  case switchChannelChange => exact settles.switch s timed
  case discrepancy => exact (receives.occur s .discrepancy _ timed).moveSwitch _ _
  case doorChange => exact settles.door s timed
  case keyChange => exact settles.key s timed
  case capture => exact timed.takeInfeed
  case pitch => exact settles.pitch s timed
  case debounceTimerExpiry input => exact settles.takeQuiet timed input
  case arrivalLost position =>
    simp only [effect, State.loseArrival]
    repeat' split
    all_goals exact timed.congr (.refl _) rfl rfl rfl
  case decide => exact timed.decide
  case doseStart h =>
    simp only [effect, State.startDose]
    split
    · exact timed.same rfl rfl
    · exact timed.endDose h _ _
  case pulseEmitted h =>
    simp only [effect, State.emitPulse, State.jogPulse, State.dosePulse]
    repeat' split
    all_goals exact timed.same (by simp) (by simp)
  case doseTimeout h | resumeLimit h | settleEnd h => exact timed.endDose h _ _
  case driveFaultActive h =>
    exact (timed.endDose h .driveFault (s.head h).faultMeter).same (by simp [effect, State.driveFaults]) (by simp [effect, State.driveFaults])
  case driveFaultInactive h => exact timed.same (by simp [effect, State.driveFaultClears]) (by simp [effect, State.driveFaultClears])
  case triggerTime p busy => exact timed.triggerTime p busy
  case strobeDue p => exact timed.strobeDue p
  case resultByte p b | resultMessage p b => exact timed.handOn p fun u kept => kept.takeByte p b
  case framingError p => exact timed.handOn (act := fun u => u.abandon p) p fun u kept => kept.same (by simp) (by simp)
  all_goals exact timed.same (by simp [effect]) (by simp [effect])

end State.Timed

end

end Sys2Proof.Machine

/-! PROOFS of what every command keeps, twenty-seventh part: the capture times of the Tracking Queue through a local microsecond of a timely
run, and the bounds (R2, R48, R54, R68; log 3). -/

namespace Sys2Proof.Machine

/-! ## Differences of hall times -/

/-- A difference of hall times is the one of their figures, modulo 2^48, taken as signed. -/
theorem Time.sub_toInt (a b : Time) : (a - b).toInt % 281474976710656 = ((a.toNat : Int) - b.toNat) % 281474976710656 ∧
    -140737488355328 ≤ (a - b).toInt ∧ (a - b).toInt < 140737488355328 := by
  have inside := (a - b).isLt
  have ha := a.isLt
  have hb := b.isLt
  rw [BitVec.toInt_eq_toNat_cond]
  simp only [BitVec.toNat_sub] at inside ⊢
  split <;> omega

/-- The earlier of two captures lies further back. -/
theorem since_lt_of_before {c d now : Time} (past : 0 ≤ (now - c).toInt) (recent : 0 ≤ (now - d).toInt ∧ (now - d).toInt < 2 ^ 46)
    (order : before c d = true) : (now - d).toInt < (now - c).toInt := by
  have gap : 0 < (d - c).toInt := of_decide_eq_true order
  have first := Time.sub_toInt now c
  have second := Time.sub_toInt now d
  have between := Time.sub_toInt d c
  omega

/-- A capture whose decide is not due lies less than the longest reject delay back (R68, R192). -/
theorem since_lt_of_undecided {c now : Time} {delay margin : Nat} (recent : 0 ≤ (now - c).toInt ∧ (now - c).toInt < 2 ^ 46)
    (bounds : margin ≤ delay ∧ delay ≤ 30000000) (early : reached (after c delay - BitVec.ofNat 48 margin) now = false) :
    (now - c).toInt < 30000000 := by
  have ahead : (now - (c + BitVec.ofNat 48 delay - BitVec.ofNat 48 margin)).toInt < 0 := by
    simpa [reached, after] using early
  have delay48 : delay % 2 ^ 48 = delay := Nat.mod_eq_of_lt (by omega)
  have margin48 : margin % 2 ^ 48 = margin := Nat.mod_eq_of_lt (by omega)
  have back := Time.sub_toInt now c
  have due := Time.sub_toInt now (c + BitVec.ofNat 48 delay - BitVec.ofNat 48 margin)
  simp only [BitVec.toNat_sub, BitVec.toNat_add, BitVec.toNat_ofNat, delay48, margin48] at due
  omega

/-- In a local microsecond a capture falls back by the increment (R2). -/
theorem HallClock.tick_since {k : HallClock} {c : Time} (recent : 0 ≤ (k.time - c).toInt ∧ (k.time - c).toInt < 2 ^ 46 - 2)
    (low : -4096 ≤ k.trim) (high : k.trim ≤ 4096) : (k.tick.time - c).toInt * 16777216 + k.tick.frac.toNat =
      (k.time - c).toInt * 16777216 + k.frac.toNat + increment k.trim k.slew := by
  have figure := k.tick_figure
  have bounds := increment_bounds k.trim k.slew low high
  have old := Time.sub_toInt k.time c
  have new := Time.sub_toInt k.tick.time c
  have before := k.frac.isLt
  have after := k.tick.frac.isLt
  rw [HallClock.advanced] at figure
  omega

/-- The increment of a sound clock is never far below a microsecond (R2, R3, R21). -/
theorem increment_low {trim slew : Int} (low : -4096 ≤ trim) : 16510976 ≤ increment trim slew := by
  rw [increment_eq]
  repeat' split
  all_goals omega

/-- In a local microsecond a capture falls back by at least most of one, and the infeed may then change again (R48, R54). -/
theorem Past.tick {c : Time} {k : HallClock} {infeed : Debouncer} (past : Past c k.time k.frac infeed)
    (young : (k.time - c).toInt < 2 ^ 46 - 2) (low : -4096 ≤ k.trim) (high : k.trim ≤ 4096) : Past c k.tick.time k.tick.frac infeed.tick := by
  obtain ⟨⟨back, -⟩, apart, -⟩ := past
  have moves := HallClock.tick_since ⟨back, young⟩ low high
  have least := increment_low (slew := k.slew) low
  have most := (increment_bounds k.trim k.slew low high).2
  have before := k.frac.isLt
  have after := k.tick.frac.isLt
  refine ⟨by omega, fun _ => by omega, fun down _ => ?_⟩
  have old := apart (.inl down)
  omega

section
variable {s t : State}

/-! ## A timely run (log 3) -/

/-- In a timely run a decide that is due does not wait for a local microsecond (R68, log 3). -/
theorem State.timely_undecided {image : List Byte} {busy : Bool} (timely : s.timely image busy = true) (runs : s.running = true) {r : Record}
    {rest : List Record} (records : s.tracking.records = r :: rest) : reached (s.decideTime r) s.now = false := by
  have own : Instr.decide ∈ ownCommands s image busy := by simp [ownCommands, blockCommands]
  have idle : s.isDue .decide = false := by simpa using List.all_eq_true.mp timely _ own
  by_contra due
  rw [Bool.not_eq_false] at due
  simp only [State.isDue, exec_decide_due runs records due, bne_eq_false_iff_eq] at idle
  have same := congrArg (fun u => u.tracking.records.length) idle
  simp [records] at same

/-- In a timely run every capture lies less than the longest reject delay back (R54, R68, R192, log 3). -/
theorem State.timely_young (ordered : s.CapturesOrdered) (tracking : s.TrackingSound) {image : List Byte} {busy : Bool}
    (timely : s.timely image busy = true) (runs : s.running = true) : ∀ c ∈ s.captures, (s.now - c).toInt < 30000000 := by
  obtain ⟨order, each⟩ := (State.capturesOrdered_iff s).mp ordered
  cases records : s.tracking.records with
  | nil => simp [State.captures, records]
  | cons r rest =>
    have list : s.captures = r.capture :: rest.map Record.capture := by simp [State.captures, records]
    rw [list] at order each ⊢
    have oldest : (s.now - r.capture).toInt < 30000000 := by
      refine since_lt_of_undecided (each _ List.mem_cons_self).recent ?_ (State.timely_undecided timely runs records)
      cases config : s.loader.record with
      | none => simp [State.cfg, config, ConfigRecord.empty]
      | some k =>
        obtain ⟨less, most⟩ := tracking.delays k config
        simp only [State.cfg, config, Option.getD_some]
        omega
    intro c listed
    rcases List.mem_cons.mp listed with rfl | later
    · exact oldest
    · exact (since_lt_of_before (each _ List.mem_cons_self).recent.1 (each c listed).recent (List.rel_of_pairwise_cons order later)).trans oldest

/-- A local microsecond of a timely run keeps the capture times in order (R2, R54, log 3). -/
theorem State.tick_ordered (kept : s.Kept) (ordered : s.CapturesOrdered) {image : List Byte} {busy : Bool}
    (timely : s.timely image busy = true) (pins : PinSamples) : (s.tick pins).CapturesOrdered := by
  obtain ⟨order, each⟩ := (State.capturesOrdered_iff s).mp ordered
  have captures : (s.tick pins).captures = s.captures := rfl
  refine (State.capturesOrdered_iff _).mpr ?_
  rw [captures]
  refine ⟨order, fun c listed => ?_⟩
  cases runs : s.running with
  | false =>
    rw [State.captures, kept.handling.records.2 runs] at listed
    exact absurd listed List.not_mem_nil
  | true =>
    have station : s.loader.station ≠ .reset := by
      rw [of_decide_eq_true runs]
      decide
    have clock := s.tick_clock pins station
    have young := State.timely_young ordered kept.handling.tracking timely runs c listed
    rw [State.now, clock]
    exact (each c listed).tick (young.trans (by decide)) kept.clock.trim.1 kept.clock.trim.2

/-- Settles O54: every step keeps the tables and the clock in their bounds, and a timely one keeps the captures in order. -/
theorem stepsKeepBounds : Obligations.StepsKeepBounds := by
  refine ⟨fun s t sound runs => ?_, fun s t image busy sound ordered timely runs => ?_⟩
  · have after := step_sound sound runs
    exact ⟨after.bounded, after.clock, after.tracking⟩
  · have timed : s.Timed := ⟨ordered, fun ticks => (sound.inputs.infeed ticks).2⟩
    unfold step at runs
    split at runs
    · obtain rfl : s = t := by simpa using runs
      exact ordered
    next i rest front =>
      have rested : ({ s with pending := rest } : State).Timed := timed.same rfl rfl
      have kept := sound.kept.withPending rest
      cases stands : occasion i { s with pending := rest } with
      | false =>
        obtain rfl : { s with pending := rest } = t := by simpa [exec_idle stands] using runs
        exact rested.ordered
      | true =>
        obtain rfl : effect i { s with pending := rest } = t := by simpa [exec_effect stands] using runs
        by_cases tick : ∃ pins, i = .localMicrosecond pins
        · obtain ⟨pins, rfl⟩ := tick
          have ticked := State.tick_ordered sound.kept ordered (timely (.localMicrosecond pins) (by rw [front]; rfl)) pins
          exact ⟨ticked.order, ticked.recent, ticked.apart, ticked.passed⟩
        · exact (rested.command kept stands fun pins is => tick ⟨pins, is⟩).ordered

end

end Sys2Proof.Machine
